-- ==== Sys2Proof/Word.lean ====
section
/-! DEFINITION. The words of the two links, and the two kinds of thing of which the part has one per deck. -/

namespace Sys2Proof

/-- One character of either serial link (R168). -/
abbrev Byte := BitVec 8

/-- A two-byte field of either link, most significant byte first (R186). -/
abbrev Half := BitVec 16

/-- Decks A and B, and with them gates A and B of the optical path. -/
inductive DeckId where
  | a
  | b
deriving DecidableEq, Repr

/-- The deck that is not this one. -/
def DeckId.other : DeckId → DeckId
  | .a => .b
  | .b => .a

/-- The sense of a count of film travel: forward is toward the take-up spool (0.5). -/
inductive Direction where
  | forward
  | backward
deriving DecidableEq, Repr

/-- The two seat contacts of a deck (R4). -/
inductive Contact where
  | seat1
  | seat2
deriving DecidableEq, Repr

/-- Something of which the part has one for each deck. -/
structure Pair (α : Type) where
  a : α
  b : α
deriving DecidableEq, Repr

/-- The one that belongs to deck `d`. -/
def Pair.get {α : Type} (p : Pair α) : DeckId → α
  | .a => p.a
  | .b => p.b

/-- The pair with deck `d`'s replaced. -/
def Pair.set {α : Type} (p : Pair α) (d : DeckId) (x : α) : Pair α :=
  match d with
  | .a => { p with a := x }
  | .b => { p with b := x }

end Sys2Proof
end

