-- ==== Sys2Proof/Syntax.lean ====
section
/-! DEFINITION. The commands: one constructor per row of spec/opcode_table.json, and the operand blocks they carry. -/

namespace Sys2Proof

/-- One item of a DECLARE FRAMES as sent (10.7): position, class byte (bits 1..0 class, bit 7 setpoint present), and the
setpoint, whose two bytes are sent only when bit 7 of the class byte is set. -/
structure DeclItem where
  position : BitVec 24
  classByte : Byte
  setpoint : Half
deriving DecidableEq, Repr

/-- One step of the sweep plan as sent (10.9): the flag byte (bit 0 enabled) and the signed offset. -/
structure StepWire where
  flags : Byte
  offset : Half
deriving DecidableEq, Repr

/-- The sweep plan as sent (10.9): twelve steps, the extension byte (bit 0) and the settle pause. -/
structure PlanWire where
  steps : List StepWire
  extension : Byte
  pause : Byte
deriving DecidableEq, Repr

/-- The parameter block as sent, in the order of 10.10. -/
structure ParamWire where
  window : Byte
  span : Half
  m1 : Byte
  m2 : Byte
  m3 : Byte
  lowA : Half
  highA : Half
  limitA : Byte
  lowB : Half
  highB : Half
  limitB : Byte
  headTimeout : Half
  tenureLimit : Byte
  policy : Byte
  trackInterval : Byte
  floor : Half
  mask : Byte
deriving DecidableEq, Repr

/-- The commands. The first 32 are the host's requests, each one whole request message with the argument fields of 10.3 as
they stand on the wire; the others are the events of spec/opcode_table.json with the level, reading or byte they bring. -/
inductive Instr where
  /-- IDENTIFY (R177). -/
  | identify
  /-- STATUS (R178). -/
  | status
  /-- EVENTS (R179). -/
  | events
  /-- SET_PARAMETERS (R180, R181). -/
  | setParameters (block : ParamWire)
  /-- READ_PARAMETERS (R182). -/
  | readParameters
  /-- RESTART (R183). -/
  | restart
  /-- DECLARE_ROLL (R58). -/
  | declareRoll (tag : BitVec 24) (width : Byte)
  /-- DECLARE_FRAMES (R76, R77). -/
  | declareFrames (slot : Byte) (first : Half) (items : List DeclItem)
  /-- READ_ROLL (R59). -/
  | readRoll (slot : Byte)
  /-- READ_FRAMES (R78). -/
  | readFrames (slot : Byte) (frame : Half) (count : Byte)
  /-- FIND_FRAME (R79). -/
  | findFrame (slot : Byte) (sec group index : Half)
  /-- ANNOTATE_FRAME (R80). -/
  | annotateFrame (slot : Byte) (frame note : Half)
  /-- SET_FOCUS (R72): bit 0 of the flag byte says that a setpoint is given. -/
  | setFocus (slot : Byte) (frame : Half) (flags : Byte) (setpoint : Half)
  /-- WITHDRAW_FRAME (R81). -/
  | withdrawFrame (slot : Byte) (frame : Half)
  /-- RESTORE_FRAME (R82). -/
  | restoreFrame (slot : Byte) (frame : Half)
  /-- RETIRE_ROLL (R62). -/
  | retireRoll (slot : Byte)
  /-- NAME_ROLL (R60). -/
  | nameRoll (slot : Byte) (tag : BitVec 24)
  /-- BIND_DECK (R61). -/
  | bindDeck (deck slot : Byte)
  /-- MOUNT (R8). -/
  | mount (deck : Byte)
  /-- UNMOUNT (R19). -/
  | unmount (deck : Byte)
  /-- CLEAR_DECK (R24). -/
  | clearDeck (deck : Byte)
  /-- FETCH (R128 to R130). -/
  | fetch (slot : Byte) (frame : Half) (priority options : Byte)
  /-- RANGE. -/
  | range (slot : Byte) (first last : Half) (priority options : Byte)
  /-- LOCATE. -/
  | locate (slot : Byte) (frame : Half) (priority options : Byte)
  /-- FOCUS. -/
  | focus (slot : Byte) (frame : Half) (priority options : Byte)
  /-- INDEX: bit 1 of the options byte says that a target is given. -/
  | index (slot : Byte) (target : Half) (priority options : Byte)
  /-- CANCEL (R137). -/
  | cancel (ticket : Byte)
  /-- QUERY_TICKET (R142). -/
  | queryTicket (ticket : Byte)
  /-- COLLECT (R143). -/
  | collect (ticket : Byte)
  /-- SET_SWEEP_PLAN (R103). -/
  | setSweepPlan (plan : PlanWire)
  /-- READ_SWEEP_PLAN (R104). -/
  | readSweepPlan
  /-- READ_SWEEP_RESULT (R104). -/
  | readSweepResult
  /-- REQUEST_MESSAGE_COMPLETE (R172): the second CRC byte of a request message is received. -/
  | requestMessageComplete (crcLow : Byte)
  /-- NOISE_BYTE (R169). -/
  | noiseByte (byte : Byte)
  /-- ZERO_LENGTH_BYTE (R171). -/
  | zeroLengthByte
  /-- GAP (R170). -/
  | gap
  /-- BROKEN_BYTE (R171). -/
  | brokenByte
  /-- ANSWER_SENT (R172, R183): with the strap levels, looked at where the answer was that of RESTART. -/
  | answerSent (lr1 lr0 : Bool)
  /-- RESETN_ASSERTED (R184). -/
  | resetnAsserted
  /-- RESETN_RELEASED (R184, R168): with the strap levels sampled. -/
  | resetnReleased (lr1 lr0 : Bool)
  /-- SEAT_CONTACT_CHANGE (R4 to R7): the contact and its new level. -/
  | seatContactChange (deck : DeckId) (contact : Contact) (made : Bool)
  /-- SEATING_TIME_END (R4): with the kind lines as they stand (true is high). -/
  | seatingTimeEnd (deck : DeckId) (kind1 kind2 : Bool)
  /-- SEAT_FAULT (R5): the disagreement time has run out. -/
  | seatFault (deck : DeckId)
  /-- ENCODER_COUNT (R1). -/
  | encoderCount (deck : DeckId) (direction : Direction)
  /-- LEADER_TRAVEL_LIMIT (R9, R10). -/
  | leaderTravelLimit (deck : DeckId)
  /-- MARK_OPENING_EDGE (R28, R29). -/
  | markOpeningEdge (deck : DeckId)
  /-- MARK_CLOSING_EDGE (R28 to R30). -/
  | markClosingEdge (deck : DeckId)
  /-- TENSION_READING (R21). -/
  | tensionReading (deck : DeckId) (reading : BitVec 10)
  /-- TENSION_TRIP (R21): the reading that brings the excursion counter to its limit. -/
  | tensionTrip (deck : DeckId) (reading : BitVec 10)
  /-- DRIVE_FAULT (R22): the new level of the drive fault input. -/
  | driveFault (deck : DeckId) (active : Bool)
  /-- FILM_END_FIRES (R18). -/
  | filmEndFires (deck : DeckId)
  /-- FILM_IN_GATE_CLEARED (R20, R9). -/
  | filmInGateCleared (deck : DeckId)
  /-- ARRIVAL (R13): the film comes to rest in SHUTTLING. -/
  | arrival (deck : DeckId)
  /-- FILM_AT_REST (R15). -/
  | filmAtRest (deck : DeckId)
  /-- SEARCH_LOW_END_TURN (R17). -/
  | searchLowEndTurn (deck : DeckId)
  /-- SEARCH_COMPLETION (R17): the film comes to rest at the high end. -/
  | searchCompletion (deck : DeckId)
  /-- LENS_HOME_REACHED (R87): the new level of the home stop input. -/
  | lensHomeReached (deck : DeckId) (made : Bool)
  /-- LENS_HOMING_LIMIT (R87). -/
  | lensHomingLimit (deck : DeckId)
  /-- LENS_ARRIVAL (R88). -/
  | lensArrival (deck : DeckId)
  /-- SETTLE_PAUSE_END (R93). -/
  | settlePauseEnd
  /-- PATH_LIMIT_REACHED (R107): the new level of the limit input of a gate. -/
  | pathLimitReached (gate : DeckId) (made : Bool)
  /-- PATH_MOVE_TIMEOUT (R107, R112). -/
  | pathMoveTimeout
  /-- ORDER_LAST_BYTE_SENT (R115, R118). -/
  | orderLastByteSent
  /-- HEAD_REPORT (R116, R117): one whole report as the camera head sends it, with the CRC it carries. -/
  | headReport (number outcome : Byte) (value : BitVec 32) (crc : Half)
  /-- REPORT_GAP (R116). -/
  | reportGap
  /-- HEAD_BROKEN_BYTE (R116). -/
  | headBrokenByte
  /-- HEAD_TIMEOUT (R117). -/
  | headTimeout
  /-- READY_FALLS (R118). -/
  | readyFalls
  /-- READY_RISES (R118). -/
  | readyRises
  /-- HOLD_ASSERTED (R120, R121). -/
  | holdAsserted
  /-- HOLD_RELEASED (R120). -/
  | holdReleased
  /-- MARK_SENSOR_SAMPLE (R28): true is MARK. -/
  | markSensorSample (deck : DeckId) (mark : Bool)
  /-- LENS_STEP (R87, R88). -/
  | lensStep (deck : DeckId)
  /-- REQUEST_BYTE_RECEIVED (R169). -/
  | requestByteReceived (byte : Byte)
  /-- REPORT_BYTE_RECEIVED (R116). -/
  | reportByteReceived (byte : Byte)
  /-- FILM_END_CLEARED (R18). -/
  | filmEndCleared (deck : DeckId)
  /-- FILM_IN_GATE_SHOWS_FILM (R9). -/
  | filmInGateShowsFilm (deck : DeckId)
deriving DecidableEq, Repr

end Sys2Proof
end

