-- ==== Sys2Proof/Decode.lean ====
section
/-! DEFINITION. Commands spelled by the bits of spec/opcode_table.json: no row of the table gives bits. -/

namespace Sys2Proof

/-- The command a word spells by the table's bits. No row of spec/opcode_table.json gives fixed bits or fields, so no word
spells a command. The request messages' own encoding is in Machine/Operands.lean. -/
def decodeTableWord (_nbits _w : Nat) : Option Instr := none

end Sys2Proof
end

