-- ==== Sys2Proof/Config.lean ====
section
/-! DEFINITION. What the part fixes: its capacities, limits and times, and the one value the spec leaves open. -/

namespace Sys2Proof.Config

/-- The highest film position a counter or a record holds (0.5, R1). -/
def maxPosition : Nat := 2097151

/-- Frame records in the pool (R64). -/
def poolRecords : Nat := 16384

/-- The highest frame number and target frame count (0.5, R128). -/
def maxFrame : Nat := 16384

/-- The highest roll tag (0.5, R58). -/
def maxTag : Nat := 1048575

/-- The highest lens position (R85). -/
def maxLens : Nat := 4095

/-- The default centre of a sweep and of a lens (R92, R100). -/
def defaultCentre : Nat := 2048

/-- Homing steps after which the lens is taken as at home (R87). -/
def homingLimit : Nat := 4352

/-- Leader travel at which a threading or an identification halts (R9, R10). -/
def leaderLimit : Nat := 60000

/-- Half width of the arrival band of a shuttle (R12, R13). -/
def arrivalBand : Nat := 4

/-- Where the running counts of a roll hold (R56). -/
def countHold : Nat := 65535

/-- Where the progress counts of a ticket hold (R127). -/
def progressHold : Nat := 16384

/-- Where the excursion counter holds (R21). -/
def excursionHold : Nat := 15

/-- Where the job count holds (R110). -/
def jobHold : Nat := 32

/-- Times in half milliseconds: seating 50 ms (R4), disagreement 500 ms (R5), gap 5 ms (R170, R116), path move 2 s (R107). -/
def seatingTime : Nat := 100
def disagreementTime : Nat := 1000
def gapTime : Nat := 10
def pathMoveTime : Nat := 4000

/-- Half milliseconds in one unit of the settle pause, 2 ms (R90), and in one millisecond of the head timeout (R115). -/
def settleUnit : Nat := 4
def timeoutUnit : Nat := 2

/-- FREE VALUE (log 9): the position a mark in progress or a search candidate holds after a slip correction has carried
it outside 0..2,097,151; the argument is the sum that does not fit. The spec states no result there. -/
opaque outOfRangePosition : Int → BitVec 21

end Sys2Proof.Config
end

