-- ==== Sys2Proof/Machine/State.lean ====
section
/-! DEFINITION. The state of the part, block by block, as plain data, and its values right after reset. -/

namespace Sys2Proof.Machine

/-- A slot of the roll catalogue, 0..15 (R47). -/
abbrev Slot := Fin 16

/-- A ticket number, 0..15 (R124). -/
abbrev TicketNo := Fin 16

/-- A time that runs: its limit and the time passed, in half milliseconds (log 3). An absent timer is idle. -/
structure Timer where
  limit : Nat
  elapsed : Nat
deriving DecidableEq, Repr

/-! ## Deck controller (chapter 1) -/

/-- The ten deck states of 1.1. -/
inductive DeckState where
  | empty | seated | threading | identifying | ready | shuttling | indexing | searching | rewinding | halted
deriving DecidableEq, Repr

/-- The kind latched from the kind lines (1.2). -/
inductive Kind where
  | mm16 | mm35 | unsupported
deriving DecidableEq, Repr

/-- The width of a roll (R47). -/
inductive Width where
  | mm16 | mm35
deriving DecidableEq, Repr

/-- What follows when a rewind ends (R20). -/
inductive RewindPurpose where
  | unmount | remount
deriving DecidableEq, Repr

/-- Whether a threading was begun by MOUNT or by CLEAR DECK (R8, R24). -/
inductive Identification where
  | fresh | remount
deriving DecidableEq, Repr

/-- The causes of a halt (R23). -/
inductive HaltCause where
  | tensionHigh | tensionLow | driveFault | runout | noLeader
deriving DecidableEq, Repr

/-- The outcomes of an identification (R50, R52). -/
inductive MountOutcome where
  | known | newRoll | transient | duplicateTag | widthMismatch | catalogueFull | resumed
deriving DecidableEq, Repr

/-- What a leader reads (R33). -/
inductive Reading where
  | untagged
  | tag (t : Nat)
deriving DecidableEq, Repr

/-- Whether the film of a deck is still, waits out a deferred beginning, or is in motion (R3). -/
inductive Motion where
  | still | deferred | moving
deriving DecidableEq, Repr

/-- The two phases of threading (R9). -/
inductive ThreadPhase where
  | rewind | advance
deriving DecidableEq, Repr

/-- A search in progress (R17). Its ends move with slip corrections (R36), so they are integers. -/
structure SearchLegs where
  low : Int
  high : Int
  leg2 : Bool
deriving DecidableEq, Repr

/-- The deck event kinds (R26). -/
inductive EventKind where
  | seated | removed | mounted | unmounted | halted | seatFault
deriving DecidableEq, Repr

/-- The deck event set (R26): each kind at most once. -/
structure EventSet where
  seated : Bool
  removed : Bool
  mounted : Bool
  unmounted : Bool
  halted : Bool
  seatFault : Bool
deriving DecidableEq, Repr

/-- No event waits. -/
def EventSet.none : EventSet := ⟨false, false, false, false, false, false⟩

/-- The state a deck controller holds (1.1). `travel` is the direction in which its film has last travelled in the motion under
way, absent at rest (R12 to R14, log 20). -/
structure Deck where
  state : DeckState
  kind : Option Kind
  counter : Nat
  anchored : Bool
  target : Option Nat
  stopping : Bool
  purpose : Option RewindPurpose
  identification : Option Identification
  leaderTravel : Nat
  seating : Option Timer
  disagreement : Option Timer
  seatFaultRecorded : Bool
  search : Option SearchLegs
  excursion : Nat
  events : EventSet
  lastHalt : Option HaltCause
  lastMount : Option MountOutcome
  motion : Motion
  phase : Option ThreadPhase
  reading : Option Reading
  runMetEnd : Bool
  travel : Option Direction
deriving DecidableEq, Repr

/-- A deck after reset (R27). -/
def Deck.reset : Deck where
  state := .empty
  kind := none
  counter := 0
  anchored := false
  target := none
  stopping := false
  purpose := none
  identification := none
  leaderTravel := 0
  seating := none
  disagreement := none
  seatFaultRecorded := false
  search := none
  excursion := 0
  events := EventSet.none
  lastHalt := none
  lastMount := none
  motion := .still
  phase := none
  reading := none
  runMetEnd := false
  travel := none

/-! ## Mark reader (chapter 2) -/

/-- The class of a mark and of a frame record (R30, R66). -/
inductive MarkClass where
  | minor | major | sectionMark
deriving DecidableEq, Repr

/-- A mark whose opening edge has been accepted and whose closing edge has not (R29). -/
structure MarkInProgress where
  direction : Direction
  travel : Nat
  opening : Nat
deriving DecidableEq, Repr

/-- The state of leader reading (R32). -/
inductive LeaderPhase where
  | idle | seek | collect
deriving DecidableEq, Repr

/-- The state a mark reader holds (2.1). -/
structure Mark where
  accepted : Option Bool
  candidate : Bool
  inProgress : Option MarkInProgress
  classified : BitVec 16
  noise : BitVec 16
  fault : BitVec 16
  leader : LeaderPhase
  digits : List Bool
  overlength : Bool
  faultSeen : Bool
  searchReference : Option Int
  searchCandidate : Option Nat
  lastDirection : Option Direction
deriving DecidableEq, Repr

/-- A mark reader after reset (R46). -/
def Mark.reset : Mark where
  accepted := none
  candidate := false
  inProgress := none
  classified := 0
  noise := 0
  fault := 0
  leader := .idle
  digits := []
  overlength := false
  faultSeen := false
  searchReference := none
  searchCandidate := none
  lastDirection := none

/-! ## Roll catalogue (chapter 3) -/

/-- The states of a roll entry (R47). -/
inductive EntryState where
  | free | listed | mounted
deriving DecidableEq, Repr

/-- A roll entry (R47). -/
structure Entry where
  state : EntryState
  deck : Option DeckId
  tag : Option Nat
  width : Option Width
  frameCount : Nat
  extent : Nat
  lastSetpoint : Option Nat
  ticketCount : Nat
  stray : Nat
  correction : Nat
  complete : Bool
  indexFull : Bool
  interrupted : Bool
  releasePending : Bool
deriving DecidableEq, Repr

/-- A FREE entry (R47). -/
def Entry.free : Entry where
  state := .free
  deck := none
  tag := none
  width := none
  frameCount := 0
  extent := 0
  lastSetpoint := none
  ticketCount := 0
  stray := 0
  correction := 0
  complete := false
  indexFull := false
  interrupted := false
  releasePending := false

/-! ## Frame record pool (chapters 2 and 4) -/

/-- The condition of a record (R68). -/
inductive Condition where
  | declared | seen | verified | damaged
deriving DecidableEq, Repr

/-- Who wrote a setpoint (R70). -/
inductive SetpointSource where
  | declared | sweep | host
deriving DecidableEq, Repr

/-- A frame record in use (R66). -/
structure FrameRecord where
  slot : Slot
  frame : Nat
  position : Nat
  cls : MarkClass
  sectionNo : Nat
  groupNo : Nat
  indexNo : Nat
  condition : Condition
  withdrawn : Bool
  missCount : Nat
  setpoint : Option Nat
  source : Option SetpointSource
  figure : Option Nat
  note : Nat
deriving DecidableEq, Repr

/-- A member of a crossing set (R41): a record of the deck's entry, whether it was matched on this crossing, and whether the
counter, while a mark was in progress, last left its window by a correction or in a search, so that it leaves the set with no
miss counted (R42, log 10). -/
structure Crossing where
  frame : Nat
  matched : Bool
  excused : Bool
deriving DecidableEq, Repr

/-- The watched record of a deck with its seen flag (R43). -/
structure Watched where
  frame : Nat
  seen : Bool
deriving DecidableEq, Repr

/-- What the frame record pool holds for each deck (R41, R43, R44, R40). `runExtent` is the extent as it stood when the deck
entered INDEXING; `exhausted` says that the run has been stopped for want of a record (R39). -/
structure PoolDeck where
  crossing : List Crossing
  watched : Option Watched
  found : Option Nat
  searchRecord : Option Nat
  runExtent : Option Nat
  exhausted : Bool
deriving DecidableEq, Repr

/-- What the pool holds for a deck after reset (R46). -/
def PoolDeck.reset : PoolDeck where
  crossing := []
  watched := none
  found := none
  searchRecord := none
  runExtent := none
  exhausted := false

/-! ## Lens drive and focus sequencer (chapter 5) -/

/-- The block that gave a lens its target (R85). -/
inductive Holder where
  | sequencer | scheduler
deriving DecidableEq, Repr

/-- A lens target with its holder. -/
structure LensTarget where
  pos : Nat
  holder : Holder
deriving DecidableEq, Repr

/-- A lens drive (R85): position and target are present exactly in the states that have them. `steps` counts homing steps (R87). -/
inductive Lens where
  | unhomed
  | homing (target : LensTarget) (steps : Nat)
  | idle (pos : Nat)
  | moving (pos : Nat) (target : LensTarget)
deriving DecidableEq, Repr

/-- One step of the sweep plan (R90). -/
structure PlanStep where
  enabled : Bool
  offset : Int
deriving DecidableEq, Repr

/-- The sweep plan (R90). -/
structure Plan where
  steps : Vector PlanStep 12
  extension : Bool
  pause : Nat
deriving DecidableEq, Repr

/-- The default plan (R90). -/
def Plan.default : Plan where
  steps := #v[⟨true, -96⟩, ⟨true, -64⟩, ⟨true, -32⟩, ⟨true, 0⟩, ⟨true, 32⟩, ⟨true, 64⟩, ⟨true, 96⟩,
    ⟨false, 0⟩, ⟨false, 0⟩, ⟨false, 0⟩, ⟨false, 0⟩, ⟨false, 0⟩]
  extension := true
  pause := 1

/-- Why a sweep is aborted (R98). -/
inductive AbortCause where
  | cancel | halt | removal | release | cameraRefused | cameraTimeout | cameraAbsent
deriving DecidableEq, Repr

/-- The phase of a sweep (R91). SETTLE holds the lens position reported with the arrival and the settle time; ORDER holds the
lens position the order was taken at; ABORTING holds the cause. -/
inductive SweepPhase where
  | lens
  | settle (pos : Nat) (timer : Option Timer)
  | order (pos : Nat)
  | aborting (cause : AbortCause)
deriving DecidableEq, Repr

/-- A figure taken: its step, the lens position at which its order was taken, and the figure (R94, R95). -/
structure Figure where
  step : Nat
  pos : Nat
  figure : Nat
deriving DecidableEq, Repr

/-- A sweep in progress (R91). -/
structure Sweep where
  deck : DeckId
  slot : Slot
  frame : Nat
  tag : Option Nat
  forFocus : Bool
  track : Bool
  centre : Nat
  pass : Nat
  step : Nat
  phase : SweepPhase
  figures : List Figure
deriving DecidableEq, Repr

/-- The outcome of a completed sweep (R96). -/
inductive SweepOutcome where
  | good | soft
deriving DecidableEq, Repr

/-- The last sweep result (R97). -/
structure SweepResult where
  deck : DeckId
  slot : Slot
  frame : Nat
  centre : Nat
  pass : Nat
  figures : List Figure
  best : Nat
  outcome : SweepOutcome
  setpoint : Option Nat
deriving DecidableEq, Repr

/-- The focus sequencer (5.2, R91, R101). -/
structure Fseq where
  plan : Plan
  sweep : Option Sweep
  result : Option SweepResult
  skippedTrack : BitVec 16
deriving DecidableEq, Repr

/-- The focus sequencer after reset (R105). -/
def Fseq.reset : Fseq where
  plan := Plan.default
  sweep := none
  result := none
  skippedTrack := 0

/-! ## Optical path arbiter and head link port (chapter 6) -/

/-- The path states (R106): set at a gate, moving (or waiting to move) toward one, or stopped where the move toward it failed. -/
inductive PathState where
  | atGate (gate : DeckId)
  | moving (gate : DeckId)
  | fault (gate : DeckId)
deriving DecidableEq, Repr

/-- The optical path arbiter (R106). `moveTimer` runs exactly while a begun move runs; `faultFirst` is the deck whose request
was raised first since the path entered FAULT (R109). -/
structure Opa where
  path : PathState
  holder : Option DeckId
  jobCount : Nat
  requests : Pair Bool
  job : Bool
  closing : Bool
  wanted : Option DeckId
  moveTimer : Option Timer
  faultFirst : Option DeckId
deriving DecidableEq, Repr

/-- The arbiter as reset leaves it (R122), its move toward gate A still wanted. -/
def Opa.reset : Opa where
  path := .moving .a
  holder := none
  jobCount := 0
  requests := ⟨false, false⟩
  job := false
  closing := false
  wanted := some .a
  moveTimer := none
  faultFirst := none

/-- The kinds of exposure order (6.3). -/
inductive OrderKind where
  | test | capture
deriving DecidableEq, Repr

/-- An exposure order as handed over: deck, kind, lens position and label (R114). -/
structure OrderRequest where
  deck : DeckId
  kind : OrderKind
  pos : Nat
  slot : Slot
  frame : Nat
  tag : Option Nat
deriving DecidableEq, Repr

/-- An exposure order taken and not ended (R114, R115, log 15): its number, whether its first byte has been sent, from when it is
in flight, and its head timeout, which runs from the last byte sent. -/
structure Order where
  number : Byte
  request : OrderRequest
  started : Bool
  timeout : Option Timer
deriving DecidableEq, Repr

/-- The receiver of the head link (R116). -/
inductive ReportReceiver where
  | hunt
  | length
  | body (got : List Byte)
  | check (body : List Byte) (high : Option Byte)
deriving DecidableEq, Repr

/-- The head link port (6.3). `order` is the order taken and not ended; `sending` holds the order frames whose last byte has not been sent, the oldest first (R118). -/
structure Hlp where
  order : Option Order
  nextNumber : Byte
  sending : List (List Byte)
  receiver : ReportReceiver
  gapTimer : Option Timer
  stale : BitVec 16
  bad : BitVec 16
  holdConflict : BitVec 16
deriving DecidableEq, Repr

/-- The head link port after reset (R123). -/
def Hlp.reset : Hlp where
  order := none
  nextNumber := 0
  sending := []
  receiver := .hunt
  gapTimer := none
  stale := 0
  bad := 0
  holdConflict := 0

/-! ## Ticket table (chapter 7) and deck scheduler (chapter 8) -/

/-- The states of a ticket (R126). -/
inductive TicketState where
  | free | awaitRoll | queued | indexing | moving | searching | focusing | exposing | done | failed | cancelled
deriving DecidableEq, Repr

/-- The kinds of a ticket (R125). -/
inductive TicketKind where
  | fetch | range | locate | focus | index
deriving DecidableEq, Repr

/-- The outcomes of a final ticket (R134). -/
inductive TicketOutcome where
  | completed | cancelled | removed | halted | unlisted | lost | notFound | poolFull | cameraTimeout | cameraAbsent
  | cameraRefused | pathFault
deriving DecidableEq, Repr

/-- A ticket (R124). -/
structure Ticket where
  state : TicketState
  kind : Option TicketKind
  priority : Nat
  slot : Option Slot
  first : Option Nat
  last : Option Nat
  extend : Bool
  current : Option Nat
  captured : Nat
  skipped : Nat
  soft : Nat
  firstId : Option (BitVec 32)
  lastId : Option (BitVec 32)
  pathWait : Bool
  cancelPending : Bool
  outcome : Option TicketOutcome
  failedFrame : Option Nat
deriving DecidableEq, Repr

/-- A FREE ticket (R124). -/
def Ticket.free : Ticket where
  state := .free
  kind := none
  priority := 0
  slot := none
  first := none
  last := none
  extend := false
  current := none
  captured := 0
  skipped := 0
  soft := 0
  firstId := none
  lastId := none
  pathWait := false
  cancelPending := false
  outcome := none
  failedFrame := none

/-- The step of an active ticket within its stage (R146). -/
inductive Step where
  | approach | run | track | closing | shuttle | search | sweepWait | sweep | lensWait | captureWait | capture
deriving DecidableEq, Repr

/-- A track sweep called for at a deck (R101): PENDING, or RUNNING; `arrived` says that its shuttle back has arrived (R153). -/
structure Track where
  frame : Nat
  pos : Nat
  running : Bool
  arrived : Bool
deriving DecidableEq, Repr

/-- A failure that waits for an exposure order to end (R164). -/
inductive HeldOutcome where
  | halted | removed
deriving DecidableEq, Repr

/-- What the deck scheduler holds for a deck (R146). -/
structure Sched where
  active : Option TicketNo
  step : Option Step
  indexTarget : Option Nat
  targetReached : Bool
  filmEndMet : Bool
  track : Option Track
  request : Bool
  held : Option HeldOutcome
  softFrame : Bool
  capturePos : Option Nat
  notedLens : Option Nat
deriving DecidableEq, Repr

/-- The deck scheduler after reset (R167). -/
def Sched.reset : Sched where
  active := none
  step := none
  indexTarget := none
  targetReached := false
  filmEndMet := false
  track := none
  request := false
  held := none
  softFrame := false
  capturePos := none
  notedLens := none

/-! ## Request link port (chapter 9) -/

/-- The receiver of the request link (9.2): in BODY it holds the body bytes still to come, in CHECK the first CRC byte once
received. -/
inductive Receiver where
  | hunt
  | length
  | body (length : Byte) (left : Nat) (got : List Byte)
  | check (length : Byte) (body : List Byte) (high : Option Byte)
deriving DecidableEq, Repr

/-- A complete request message (R169). -/
structure Message where
  length : Byte
  body : List Byte
  crc : Half
deriving DecidableEq, Repr

/-- The result codes (9.5). -/
inductive ResultCode where
  | ok | badCrc | badLength | unknown | badArgument | busy | state | full | notFound | held | withdrawn | notListed
  | unsupported | duplicate
deriving DecidableEq, Repr

/-- An answer message without its frame (R174). -/
structure Answer where
  echo : Byte
  result : ResultCode
  summary : Byte
  data : List Byte
deriving DecidableEq, Repr

/-- The message being processed and the answer being sent (R172). -/
structure Processing where
  message : Message
  answer : Answer
deriving DecidableEq, Repr

/-- The link fault flags (R170 to R172). -/
structure LinkFlags where
  gap : Bool
  noise : Bool
  overrun : Bool
deriving DecidableEq, Repr

/-- The request link port. -/
structure Rlp where
  receiver : Receiver
  gapTimer : Option Timer
  processing : Option Processing
  waiting : Option Message
  flags : LinkFlags
  restartTaken : Bool
deriving DecidableEq, Repr

/-- The request link port after reset (R185). -/
def Rlp.reset : Rlp where
  receiver := .hunt
  gapTimer := none
  processing := none
  waiting := none
  flags := ⟨false, false, false⟩
  restartTaken := false

/-- The line rates the straps choose (R168). -/
inductive Rate where
  | baud115200 | baud460800 | baud921600 | baud1843200
deriving DecidableEq, Repr

/-- The focus policies (R100). -/
inductive Policy where
  | off | onDemand | track
deriving DecidableEq, Repr

/-- The tension band and excursion limit of a deck (R21). -/
structure Band where
  low : Nat
  high : Nat
  limit : Nat
deriving DecidableEq, Repr

/-- The attention mask (R176). -/
structure Mask where
  tickets : Bool
  decks : Bool
  link : Bool
deriving DecidableEq, Repr

/-- The parameter block (9.7.1). -/
structure Params where
  window : Nat
  span : Nat
  m1 : Nat
  m2 : Nat
  m3 : Nat
  bands : Pair Band
  headTimeout : Nat
  tenureLimit : Nat
  policy : Policy
  trackInterval : Nat
  floor : Nat
  mask : Mask
deriving DecidableEq, Repr

/-- The defaults of 9.7.1. -/
def Params.default : Params where
  window := 40
  span := 400
  m1 := 12
  m2 := 28
  m3 := 60
  bands := ⟨⟨180, 760, 4⟩, ⟨180, 760, 4⟩⟩
  headTimeout := 250
  tenureLimit := 8
  policy := .onDemand
  trackInterval := 16
  floor := 1200
  mask := ⟨true, true, true⟩

/-! ## Pins (0.4) -/

/-- The input levels of one deck that the part looks at later than they change (log 8). -/
structure DeckPins where
  seat1 : Bool
  seat2 : Bool
  filmInGate : Bool
  filmEnd : Bool
  driveFault : Bool
  lensHome : Bool
deriving DecidableEq, Repr

/-- The other input levels that are held: RESETN asserted, READY high, HOLD asserted, and the limit inputs of the gates. -/
structure Pins where
  resetAsserted : Bool
  ready : Bool
  hold : Bool
  limits : Pair Bool
deriving DecidableEq, Repr

/-- Both contacts open, no film, the sensor showing film, no fault, the home stop open (log 2). -/
def DeckPins.quiet : DeckPins := ⟨false, false, false, false, false, false⟩

/-! ## The whole part -/

/-- The state of the part, and the queue of the commands that wait. -/
structure State where
  pins : Pins
  deckPins : Pair DeckPins
  rate : Rate
  params : Params
  rlp : Rlp
  entries : Vector Entry 16
  chains : Vector (List FrameRecord) 16
  freeCount : Nat
  poolDecks : Pair PoolDeck
  decks : Pair Deck
  marks : Pair Mark
  lenses : Pair Lens
  fseq : Fseq
  opa : Opa
  hlp : Hlp
  tickets : Vector Ticket 16
  admission : List TicketNo
  scheds : Pair Sched
  pending : List Instr
deriving DecidableEq, Repr

/-- The part right after reset: every block at the values of R27, R46, R63, R84, R105, R122, R123, R145, R167 and R185. The
pins are quiet with READY high and HOLD released, so the reset move of R122 has begun: its wanted move is taken up and its
2 s run (R107, log 2). -/
def State.reset : State where
  pins := ⟨false, true, false, ⟨false, false⟩⟩
  deckPins := ⟨DeckPins.quiet, DeckPins.quiet⟩
  rate := .baud115200
  params := Params.default
  rlp := Rlp.reset
  entries := Vector.replicate 16 Entry.free
  chains := Vector.replicate 16 []
  freeCount := Config.poolRecords
  poolDecks := ⟨PoolDeck.reset, PoolDeck.reset⟩
  decks := ⟨Deck.reset, Deck.reset⟩
  marks := ⟨Mark.reset, Mark.reset⟩
  lenses := ⟨.unhomed, .unhomed⟩
  fseq := Fseq.reset
  opa := { Opa.reset with wanted := none, moveTimer := some ⟨Config.pathMoveTime, 0⟩ }
  hlp := Hlp.reset
  tickets := Vector.replicate 16 Ticket.free
  admission := []
  scheds := ⟨Sched.reset, Sched.reset⟩
  pending := []

/-- Why the part stops. -/
inductive Fault where
  /-- Raised by the request commands whose operands no message can carry (Instr.wf fails): a DECLARE FRAMES whose items do
  not fit a body, a sweep plan without twelve steps (log 23). Safe: the hardware never receives such a message. -/
  | noSuchMessage
deriving DecidableEq, Repr

/-- Why a command has no meaning. -/
inductive Refusal where
  /-- Raised by exec for a row whose meaning has not been written. Safe. -/
  | notModelled (mnemonic : String)
deriving DecidableEq, Repr

end Sys2Proof.Machine
end

