-- ==== Sys2Proof/Machine/Ops.lean ====
section
/-! DEFINITION. The named operations over the parts of the state: reading and writing one deck's share, one entry, one
chain, one ticket; counters that wrap or hold; positions; timers and the tick. -/

namespace Sys2Proof.Machine

/-! ## Numbers -/

/-- A count one higher that holds at `top`. -/
def holdUp (top n : Nat) : Nat := min top (n + 1)

/-- The distance of two numbers. -/
def distance (a b : Nat) : Nat := (a - b) + (b - a)

/-- The position `p + δ` where it lies within 0..2,097,151; elsewhere the spec states no value, and the free value of log 9
stands there. -/
def addPosition (p : Nat) (δ : Int) : Nat :=
  let sum := (p : Int) + δ
  if 0 ≤ sum ∧ sum ≤ Config.maxPosition then sum.toNat else (Config.outOfRangePosition sum).toNat

/-- A timer that has just started. -/
def Timer.start (limit : Nat) : Timer := ⟨limit, 0⟩

/-- Half a millisecond more, up to the limit (log 3). -/
def Timer.tick (t : Timer) : Timer := { t with elapsed := min t.limit (t.elapsed + 1) }

/-! ## Shares of the state -/

/-- The sixteen roll slots in order. -/
def allSlots : List Slot := [0, 1, 2, 3, 4, 5, 6, 7, 8, 9, 10, 11, 12, 13, 14, 15]

/-- The sixteen ticket numbers in order. -/
def allTickets : List TicketNo := [0, 1, 2, 3, 4, 5, 6, 7, 8, 9, 10, 11, 12, 13, 14, 15]

namespace State

def deck (s : State) (d : DeckId) : Deck := s.decks.get d
def mark (s : State) (d : DeckId) : Mark := s.marks.get d
def lens (s : State) (d : DeckId) : Lens := s.lenses.get d
def pool (s : State) (d : DeckId) : PoolDeck := s.poolDecks.get d
def sched (s : State) (d : DeckId) : Sched := s.scheds.get d
def sensors (s : State) (d : DeckId) : DeckPins := s.deckPins.get d
def entry (s : State) (k : Slot) : Entry := s.entries[k]
def chain (s : State) (k : Slot) : List FrameRecord := s.chains[k]
def ticket (s : State) (t : TicketNo) : Ticket := s.tickets[t]

def setDeck (s : State) (d : DeckId) (x : Deck) : State := { s with decks := s.decks.set d x }
def setMark (s : State) (d : DeckId) (x : Mark) : State := { s with marks := s.marks.set d x }
def setLens (s : State) (d : DeckId) (x : Lens) : State := { s with lenses := s.lenses.set d x }
def setPool (s : State) (d : DeckId) (x : PoolDeck) : State := { s with poolDecks := s.poolDecks.set d x }
def setSched (s : State) (d : DeckId) (x : Sched) : State := { s with scheds := s.scheds.set d x }
def setSensors (s : State) (d : DeckId) (x : DeckPins) : State := { s with deckPins := s.deckPins.set d x }
def setEntry (s : State) (k : Slot) (x : Entry) : State := { s with entries := s.entries.set k x }
def setChain (s : State) (k : Slot) (x : List FrameRecord) : State := { s with chains := s.chains.set k x }
def setTicket (s : State) (t : TicketNo) (x : Ticket) : State := { s with tickets := s.tickets.set t x }

/-- The entry MOUNTED at a deck: "the deck's entry" of 1.1 and R49. -/
def entryOf (s : State) (d : DeckId) : Option Slot :=
  allSlots.find? fun k => (s.entry k).state == .mounted && (s.entry k).deck == some d

/-- The record of a frame. -/
def record (s : State) (k : Slot) (frame : Nat) : Option FrameRecord :=
  (s.chain k).find? fun r => r.frame == frame

/-- The record of a frame changed. -/
def setRecord (s : State) (k : Slot) (frame : Nat) (f : FrameRecord → FrameRecord) : State :=
  s.setChain k ((s.chain k).map fun r => if r.frame = frame then f r else r)

/-- The position of an entry's last record, if it has records. -/
def lastPosition (s : State) (k : Slot) : Option Nat := (s.chain k).getLast?.map (·.position)

end State

/-! ## Decks -/

/-- Drive power of a deck is on in exactly these states (R2). -/
def DeckState.powered : DeckState → Bool
  | .threading | .identifying | .ready | .shuttling | .indexing | .searching | .rewinding => true
  | .empty | .seated | .halted => false

/-- The four states in which marks are matched and a crossing set exists (R31, R41). -/
def DeckState.matching : DeckState → Bool
  | .ready | .shuttling | .indexing | .searching => true
  | .empty | .seated | .threading | .identifying | .rewinding | .halted => false

/-- Drive power of a deck (R2). -/
def State.power (s : State) (d : DeckId) : Bool := (s.deck d).state.powered

/-- An event kind added to a set (R26). -/
def EventSet.add (e : EventSet) : EventKind → EventSet
  | .seated => { e with seated := true }
  | .removed => { e with removed := true }
  | .mounted => { e with mounted := true }
  | .unmounted => { e with unmounted := true }
  | .halted => { e with halted := true }
  | .seatFault => { e with seatFault := true }

/-- No event waits in a set. -/
def EventSet.isEmpty (e : EventSet) : Bool :=
  !(e.seated || e.removed || e.mounted || e.unmounted || e.halted || e.seatFault)

/-- A deck that has recorded an event (R26). -/
def Deck.recordEvent (k : Deck) (e : EventKind) : Deck := { k with events := k.events.add e }

/-- An exposure order for this deck's gate is in flight, or taken and about to be (R115, log 15). -/
def State.orderFor (s : State) (d : DeckId) : Bool :=
  match s.hlp.order with
  | some o => o.request.deck == d
  | none => false

/-- The selected gate of the path (R106). -/
def PathState.selected : PathState → DeckId
  | .atGate g | .moving g | .fault g => g

/-- HOLD applies to this deck (R120). -/
def State.holdApplies (s : State) (d : DeckId) : Bool := s.pins.hold && s.opa.path.selected == d

/-! ## The part in and out of reset -/

/-- An event has an effect on the blocks only while the part is not held in reset (R184). -/
def live (s : State) (f : State → State) : State := if s.pins.resetAsserted then s else f s

/-! ## Time -/

/-- The phase of a sweep half a millisecond later. -/
def SweepPhase.tick : SweepPhase → SweepPhase
  | .settle p t => .settle p (t.map Timer.tick)
  | .lens => .lens
  | .order p => .order p
  | .aborting c => .aborting c

/-- The seating and disagreement times half a millisecond later. -/
def Deck.tick (k : Deck) : Deck :=
  { k with seating := k.seating.map Timer.tick, disagreement := k.disagreement.map Timer.tick }

/-- Half a millisecond passes: every running time runs on, and nothing else changes (log 3). -/
def tick (s : State) : State :=
  { s with
    rlp := { s.rlp with gapTimer := s.rlp.gapTimer.map Timer.tick }
    decks := ⟨s.decks.a.tick, s.decks.b.tick⟩
    fseq := { s.fseq with sweep := s.fseq.sweep.map fun w => { w with phase := w.phase.tick } }
    opa := { s.opa with moveTimer := s.opa.moveTimer.map Timer.tick }
    hlp := { s.hlp with
      gapTimer := s.hlp.gapTimer.map Timer.tick
      order := s.hlp.order.map fun o => { o with timeout := o.timeout.map Timer.tick } } }

end Sys2Proof.Machine
end

