-- ==== Sys2Proof/Machine/Wire.lean ====
section
/-! DEFINITION. Bytes on the two links: fields most significant byte first (R186), the CRC (R174) and the frame (10.1). -/

namespace Sys2Proof.Machine

/-- The two bytes of a 16-bit field, most significant first (R186). -/
def bytes16 (h : BitVec 16) : List Byte := [h.extractLsb' 8 8, h.extractLsb' 0 8]

/-- The three bytes of a 24-bit field. -/
def bytes24 (h : BitVec 24) : List Byte := [h.extractLsb' 16 8, h.extractLsb' 8 8, h.extractLsb' 0 8]

/-- The four bytes of a 32-bit field. -/
def bytes32 (h : BitVec 32) : List Byte :=
  [h.extractLsb' 24 8, h.extractLsb' 16 8, h.extractLsb' 8 8, h.extractLsb' 0 8]

/-- A number as one byte. -/
def num8 (n : Nat) : Byte := BitVec.ofNat 8 n

/-- A number as two bytes. -/
def num16 (n : Nat) : List Byte := bytes16 (BitVec.ofNat 16 n)

/-- A number as three bytes. -/
def num24 (n : Nat) : List Byte := bytes24 (BitVec.ofNat 24 n)

/-- The 16-bit field of two bytes. -/
def join16 (b1 b0 : Byte) : BitVec 16 := b1 ++ b0

/-- The 24-bit field of three bytes. -/
def join24 (b2 b1 b0 : Byte) : BitVec 24 := b2 ++ b1 ++ b0

/-- The 32-bit field of four bytes. -/
def join32 (b3 b2 b1 b0 : Byte) : BitVec 32 := b3 ++ b2 ++ b1 ++ b0

/-- A byte of bit `n` alone, or 0. -/
def bitAt (n : Nat) (b : Bool) : Byte := if b then BitVec.ofNat 8 (2 ^ n) else 0

/-- One bit fed into the CRC register: polynomial x^16+x^12+x^5+1 (R174). -/
def crcBit (r : Half) (b : Bool) : Half :=
  if r.msb != b then (r <<< 1) ^^^ 0x1021#16 else r <<< 1

/-- One byte fed into the CRC register, most significant bit first (R174). -/
def crcByte (r : Half) (b : Byte) : Half :=
  [7, 6, 5, 4, 3, 2, 1, 0].foldl (fun r i => crcBit r (b.getLsbD i)) r

/-- The CRC of a run of bytes: the register starts at 0xFFFF, with no reflection and no final inversion (R174). -/
def crcOf (bytes : List Byte) : Half := bytes.foldl crcByte 0xFFFF#16

/-- The length byte of a body. -/
def lengthByte (body : List Byte) : Byte := num8 body.length

/-- The CRC a message of this body carries: over the length byte and the body (R173, R174). -/
def bodyCrc (body : List Byte) : Half := crcOf (lengthByte body :: body)

/-- A whole message: lead byte, length, body, CRC high byte first (10.1). -/
def frameBytes (lead : Byte) (body : List Byte) : List Byte :=
  lead :: lengthByte body :: (body ++ bytes16 (bodyCrc body))

/-- The lead bytes of 10.1. -/
def requestLead : Byte := 0xD5
def answerLead : Byte := 0xA9
def orderLead : Byte := 0xE1
def reportLead : Byte := 0x1E

end Sys2Proof.Machine
end

