-- ==== Sys2Proof/Machine/Flags.lean ====
section
/-! DEFINITION. The flag computations: the attention line, the summary byte, the link fault flags, and the drive outputs
that follow from the states. -/

namespace Sys2Proof.Machine

/-- A ticket in one of the final states (R126). -/
def TicketState.isFinal : TicketState → Bool
  | .done | .failed | .cancelled => true
  | .free | .awaitRoll | .queued | .indexing | .moving | .searching | .focusing | .exposing => false

/-- A live ticket: neither FREE nor final (0.6). -/
def TicketState.isLive (t : TicketState) : Bool := t != .free && !t.isFinal

/-- At least one ticket is final and not collected (R175, R176). -/
def State.finalWaiting (s : State) : Bool := allTickets.any fun t => (s.ticket t).state.isFinal

/-- The event set of deck A or of deck B is not empty (R175, R176). -/
def State.eventsWaiting (s : State) : Bool := !(s.deck .a).events.isEmpty || !(s.deck .b).events.isEmpty

/-- At least one link fault flag is set. -/
def LinkFlags.any (f : LinkFlags) : Bool := f.gap || f.noise || f.overrun

/-- No link fault flag is set. -/
def LinkFlags.none : LinkFlags := ⟨false, false, false⟩

/-- The attention line (R176): the level of the enabled causes, deasserted while RESETN holds the part in reset. -/
def State.atn (s : State) : Bool :=
  !s.pins.resetAsserted &&
    ((s.params.mask.tickets && s.finalWaiting) || (s.params.mask.decks && s.eventsWaiting) ||
      (s.params.mask.link && s.rlp.flags.any))

/-- The summary byte (R175, 10.4): shown whatever the attention mask holds. -/
def State.summary (s : State) : Byte :=
  bitAt 0 s.finalWaiting ||| bitAt 1 s.eventsWaiting ||| bitAt 2 s.rlp.flags.any ||| bitAt 3 s.rlp.flags.gap |||
    bitAt 4 s.rlp.flags.noise ||| bitAt 5 s.rlp.flags.overrun

/-- The drive enable output of a deck: active while its power is on (R2). -/
def State.driveEnable (s : State) (d : DeckId) : Bool := s.power d

/-- The brake of a deck: applied while its power is off (R2). -/
def State.brake (s : State) (d : DeckId) : Bool := !s.power d

/-- The spool drives of a deck hold the film under tension while its power is on and are idle while it is off (R2). -/
def State.spoolsDriven (s : State) (d : DeckId) : Bool := s.power d

/-- What the capstan of a deck does: it is idle, brings the film to rest, or drives it one way or the other. -/
inductive Capstan where
  | idle
  | brake
  | drive (dir : Direction)
deriving DecidableEq, Repr

/-- The direction from the counter toward a position; none where the counter stands at it. -/
def directionTo (counter : Nat) (p : Int) : Option Direction :=
  if (counter : Int) < p then some .forward else if p < counter then some .backward else none

/-- The direction in which the state of a deck calls for its film, or none where it calls for rest: threading by its phase (R9),
identification and an index run forward (R10, R16), a shuttle toward its target (R12 to R14), leg 1 of a search toward its low end
and, there, forward, leg 2 forward up to its high end (R17), a rewind backward (R20), and rest once a stop has been taken (R10,
R15). Every distance is measured from the counter as corrected (R1). -/
def Deck.heading (k : Deck) : Option Direction :=
  if k.stopping then none
  else
    match k.state with
    | .threading => k.phase.map fun p => match p with
      | .rewind => .backward
      | .advance => .forward
    | .identifying | .indexing => some .forward
    | .shuttling => k.target.bind fun t => directionTo k.counter t
    | .searching => k.search.bind fun l =>
      if l.leg2 then (if (k.counter : Int) < l.high then some .forward else none)
      else if l.low < k.counter then some .backward
      else some .forward
    | .rewinding => some .backward
    | .empty | .seated | .ready | .halted => none

/-- The capstan of a deck (R2, R3, R9, R10, R12 to R17, R20): idle while power is off or the film is not in motion; it brakes where
the deck has no heading, and in a shuttle whose film travels against its heading (and reverses once the film is at rest: R14);
else it drives along the heading, so that a threading drives forward from the end of its rewind phase (R9), a remount from the
end of its rewind (R20), and a search from its turn (R17) (log 37). -/
def State.capstan (s : State) (d : DeckId) : Capstan :=
  let k := s.deck d
  if s.power d = false ∨ k.motion ≠ .moving then .idle
  else
    match k.heading with
    | none => .brake
    | some dir => if k.state = .shuttling ∧ k.travel ≠ none ∧ k.travel ≠ some dir then .brake else .drive dir

/-- The capstan of a deck is driven or braking, not idle (R2, R3). -/
def State.capstanDriven (s : State) (d : DeckId) : Bool := s.capstan d != .idle

/-- The drive output toward a gate: active while a begun move toward it runs (R106, R107). -/
def State.pathDrive (s : State) (g : DeckId) : Bool := s.opa.path == .moving g && s.opa.moveTimer.isSome

/-- The direction of the steps a deck's lens issues (R87, R88): toward home or away from it; none while it issues none. -/
def State.lensHomeward (s : State) (d : DeckId) : Option Bool :=
  match s.lens d with
  | .homing _ _ => some true
  | .moving p t => some (decide (t.pos < p))
  | .unhomed | .idle _ => none

/-- The link fault flags a request byte or a gap can set. -/
def State.setNoise (s : State) : State := { s with rlp := { s.rlp with flags := { s.rlp.flags with noise := true } } }
def State.setGap (s : State) : State := { s with rlp := { s.rlp with flags := { s.rlp.flags with gap := true } } }
def State.setOverrun (s : State) : State := { s with rlp := { s.rlp with flags := { s.rlp.flags with overrun := true } } }

/-- The flags cleared once a summary byte has been built (R175). -/
def State.clearFlags (s : State) : State := { s with rlp := { s.rlp with flags := LinkFlags.none } }

end Sys2Proof.Machine
end

