-- ==== Sys2Proof/Machine/Head.lean ====
section
/-! DEFINITION. The head link port: exposure orders (R114, R115), reports (R116, R190) and the ends of orders (R117). -/

namespace Sys2Proof.Machine

/-- What came of an order handed over (R114). -/
inductive HandOver where
  | unsent
  | absent
  | sent
deriving DecidableEq, Repr

/-- How an order ends (R117): the report's value is read by the kind of the order, so both readings stand in it. -/
inductive OrderEnd where
  | taken (value : BitVec 32)
  | refused
  | timeout
  | absent
deriving DecidableEq, Repr

/-- The codes of a deck or gate (10.4). -/
def deckCode : DeckId → Nat
  | .a => 0
  | .b => 1

/-- The body of an exposure order (10.11). -/
def orderBody (number : Byte) (r : OrderRequest) : List Byte :=
  number :: (bitAt 0 (r.kind == .capture) ||| bitAt 1 (r.deck == .b) ||| bitAt 7 r.tag.isSome) ::
    (num16 r.pos ++ [num8 r.slot.val] ++ num16 r.frame ++ num24 (r.tag.getD 0))

/-- The message of an exposure order. -/
def orderFrame (number : Byte) (r : OrderRequest) : List Byte := frameBytes orderLead (orderBody number r)

/-- An order handed to the head link port (R114): it is sent only for the deck that holds tenure, with none in flight and
READY high; it takes the order number held, which then wraps upward by 1 (R115). Its first byte is sent at once where no earlier
order's bytes are still being sent (R118). -/
def State.handOver (s : State) (r : OrderRequest) : State × HandOver :=
  if s.opa.holder ≠ some r.deck ∨ s.hlp.order.isSome then (s, .unsent)
  else if !s.pins.ready then (s, .absent)
  else
    ({ s with hlp := { s.hlp with
        order := some ⟨s.hlp.nextNumber, r, s.hlp.sending.isEmpty, none⟩
        nextNumber := s.hlp.nextNumber + 1
        sending := s.hlp.sending ++ [orderFrame s.hlp.nextNumber r] } }, .sent)

/-- The order has ended: the port has none (R117). -/
def State.clearOrder (s : State) : State := { s with hlp := { s.hlp with order := none } }

/-- The last byte of the order being sent has been sent, and the first byte of the next one follows it (R115, R118). The order
the port holds is always the newest one handed over: it is in flight once it alone is left to send, and its head timeout starts
when nothing is left. -/
def Hlp.lastByteSent (h : Hlp) (timeout : Nat) : Hlp :=
  match h.sending with
  | [] => h
  | _ :: rest =>
    { h with
      sending := rest
      order :=
        match rest, h.order with
        | [], some o => some { o with
            started := true
            timeout := o.timeout.orElse fun _ => some (Timer.start (timeout * Config.timeoutUnit)) }
        | [_], some o => some { o with started := true }
        | _, x => x }

/-- The report receiver back in the hunt, with no gap timed. -/
def Hlp.hunt (h : Hlp) : Hlp := { h with receiver := .hunt, gapTimer := none }

/-- A partial or received report is bad: discarded and counted, and the port hunts (R116). -/
def Hlp.badReport (h : Hlp) : Hlp := { h.hunt with bad := h.bad + 1 }

/-- The report a receiver has taken whole: number, outcome and value, or none where it is bad (R116, R190). -/
structure Report where
  number : Byte
  taken : Bool
  value : BitVec 32
deriving DecidableEq, Repr

/-- A report body of six bytes with an outcome of TAKEN or REFUSED (10.11, R190). -/
def reportOf : List Byte → Option Report
  | [n, o, v3, v2, v1, v0] =>
    if o = 0x01 then some ⟨n, true, join32 v3 v2 v1 v0⟩
    else if o = 0x02 then some ⟨n, false, join32 v3 v2 v1 v0⟩
    else none
  | _ => none

/-- One byte taken by the report receiver (R116), and the whole report if it was the last byte of a good one. The tail of a report
cut by a reset meets a receiver that hunts (R123): its bytes are discarded and counted nowhere, unless one of them is the lead
byte (log 34). -/
def Hlp.takeByte (h : Hlp) (b : Byte) : Hlp × Option Report :=
  let timed (r : ReportReceiver) : Hlp := { h with receiver := r, gapTimer := some (Timer.start Config.gapTime) }
  match h.receiver with
  | .hunt => if b = reportLead then (timed .length, none) else (h, none)
  | .length => if b = 6 then (timed (.body []), none) else (h.badReport, none)
  | .body got =>
    if got.length + 1 < 6 then (timed (.body (got ++ [b])), none) else (timed (.check (got ++ [b]) none), none)
  | .check body none => (timed (.check body (some b)), none)
  | .check body (some hi) =>
    if join16 hi b = bodyCrc body then
      match reportOf body with
      | some r => (h.hunt, some r)
      | none => (h.badReport, none)
    else (h.badReport, none)

/-- The order a report completes (R116): one in flight whose number the report carries. -/
def Hlp.completes (h : Hlp) (r : Report) : Option Order :=
  match h.order with
  | some o => if o.started ∧ o.number = r.number then some o else none
  | none => none

end Sys2Proof.Machine
end

