-- ==== Sys2Proof/Machine/Lens.lean ====
section
/-! DEFINITION. The lens drive (R85 to R89). -/

namespace Sys2Proof.Machine

/-- A lens target limited to 0..4,095 (R86). -/
def clampLens (target : Int) : Nat := (min (max target 0) Config.maxLens).toNat

/-- A lens that is taken as at home (R87): position 0; an arrival if the standing target is 0. -/
def lensAtHome (t : LensTarget) : Lens × Option LensTarget :=
  if t.pos = 0 then (.idle 0, some t) else (.moving 0 t, none)

/-- A move command reaching a lens (R86), with the power of its deck and its home stop input. The second part is the arrival
taken at once. -/
def lensCommand (power home : Bool) (l : Lens) (target : Int) (h : Holder) : Lens × Option LensTarget :=
  let t : LensTarget := ⟨clampLens target, h⟩
  if power then
    match l with
    | .unhomed => if home then lensAtHome t else (.homing t 0, none)
    | .homing _ n => (.homing t n, none)
    | .idle p => if t.pos = p then (.idle p, some t) else (.moving p t, none)
    | .moving p _ => if t.pos = p then (.idle p, some t) else (.moving p t, none)
  else (l, none)

/-- One step issued (R87, R88): toward home, where the 4,352nd step takes the lens as at home, or toward the target. -/
def lensStepped : Lens → Lens × Option LensTarget
  | .homing t n => if n + 1 ≥ Config.homingLimit then lensAtHome t else (.homing t (n + 1), none)
  | .moving p t =>
    let p' := if p < t.pos then p + 1 else p - 1
    if p' = t.pos then (.idle p', some t) else (.moving p' t, none)
  | .unhomed => (.unhomed, none)
  | .idle p => (.idle p, none)

/-- The home stop shows made (R87). -/
def lensHomeMade : Lens → Lens × Option LensTarget
  | .homing t _ => lensAtHome t
  | .unhomed => (.unhomed, none)
  | .idle p => (.idle p, none)
  | .moving p t => (.moving p t, none)

/-- The lens has come to its target (R88): the command that stands for the rest of the travel (log 6). -/
def lensArrives : Lens → Lens × Option LensTarget
  | .moving _ t => (.idle t.pos, some t)
  | .unhomed => (.unhomed, none)
  | .homing t n => (.homing t n, none)
  | .idle p => (.idle p, none)

/-- A move command given to the lens of a deck (R86). The arrival taken at once, if there is one, is the lens position. -/
def State.lensMove (s : State) (d : DeckId) (target : Int) (h : Holder) : State × Option Nat :=
  let r := lensCommand (s.power d) (s.sensors d).lensHome (s.lens d) target h
  (s.setLens d r.1, r.2.map (·.pos))

/-- The position of a lens, absent while UNHOMED or HOMING (R85). -/
def Lens.position? : Lens → Option Nat
  | .unhomed | .homing _ _ => none
  | .idle p | .moving p _ => some p

end Sys2Proof.Machine
end

