-- ==== Sys2Proof/Machine/Layouts.lean ====
section
/-! DEFINITION. The answer data of the requests, byte by byte (10.4 to 10.10). An absent field is sent as 0 with its flag
clear, and reserved bits as 0 (R186, R187). -/

namespace Sys2Proof.Machine

/-- The eight bytes of a 64-bit word, most significant first. -/
def num64 (n : Nat) : List Byte :=
  [num8 (n / 2 ^ 56), num8 (n / 2 ^ 48), num8 (n / 2 ^ 40), num8 (n / 2 ^ 32), num8 (n / 2 ^ 24), num8 (n / 2 ^ 16),
    num8 (n / 2 ^ 8), num8 n]

/-- A flag as a number. -/
def flag (b : Bool) : Nat := b.toNat

/-! ## Codes (10.4) -/

def ResultCode.code : ResultCode → Byte
  | .ok => 0x00
  | .badCrc => 0x01
  | .badLength => 0x02
  | .unknown => 0x03
  | .badArgument => 0x04
  | .busy => 0x05
  | .state => 0x06
  | .full => 0x07
  | .notFound => 0x08
  | .held => 0x09
  | .withdrawn => 0x0A
  | .notListed => 0x0B
  | .unsupported => 0x0C
  | .duplicate => 0x0D

def DeckState.code : DeckState → Nat
  | .empty => 0
  | .seated => 1
  | .threading => 2
  | .identifying => 3
  | .ready => 4
  | .shuttling => 5
  | .indexing => 6
  | .searching => 7
  | .rewinding => 8
  | .halted => 9

def Lens.code : Lens → Nat
  | .unhomed => 0
  | .homing _ _ => 1
  | .idle _ => 2
  | .moving _ _ => 3

def PathState.code : PathState → Nat
  | .atGate .a => 0
  | .atGate .b => 1
  | .moving .a => 2
  | .moving .b => 3
  | .fault _ => 4

def EntryState.code : EntryState → Nat
  | .free => 0
  | .listed => 1
  | .mounted => 2

def Width.code : Width → Nat
  | .mm16 => 0
  | .mm35 => 1

def MarkClass.code : MarkClass → Nat
  | .minor => 0
  | .major => 1
  | .sectionMark => 2

def Condition.code : Condition → Nat
  | .declared => 0
  | .seen => 1
  | .verified => 2
  | .damaged => 3

def SetpointSource.code : SetpointSource → Nat
  | .declared => 0
  | .sweep => 1
  | .host => 2

def TicketState.code : TicketState → Nat
  | .free => 0
  | .awaitRoll => 1
  | .queued => 2
  | .indexing => 3
  | .moving => 4
  | .searching => 5
  | .focusing => 6
  | .exposing => 7
  | .done => 8
  | .failed => 9
  | .cancelled => 10

def TicketKind.code : TicketKind → Nat
  | .fetch => 0
  | .range => 1
  | .locate => 2
  | .focus => 3
  | .index => 4

def TicketOutcome.code : TicketOutcome → Nat
  | .completed => 0
  | .cancelled => 1
  | .removed => 2
  | .halted => 3
  | .unlisted => 4
  | .lost => 5
  | .notFound => 6
  | .poolFull => 7
  | .cameraTimeout => 8
  | .cameraAbsent => 9
  | .cameraRefused => 10
  | .pathFault => 11

def HaltCause.code : HaltCause → Nat
  | .tensionHigh => 0
  | .tensionLow => 1
  | .driveFault => 2
  | .runout => 3
  | .noLeader => 4

def MountOutcome.code : MountOutcome → Nat
  | .known => 0
  | .newRoll => 1
  | .transient => 2
  | .duplicateTag => 3
  | .widthMismatch => 4
  | .catalogueFull => 5
  | .resumed => 6

def Policy.code : Policy → Nat
  | .off => 0
  | .onDemand => 1
  | .track => 2

def SweepOutcome.code : SweepOutcome → Nat
  | .good => 0
  | .soft => 1

/-! ## Link answers (10.5) -/

/-- IDENTIFY (R177). -/
def identifyData : List Byte :=
  num16 0x0840 ++ [num8 1, num8 16] ++ num16 Config.poolRecords ++ [num8 16, num8 12]

/-- A deck's block of STATUS (R178). -/
def statusDeck (s : State) (d : DeckId) : List Byte :=
  let k := s.deck d
  let l := s.lens d
  let m := s.mark d
  num8 k.state.code :: num24 (2 ^ 23 * flag k.anchored + k.counter) ++
    [num8 (l.code + 2 ^ 7 * flag l.position?.isSome)] ++ num16 (l.position?.getD 0) ++
    bytes16 m.classified ++ bytes16 m.noise ++ bytes16 m.fault

/-- STATUS, 38 bytes (R178). -/
def statusData (s : State) : List Byte :=
  statusDeck s .a ++ statusDeck s .b ++
    [num8 s.opa.path.code, num8 ((s.opa.holder.map fun d => deckCode d + 1).getD 0)] ++ num16 s.freeCount ++
    bytes16 s.fseq.skippedTrack ++ bytes16 s.hlp.stale ++ bytes16 s.hlp.bad ++ bytes16 s.hlp.holdConflict

/-- An event set as sent. -/
def EventSet.byte (e : EventSet) : Byte :=
  num8 (flag e.seated + 2 * flag e.removed + 4 * flag e.mounted + 8 * flag e.unmounted + 16 * flag e.halted +
    32 * flag e.seatFault)

/-- A companion field: bit 7 present, bits 2..0 the code (R187). -/
def companion (code : Option Nat) : Byte := num8 ((code.map fun n => 2 ^ 7 + n).getD 0)

/-- A deck's block of EVENTS (R179). -/
def eventsDeck (k : Deck) : List Byte :=
  [k.events.byte, companion (k.lastHalt.map (·.code)), companion (k.lastMount.map (·.code))]

/-- EVENTS, 6 bytes (R179). -/
def eventsData (s : State) : List Byte := eventsDeck (s.deck .a) ++ eventsDeck (s.deck .b)

/-- The parameter block, 24 bytes (10.10). -/
def paramsData (p : Params) : List Byte :=
  num8 p.window :: num16 p.span ++ [num8 p.m1, num8 p.m2, num8 p.m3] ++
    num16 p.bands.a.low ++ num16 p.bands.a.high ++ [num8 p.bands.a.limit] ++
    num16 p.bands.b.low ++ num16 p.bands.b.high ++ [num8 p.bands.b.limit] ++ num16 p.headTimeout ++
    [num8 p.tenureLimit, num8 p.policy.code, num8 p.trackInterval] ++ num16 p.floor ++
    [num8 (flag p.mask.tickets + 2 * flag p.mask.decks + 4 * flag p.mask.link)]

/-! ## Entries, records, tickets (10.6 to 10.8) -/

/-- A roll entry, 18 bytes (10.6). -/
def entryData (k : Slot) (e : Entry) : List Byte :=
  [num8 k.val,
    num8 (e.state.code + 4 * flag e.deck.isSome + 8 * ((e.deck.map deckCode).getD 0) + 16 * flag e.width.isSome +
      32 * ((e.width.map (·.code)).getD 0) + 64 * flag e.releasePending),
    num8 (flag e.complete + 2 * flag e.indexFull + 4 * flag e.interrupted + 8 * flag e.tag.isSome +
      16 * flag e.lastSetpoint.isSome)] ++
    num24 (e.tag.getD 0) ++ num16 e.frameCount ++ num24 e.extent ++ num16 (e.lastSetpoint.getD 0) ++
    [num8 e.ticketCount] ++ num16 e.stray ++ num16 e.correction

/-- The position word of a record (10.7). -/
def positionWord (r : FrameRecord) : Nat :=
  2 ^ 23 * flag r.withdrawn + 2 ^ 21 * ((r.source.map (·.code)).getD 0) + r.position

/-- The record word of a record (10.7). -/
def recordWord (r : FrameRecord) : Nat :=
  2 ^ 49 * r.sectionNo + 2 ^ 34 * r.groupNo + 2 ^ 19 * r.indexNo + 2 ^ 7 * r.setpoint.getD 0 + 2 ^ 5 * r.cls.code +
    2 ^ 3 * r.condition.code + 2 * r.missCount + flag r.setpoint.isSome

/-- A frame record, 15 bytes (10.7). -/
def recordData (r : FrameRecord) : List Byte :=
  num24 (positionWord r) ++ num64 (recordWord r) ++ num16 (r.figure.getD 0) ++ num16 r.note

/-- READ FRAMES (10.7). -/
def framesData (k : Slot) (frame : Nat) (records : List FrameRecord) : List Byte :=
  num8 k.val :: num16 frame ++ [num8 records.length] ++ records.flatMap recordData

/-- A ticket, 28 bytes (10.8). -/
def ticketData (n : TicketNo) (t : Ticket) : List Byte :=
  [num8 n.val, num8 t.state.code,
    num8 (flag t.kind.isSome + 2 * flag t.first.isSome + 4 * flag t.current.isSome + 8 * flag t.firstId.isSome +
      16 * flag t.lastId.isSome + 32 * flag t.outcome.isSome + 64 * flag t.failedFrame.isSome),
    num8 ((t.kind.map (·.code)).getD 0 + 8 * flag t.extend + 16 * t.priority + 64 * flag t.pathWait +
      128 * flag t.cancelPending),
    num8 ((t.slot.map (·.val)).getD 0)] ++
    num16 (t.first.getD 0) ++ num16 (t.last.getD 0) ++ num16 (t.current.getD 0) ++
    num16 t.captured ++ num16 t.skipped ++ num16 t.soft ++
    bytes32 (t.firstId.getD 0) ++ bytes32 (t.lastId.getD 0) ++
    [num8 ((t.outcome.map (·.code)).getD 0)] ++ num16 (t.failedFrame.getD 0)

/-! ## Sweep plan and result (10.9) -/

/-- A signed 16-bit field (R186). -/
def signed16 (n : Int) : List Byte := bytes16 (BitVec.ofInt 16 n)

/-- The sweep plan, 38 bytes (10.9). -/
def planData (p : Plan) : List Byte :=
  (p.steps.toList.flatMap fun x => bitAt 0 x.enabled :: signed16 x.offset) ++ [bitAt 0 p.extension, num8 p.pause]

/-- A figure of a sweep result. -/
def figureData (f : Figure) : List Byte := num8 f.step :: num16 f.figure

/-- READ SWEEP RESULT (10.9). -/
def resultData (q : Fseq) : List Byte :=
  let running := 2 * flag q.sweep.isSome + 4 * ((q.sweep.map fun w => deckCode w.deck).getD 0)
  match q.result with
  | none => num8 running :: List.replicate 10 0
  | some r =>
    [num8 (1 + running + 8 * deckCode r.deck + 16 * r.outcome.code + 32 * flag r.setpoint.isSome), num8 r.slot.val] ++
      num16 r.frame ++ num16 r.centre ++ [num8 r.pass, num8 r.best, num8 r.figures.length] ++
      num16 (r.setpoint.getD 0) ++ r.figures.flatMap figureData

end Sys2Proof.Machine
end

