-- ==== Sys2Proof/WellFormed.lean ====
section
/-! DEFINITION. Which commands a message can carry: the checks on operands that their types do not make. -/

namespace Sys2Proof

/-- The bytes of one DECLARE FRAMES item: 6 with a setpoint, 4 without (10.7, R189). -/
def DeclItem.size (i : DeclItem) : Nat := if i.classByte.msb then 6 else 4

/-- An item whose setpoint flag is clear sends no setpoint bytes, so it carries no setpoint (R187). -/
def DeclItem.wf (i : DeclItem) : Bool := i.classByte.msb || i.setpoint == 0

/-- The items of a DECLARE FRAMES can be sent: each sends what it holds, and the body is at most 255 bytes (10.1, 10.3). -/
def itemsWf (items : List DeclItem) : Bool :=
  items.all DeclItem.wf && decide (5 + (items.map DeclItem.size).sum ≤ 255)

/-- A sweep plan has twelve steps (10.9). -/
def PlanWire.wf (p : PlanWire) : Bool := p.steps.length == 12

/-- A command whose operands its message can carry; every other operand is bounded by its type. -/
def Instr.wf : Instr → Bool
  | .declareFrames _ _ items => itemsWf items
  | .setSweepPlan plan => plan.wf
  | .identify | .status | .events | .setParameters _ | .readParameters | .restart | .declareRoll _ _
  | .readRoll _ | .readFrames _ _ _ | .findFrame _ _ _ _ | .annotateFrame _ _ _ | .setFocus _ _ _ _
  | .withdrawFrame _ _ | .restoreFrame _ _ | .retireRoll _ | .nameRoll _ _ | .bindDeck _ _ | .mount _
  | .unmount _ | .clearDeck _ | .fetch _ _ _ _ | .range _ _ _ _ _ | .locate _ _ _ _ | .focus _ _ _ _
  | .index _ _ _ _ | .cancel _ | .queryTicket _ | .collect _ | .readSweepPlan | .readSweepResult
  | .requestMessageComplete _ | .noiseByte _ | .zeroLengthByte | .gap | .brokenByte | .answerSent _ _
  | .resetnAsserted | .resetnReleased _ _ | .seatContactChange _ _ _ | .seatingTimeEnd _ _ _ | .seatFault _
  | .encoderCount _ _ | .leaderTravelLimit _ | .markOpeningEdge _ | .markClosingEdge _ | .tensionReading _ _
  | .tensionTrip _ _ | .driveFault _ _ | .filmEndFires _ | .filmInGateCleared _ | .arrival _ | .filmAtRest _
  | .searchLowEndTurn _ | .searchCompletion _ | .lensHomeReached _ _ | .lensHomingLimit _ | .lensArrival _
  | .settlePauseEnd | .pathLimitReached _ _ | .pathMoveTimeout | .orderLastByteSent | .headReport _ _ _ _
  | .reportGap | .headBrokenByte | .headTimeout | .readyFalls | .readyRises | .holdAsserted | .holdReleased
  | .markSensorSample _ _ | .lensStep _ | .requestByteReceived _ | .reportByteReceived _ | .filmEndCleared _
  | .filmInGateShowsFilm _ => true

end Sys2Proof
end

