-- ==== Sys2Proof/Machine/Operands.lean ====
section
/-! DEFINITION. The operand forms: the 32 requests with their arguments as they stand on the wire, their bodies (10.3), and
the reading of a body back into a request (R173, R189). -/

namespace Sys2Proof.Machine

/-- A request with its argument fields as sent (10.3). -/
inductive Request where
  | identify
  | status
  | events
  | setParameters (block : ParamWire)
  | readParameters
  | restart
  | declareRoll (tag : BitVec 24) (width : Byte)
  | declareFrames (slot : Byte) (first : Half) (count : Byte) (items : List DeclItem)
  | readRoll (slot : Byte)
  | readFrames (slot : Byte) (frame : Half) (count : Byte)
  | findFrame (slot : Byte) (sec group index : Half)
  | annotateFrame (slot : Byte) (frame note : Half)
  | setFocus (slot : Byte) (frame : Half) (flags : Byte) (setpoint : Half)
  | withdrawFrame (slot : Byte) (frame : Half)
  | restoreFrame (slot : Byte) (frame : Half)
  | retireRoll (slot : Byte)
  | nameRoll (slot : Byte) (tag : BitVec 24)
  | bindDeck (deck slot : Byte)
  | mount (deck : Byte)
  | unmount (deck : Byte)
  | clearDeck (deck : Byte)
  | fetch (slot : Byte) (frame : Half) (priority options : Byte)
  | range (slot : Byte) (first last : Half) (priority options : Byte)
  | locate (slot : Byte) (frame : Half) (priority options : Byte)
  | focus (slot : Byte) (frame : Half) (priority options : Byte)
  | index (slot : Byte) (target : Half) (priority options : Byte)
  | cancel (ticket : Byte)
  | queryTicket (ticket : Byte)
  | collect (ticket : Byte)
  | setSweepPlan (plan : PlanWire)
  | readSweepPlan
  | readSweepResult
deriving DecidableEq, Repr

/-- The request code (10.3). -/
def Request.code : Request → Byte
  | .identify => 0x01
  | .status => 0x02
  | .events => 0x03
  | .setParameters _ => 0x04
  | .readParameters => 0x05
  | .restart => 0x06
  | .declareRoll _ _ => 0x10
  | .declareFrames _ _ _ _ => 0x11
  | .readRoll _ => 0x12
  | .readFrames _ _ _ => 0x13
  | .findFrame _ _ _ _ => 0x14
  | .annotateFrame _ _ _ => 0x15
  | .setFocus _ _ _ _ => 0x16
  | .withdrawFrame _ _ => 0x17
  | .restoreFrame _ _ => 0x18
  | .retireRoll _ => 0x19
  | .nameRoll _ _ => 0x1A
  | .bindDeck _ _ => 0x1B
  | .mount _ => 0x20
  | .unmount _ => 0x21
  | .clearDeck _ => 0x22
  | .fetch _ _ _ _ => 0x30
  | .range _ _ _ _ _ => 0x31
  | .locate _ _ _ _ => 0x32
  | .focus _ _ _ _ => 0x33
  | .index _ _ _ _ => 0x34
  | .cancel _ => 0x35
  | .queryTicket _ => 0x36
  | .collect _ => 0x37
  | .setSweepPlan _ => 0x40
  | .readSweepPlan => 0x41
  | .readSweepResult => 0x42

/-- The bytes of a DECLARE FRAMES item (10.7): the setpoint is sent only when bit 7 of the class byte is set. -/
def itemBytes (i : DeclItem) : List Byte :=
  bytes24 i.position ++ [i.classByte] ++ if i.classByte.msb then bytes16 i.setpoint else []

/-- The bytes of a sweep plan's step (10.9). -/
def stepBytes (p : StepWire) : List Byte := p.flags :: bytes16 p.offset

/-- The bytes of a sweep plan as sent (10.9). -/
def planBytes (p : PlanWire) : List Byte := p.steps.flatMap stepBytes ++ [p.extension, p.pause]

/-- The bytes of a parameter block (10.10). -/
def paramBytes (b : ParamWire) : List Byte :=
  b.window :: bytes16 b.span ++ [b.m1, b.m2, b.m3] ++ bytes16 b.lowA ++ bytes16 b.highA ++ [b.limitA] ++
    bytes16 b.lowB ++ bytes16 b.highB ++ [b.limitB] ++ bytes16 b.headTimeout ++
    [b.tenureLimit, b.policy, b.trackInterval] ++ bytes16 b.floor ++ [b.mask]

/-- The arguments of a request, in the order they are sent (10.3). -/
def Request.arguments : Request → List Byte
  | .identify | .status | .events | .readParameters | .restart | .readSweepPlan | .readSweepResult => []
  | .setParameters block => paramBytes block
  | .declareRoll tag width => bytes24 tag ++ [width]
  | .declareFrames slot first count items => slot :: bytes16 first ++ [count] ++ items.flatMap itemBytes
  | .readRoll slot => [slot]
  | .readFrames slot frame count => slot :: bytes16 frame ++ [count]
  | .findFrame slot sec group i => slot :: bytes16 sec ++ bytes16 group ++ bytes16 i
  | .annotateFrame slot frame note => slot :: bytes16 frame ++ bytes16 note
  | .setFocus slot frame flags setpoint => slot :: bytes16 frame ++ [flags] ++ bytes16 setpoint
  | .withdrawFrame slot frame => slot :: bytes16 frame
  | .restoreFrame slot frame => slot :: bytes16 frame
  | .retireRoll slot => [slot]
  | .nameRoll slot tag => slot :: bytes24 tag
  | .bindDeck deck slot => [deck, slot]
  | .mount deck => [deck]
  | .unmount deck => [deck]
  | .clearDeck deck => [deck]
  | .fetch slot frame priority options => slot :: bytes16 frame ++ [priority, options]
  | .range slot first last priority options => slot :: bytes16 first ++ bytes16 last ++ [priority, options]
  | .locate slot frame priority options => slot :: bytes16 frame ++ [priority, options]
  | .focus slot frame priority options => slot :: bytes16 frame ++ [priority, options]
  | .index slot target priority options => slot :: bytes16 target ++ [priority, options]
  | .cancel ticket => [ticket]
  | .queryTicket ticket => [ticket]
  | .collect ticket => [ticket]
  | .setSweepPlan plan => planBytes plan

/-- The body of a request message: the code and the arguments (9.2). -/
def Request.body (r : Request) : List Byte := r.code :: r.arguments

/-- A request that a message can carry: a DECLARE FRAMES counts its items and fits a body, a plan has twelve steps. -/
def Request.wf : Request → Bool
  | .declareFrames _ _ count items => count.toNat == items.length && itemsWf items
  | .setSweepPlan plan => plan.wf
  | _ => true

/-- What the link port makes of a body (R173, steps 2 and 3). -/
inductive Parsed where
  | unknown
  | badLength
  | ok (r : Request)
deriving DecidableEq, Repr

/-- The items of a DECLARE FRAMES: `n` items walked, ending exactly at the end of the body (R189). -/
def parseItems : Nat → List Byte → Option (List DeclItem)
  | 0, [] => some []
  | n + 1, p2 :: p1 :: p0 :: c :: rest =>
    if c.msb then
      match rest with
      | s1 :: s0 :: rest' => (parseItems n rest').map (⟨join24 p2 p1 p0, c, join16 s1 s0⟩ :: ·)
      | _ => none
    else (parseItems n rest).map (⟨join24 p2 p1 p0, c, 0⟩ :: ·)
  | _, _ => none

/-- The steps of a sweep plan and what follows them. -/
def parseSteps : Nat → List Byte → Option (List StepWire × List Byte)
  | 0, rest => some ([], rest)
  | n + 1, f :: o1 :: o0 :: rest => (parseSteps n rest).map fun x => (⟨f, join16 o1 o0⟩ :: x.1, x.2)
  | _ + 1, _ => none

/-- The parameter block of 24 bytes. -/
def parseParams : List Byte → Option ParamWire
  | [w, s1, s0, m1, m2, m3, la1, la0, ha1, ha0, ea, lb1, lb0, hb1, hb0, eb, t1, t0, tl, po, n, f1, f0, k] =>
    some ⟨w, join16 s1 s0, m1, m2, m3, join16 la1 la0, join16 ha1 ha0, ea, join16 lb1 lb0, join16 hb1 hb0, eb,
      join16 t1 t0, tl, po, n, join16 f1 f0, k⟩
  | _ => none

/-- A request read, or BAD_LENGTH where the arguments do not fit its form. -/
def Parsed.ofOption : Option Request → Parsed
  | some r => .ok r
  | none => .badLength

/-- A request without arguments. -/
def arg0 (r : Request) : List Byte → Option Request
  | [] => some r
  | _ => none

/-- A request of one byte. -/
def arg1 (f : Byte → Request) : List Byte → Option Request
  | [a] => some (f a)
  | _ => none

/-- An admission request of a slot, one two-byte field, a priority and an options byte. -/
def argAdmit (f : Byte → Half → Byte → Byte → Request) : List Byte → Option Request
  | [k, f1, f0, p, o] => some (f k (join16 f1 f0) p o)
  | _ => none

/-- A request of a slot and a frame. -/
def argFrame (f : Byte → Half → Request) : List Byte → Option Request
  | [k, f1, f0] => some (f k (join16 f1 f0))
  | _ => none

/-- The arguments of a request with this code; an unknown code names no request (R173, step 2; R189). -/
def parseArguments (code : Byte) (args : List Byte) : Parsed :=
  match code.toNat with
  | 0x01 => .ofOption (arg0 .identify args)
  | 0x02 => .ofOption (arg0 .status args)
  | 0x03 => .ofOption (arg0 .events args)
  | 0x04 => .ofOption ((parseParams args).map .setParameters)
  | 0x05 => .ofOption (arg0 .readParameters args)
  | 0x06 => .ofOption (arg0 .restart args)
  | 0x10 =>
    match args with
    | [t2, t1, t0, w] => .ok (.declareRoll (join24 t2 t1 t0) w)
    | _ => .badLength
  | 0x11 =>
    match args with
    | k :: f1 :: f0 :: n :: rest => .ofOption ((parseItems n.toNat rest).map (.declareFrames k (join16 f1 f0) n))
    | _ => .badLength
  | 0x12 => .ofOption (arg1 .readRoll args)
  | 0x13 =>
    match args with
    | [k, f1, f0, n] => .ok (.readFrames k (join16 f1 f0) n)
    | _ => .badLength
  | 0x14 =>
    match args with
    | [k, s1, s0, g1, g0, i1, i0] => .ok (.findFrame k (join16 s1 s0) (join16 g1 g0) (join16 i1 i0))
    | _ => .badLength
  | 0x15 =>
    match args with
    | [k, f1, f0, n1, n0] => .ok (.annotateFrame k (join16 f1 f0) (join16 n1 n0))
    | _ => .badLength
  | 0x16 =>
    match args with
    | [k, f1, f0, g, s1, s0] => .ok (.setFocus k (join16 f1 f0) g (join16 s1 s0))
    | _ => .badLength
  | 0x17 => .ofOption (argFrame .withdrawFrame args)
  | 0x18 => .ofOption (argFrame .restoreFrame args)
  | 0x19 => .ofOption (arg1 .retireRoll args)
  | 0x1A =>
    match args with
    | [k, t2, t1, t0] => .ok (.nameRoll k (join24 t2 t1 t0))
    | _ => .badLength
  | 0x1B =>
    match args with
    | [d, k] => .ok (.bindDeck d k)
    | _ => .badLength
  | 0x20 => .ofOption (arg1 .mount args)
  | 0x21 => .ofOption (arg1 .unmount args)
  | 0x22 => .ofOption (arg1 .clearDeck args)
  | 0x30 => .ofOption (argAdmit .fetch args)
  | 0x31 =>
    match args with
    | [k, f1, f0, l1, l0, p, o] => .ok (.range k (join16 f1 f0) (join16 l1 l0) p o)
    | _ => .badLength
  | 0x32 => .ofOption (argAdmit .locate args)
  | 0x33 => .ofOption (argAdmit .focus args)
  | 0x34 => .ofOption (argAdmit .index args)
  | 0x35 => .ofOption (arg1 .cancel args)
  | 0x36 => .ofOption (arg1 .queryTicket args)
  | 0x37 => .ofOption (arg1 .collect args)
  | 0x40 =>
    match parseSteps 12 args with
    | some (steps, [e, p]) => .ok (.setSweepPlan ⟨steps, e, p⟩)
    | _ => .badLength
  | 0x41 => .ofOption (arg0 .readSweepPlan args)
  | 0x42 => .ofOption (arg0 .readSweepResult args)
  | _ => .unknown

/-- A body read as a request (R173, steps 2 and 3). A body has at least its code byte (R171). -/
def parseBody : List Byte → Parsed
  | [] => .unknown
  | code :: args => parseArguments code args

/-- A roll slot of a request: 0..15 (10.3). -/
def slotOf (b : Byte) : Option Slot := if h : b.toNat < 16 then some ⟨b.toNat, h⟩ else none

/-- A ticket number of a request: 0..15 (R124). -/
def ticketOf (b : Byte) : Option TicketNo := if h : b.toNat < 16 then some ⟨b.toNat, h⟩ else none

/-- A deck code of a request: A = 0, B = 1, any other refused (R188). -/
def deckOf (b : Byte) : Option DeckId :=
  if b = 0 then some .a else if b = 1 then some .b else none

/-- A width code: 16 mm = 0, 35 mm = 1 (10.4). -/
def widthOf (b : Byte) : Option Width :=
  if b = 0 then some .mm16 else if b = 1 then some .mm35 else none

/-- The mark class in bits 1..0 of an item's class byte; 3 names no class (10.7, R188). -/
def classOf (b : Byte) : Option MarkClass :=
  match (b &&& 3).toNat with
  | 0 => some .minor
  | 1 => some .major
  | 2 => some .sectionMark
  | _ => none

/-- A focus policy code (10.4). -/
def policyOf (b : Byte) : Option Policy :=
  if b = 0 then some .off else if b = 1 then some .onDemand else if b = 2 then some .track else none

end Sys2Proof.Machine
end

