-- ==== Sys2Proof/Machine/Optical.lean ====
section
/-! DEFINITION. The optical path arbiter: tenure, jobs and path moves (R106 to R113, R122). -/

namespace Sys2Proof.Machine

/-- What the arbiter decides (R109). -/
inductive Decision where
  | grant (d : DeckId)
  | want (g : DeckId)
  | clear
  | keep
deriving DecidableEq, Repr

/-- The table of R109, read while there is no holder. `limited` is the deck released at the tenure limit by the decision of
R111 that led to this arbitration. A deck released as closing is no such deck: where it still requests with the path set to its
gate, the table grants it again (log 42). -/
def Opa.decide (o : Opa) (limited : Option DeckId) : Decision :=
  match o.path with
  | .atGate x =>
    if o.requests.get x ∧ o.wanted ≠ some x.other ∧ limited ≠ some x then .grant x
    else if o.requests.get x.other then .want x.other
    else if o.requests.get x then .keep
    else .clear
  | .moving _ => .keep
  | .fault _ =>
    match o.wanted with
    | some _ => .keep
    | none =>
      match o.faultFirst with
      | some d => if o.requests.get d then .want d else .keep
      | none => .keep

/-- A grant (R109): the deck is the holder, the job count 0, closing and job in progress clear, no move wanted. A deck left
waiting learns of it: its PENDING track sweep is skipped and counted (R102). -/
def State.grant (s : State) (d : DeckId) : State :=
  let s := { s with opa := { s.opa with holder := some d, jobCount := 0, closing := false, job := false, wanted := none } }
  match (s.sched d.other).track with
  | some t =>
    if t.running then s
    else
      { s.setSched d.other { s.sched d.other with track := none } with
        fseq := { s.fseq with skippedTrack := s.fseq.skippedTrack + 1 } }
  | none => s

/-- A wanted move may begin (R107). -/
def State.moveMayBegin (s : State) : Bool :=
  s.opa.holder.isNone && s.hlp.order.isNone && !s.pins.hold

/-- A move toward gate `g` begins (R107). -/
def State.beginMove (s : State) (g : DeckId) : State :=
  { s with opa := { s.opa with
      path := .moving g, wanted := none, faultFirst := none, moveTimer := some (Timer.start Config.pathMoveTime) } }

/-- A move ends at gate `g` (R107). -/
def State.endMove (s : State) (g : DeckId) : State :=
  { s with opa := { s.opa with path := .atGate g, moveTimer := none } }

/-- A decision put into effect, but for the beginning of a move. -/
def State.apply (s : State) : Decision → State
  | .grant d => s.grant d
  | .want g => { s with opa := { s.opa with wanted := some g } }
  | .clear => { s with opa := { s.opa with wanted := none } }
  | .keep => s

/-- Arbitration while there is no holder (R109), with the beginning of a wanted move (R107), which ends at once where the
limit input of its gate shows made and is then followed by a fresh arbitration. Each such move changes the gate and the deck
there requests, so two in a row end in a grant; the bound `n` is never met. -/
def State.arbitrate : Nat → Option DeckId → State → State
  | 0, _, s => s
  | n + 1, limited, s =>
    if s.opa.holder.isSome then s
    else
      let s := s.apply (s.opa.decide limited)
      match s.opa.wanted with
      | some g =>
        if s.moveMayBegin then
          let s := s.beginMove g
          if s.pins.limits.get g then State.arbitrate n none (s.endMove g) else s
        else s
      | none => s

/-- Arbitration with its bound. -/
def State.arbitrateNow (s : State) (limited : Option DeckId) : State := State.arbitrate 4 limited s

/-- The holder is released (R111), and the arbiter arbitrates. -/
def State.releaseTenure (s : State) (limited : Option DeckId) : State :=
  ({ s with opa := { s.opa with holder := none, closing := false, job := false } }).arbitrateNow limited

/-- The decision of R111 for a holder between jobs. A holder released as closing whose request still stands goes into the
arbitration by the table of R109, which may grant it again at once, and not by the prose of R111, by which the path goes to the
other deck first (log 42). -/
def State.decideTenure (s : State) (d : DeckId) : State :=
  if s.opa.closing then s.releaseTenure none
  else if s.opa.requests.get d then
    if s.opa.requests.get d.other ∧ s.opa.jobCount ≥ s.params.tenureLimit then s.releaseTenure (some d) else s
  else s.releaseTenure none

/-- The deck whose request was raised first since the path entered FAULT, after deck `d` raised (R109). -/
def Opa.noteRaise (o : Opa) (d : DeckId) : Option DeckId :=
  match o.path, o.faultFirst with
  | .fault _, none => some d
  | _, x => x

/-- A request flag raised (R108). -/
def State.raise (s : State) (d : DeckId) : State :=
  if s.opa.requests.get d then s
  else
    ({ s with opa := { s.opa with requests := s.opa.requests.set d true, faultFirst := s.opa.noteRaise d } }).arbitrateNow none

/-- Deck `d` withdraws (R108): the flag is lowered, and the first raiser since FAULT is then the other deck if it requests. -/
def Opa.lower (o : Opa) (d : DeckId) : Opa :=
  { o with
    requests := o.requests.set d false
    faultFirst := if o.faultFirst = some d then (if o.requests.get d.other then some d.other else none) else o.faultFirst }

/-- The move wanted toward a gate that its deck's withdrawal drops (R108). The move wanted of a reset, which waits in
MOVING_A, belongs to no deck and is kept (R122). -/
def Opa.dropWanted (o : Opa) (d : DeckId) : Opa :=
  match o.path with
  | .moving _ => o
  | .atGate _ | .fault _ => if o.wanted = some d then { o with wanted := none } else o

/-- A request flag withdrawn (R108): by the holder between jobs it releases tenure (R111); by the holder during a job it has
no further effect; by another deck it removes its claim. -/
def State.withdraw (s : State) (d : DeckId) : State :=
  if s.opa.requests.get d then
    let s := { s with opa := s.opa.lower d }
    if s.opa.holder = some d then (if s.opa.job then s else s.decideTenure d)
    else ({ s with opa := s.opa.dropWanted d }).arbitrateNow none
  else s

/-- A job of the holder begins (R110). -/
def State.jobBegin (s : State) (d : DeckId) : State :=
  if s.opa.holder = some d then { s with opa := { s.opa with job := true } } else s

/-- The end of a job is reported for deck `d` (R110, R111). -/
def State.jobEnd (s : State) (d : DeckId) : State :=
  if s.opa.holder = some d ∧ s.opa.job then
    ({ s with opa := { s.opa with job := false, jobCount := holdUp Config.jobHold s.opa.jobCount } }).decideTenure d
  else s

/-- A halt or removal of deck `d` reaches the arbiter (R113). -/
def State.closeTenure (s : State) (d : DeckId) : State :=
  if s.opa.holder = some d then
    let s := { s with opa := { s.opa with closing := true } }
    if s.opa.job then s else s.decideTenure d
  else s

/-- The limit input of the gate of a begun move shows made: the move ends and the arbiter arbitrates (R107). -/
def State.limitMade (s : State) (g : DeckId) : State :=
  if s.opa.path = .moving g ∧ s.opa.moveTimer.isSome then (s.endMove g).arbitrateNow none else s

/-- The move time runs out (R107, R112): FAULT, both request flags lowered. The flags lowered are the second part. -/
def State.enterFault (s : State) : State × Pair Bool :=
  match s.opa.path, s.opa.moveTimer with
  | .moving g, some _ =>
    ({ s with opa := { s.opa with path := .fault g, moveTimer := none, requests := ⟨false, false⟩, faultFirst := none } },
      s.opa.requests)
  | _, _ => (s, ⟨false, false⟩)

end Sys2Proof.Machine
end

