-- ==== Sys2Proof/Machine/Focus.lean ====
section
/-! DEFINITION. The focus sequencer: the sweep plan, the running of a sweep, its completion and its abort (R90 to R99). -/

namespace Sys2Proof.Machine

/-- What the focus sequencer reports to the deck scheduler at the end of a sweep (R97, R98). `arrival` is the lens arrival that
the completion's lens command took at once. -/
inductive SweepEnd where
  | completed (outcome : SweepOutcome) (arrival : Option Nat)
  | aborted (cause : AbortCause)
deriving DecidableEq, Repr

/-- The report with the deck and the track flag of the sweep. -/
structure SweepReport where
  deck : DeckId
  track : Bool
  result : SweepEnd
deriving DecidableEq, Repr

/-- The numbers of the enabled steps, rising (R90). -/
def Plan.enabledSteps (p : Plan) : List Nat :=
  (p.steps.toList.zipIdx.filter fun x => x.1.enabled).map (·.2)

/-- The offset of a step. -/
def Plan.offset (p : Plan) (n : Nat) : Int := (p.steps.toList[n]?.map (·.offset)).getD 0

/-- The sweep in progress replaced. -/
def State.setSweep (s : State) (w : Option Sweep) : State := { s with fseq := { s.fseq with sweep := w } }

/-- The end of an abort (R98): no result, no write; the sequencer is idle, the job ends, and the abort is reported. -/
def State.endAbort (s : State) (w : Sweep) (cause : AbortCause) : State × Option SweepReport :=
  ((s.setSweep none).jobEnd w.deck, some ⟨w.deck, w.track, .aborted cause⟩)

/-- The end of the settle pause (R93): the TEST order is handed over; READY low ends it, and the sweep, at once (R94, R114). -/
def State.pauseEnded (s : State) (w : Sweep) (pos : Nat) : State × Option SweepReport :=
  let h := s.handOver ⟨w.deck, .test, pos, w.slot, w.frame, w.tag⟩
  match h.2 with
  | .sent => (h.1.setSweep (some { w with phase := .order pos }), none)
  | .absent => h.1.endAbort w .cameraAbsent
  | .unsent => (h.1.setSweep (some { w with phase := .settle pos none }), none)

/-- The lens has arrived for the current step (R93): SETTLE for the pause of the plan; a pause of 0 ends at once. -/
def State.stepArrived (s : State) (w : Sweep) (pos : Nat) : State × Option SweepReport :=
  if s.fseq.plan.pause = 0 then s.pauseEnded w pos
  else (s.setSweep (some { w with
    phase := .settle pos (some (Timer.start (s.fseq.plan.pause * Config.settleUnit))) }), none)

/-- A step of a pass begins (R93): phase LENS and a move command to the centre plus the step's offset. -/
def State.beginStep (s : State) (w : Sweep) (n : Nat) : State × Option SweepReport :=
  let w := { w with step := n, phase := .lens }
  let m := (s.setSweep (some w)).lensMove w.deck ((w.centre : Int) + s.fseq.plan.offset n) .sequencer
  match m.2 with
  | some pos => m.1.stepArrived w pos
  | none => (m.1, none)

/-- The best step (R95): the highest figure, and of equal figures the lowest step number. -/
def bestFigure : List Figure → Option Figure
  | [] => none
  | f :: rest =>
    match bestFigure rest with
    | none => some f
    | some g => if g.figure > f.figure then some g else some f

/-- A sweep write as the pool applies it to the record (R71). -/
def FrameRecord.sweepWrite (r : FrameRecord) (setpoint figure : Nat) (forFocus : Bool) : FrameRecord :=
  if r.withdrawn then r
  else if r.source = some .host ∧ forFocus = false then r
  else { r with setpoint := some setpoint, source := some .sweep, figure := some figure }

/-- A sweep write taken (R71): the record by its table, and the roll's last setpoint always. -/
def State.sweepWrite (s : State) (w : Sweep) (setpoint figure : Nat) : State :=
  let s := s.setRecord w.slot w.frame fun r => r.sweepWrite setpoint figure w.forFocus
  s.setEntry w.slot { s.entry w.slot with lastSetpoint := some setpoint }

/-- The completion of a sweep, in the order of R97, with its best figure. -/
def State.completeSweep (s : State) (w : Sweep) (best : Figure) : State × Option SweepReport :=
  let good := decide (best.figure ≥ s.params.floor)
  let setpoint := if good then some best.pos else none
  let outcome : SweepOutcome := if good then .good else .soft
  let s := { s with fseq := { s.fseq with
    result := some ⟨w.deck, w.slot, w.frame, w.centre, w.pass, w.figures, best.step, outcome, setpoint⟩ } }
  let s : State := match setpoint with
    | some p => s.sweepWrite w p best.figure
    | none => s
  let m := s.lensMove w.deck (setpoint.getD w.centre) .scheduler
  let s := (m.1.setSweep none).jobEnd w.deck
  (s, some ⟨w.deck, w.track, .completed outcome m.2⟩)

/-- The end of a pass (R95, R96): a second pass, or the completion. -/
def State.passEnded (s : State) (w : Sweep) : State × Option SweepReport :=
  match bestFigure w.figures with
  | none => s.endAbort w .cameraRefused
  | some best =>
    let steps := s.fseq.plan.enabledSteps
    let first := steps.headD 0
    if s.fseq.plan.extension = true ∧ w.pass = 1 ∧ steps.length ≥ 2 ∧
        (best.step = first ∨ some best.step = steps.getLast?) then
      s.beginStep { w with pass := 2, centre := best.pos, figures := [] } first
    else s.completeSweep w best

/-- The next enabled step after a step. -/
def Plan.nextStep (p : Plan) (n : Nat) : Option Nat := p.enabledSteps.find? (fun m => decide (n < m))

/-- The end of the order of a sweep's current step (R94), or of the order an aborting sweep waits for (R98). -/
def State.testEnded (s : State) (e : OrderEnd) : State × Option SweepReport :=
  match s.fseq.sweep with
  | none => (s, none)
  | some w =>
    match w.phase with
    | .aborting cause => s.endAbort w cause
    | .order pos =>
      match e with
      | .taken value =>
        let w := { w with figures := w.figures ++ [⟨w.step, pos, (value.extractLsb' 0 16).toNat⟩] }
        match s.fseq.plan.nextStep w.step with
        | some n => s.beginStep w n
        | none => (s.setSweep (some w)).passEnded w
      | .refused => s.endAbort w .cameraRefused
      | .timeout => s.endAbort w .cameraTimeout
      | .absent => s.endAbort w .cameraAbsent
    | .lens => (s, none)
    | .settle _ _ => (s, none)

/-- An abort cause reaches a sweep of deck `d` (R98, R99): at once in LENS and SETTLE, when the order ends in ORDER; a second
cause is not taken. -/
def State.abortSweep (s : State) (d : DeckId) (cause : AbortCause) : State × Option SweepReport :=
  match s.fseq.sweep with
  | none => (s, none)
  | some w =>
    if w.deck = d then
      match w.phase with
      | .lens | .settle _ _ => s.endAbort w cause
      | .order _ => (s.setSweep (some { w with phase := .aborting cause }), none)
      | .aborting _ => (s, none)
    else (s, none)

/-- The answer to a sweep start (R91). -/
inductive SweepStart where
  | taken
  | busy
  | notHeld
deriving DecidableEq, Repr

/-- The centre of a first pass (R92). -/
def State.sweepCentre (s : State) (k : Slot) (frame : Nat) : Nat :=
  match (s.record k frame).bind (·.setpoint) with
  | some p => p
  | none => (s.entry k).lastSetpoint.getD Config.defaultCentre

/-- A sweep start refused or to be taken (R91). -/
def State.sweepAnswer (s : State) (d : DeckId) (k : Slot) : SweepStart :=
  if s.fseq.sweep.isSome then .busy
  else if s.opa.holder = some d ∧ (s.deck d).state = .ready ∧ s.entryOf d = some k then .taken
  else .notHeld

/-- A sweep start taken (R91, R92, R110): the first enabled step begins; READY low at that moment aborts the sweep in LENS or
SETTLE (R118). -/
def State.startSweep (s : State) (d : DeckId) (k : Slot) (frame : Nat) (forFocus track : Bool) :
    State × Option SweepReport :=
  let w : Sweep :=
    { deck := d, slot := k, frame := frame, tag := (s.entry k).tag, forFocus := forFocus, track := track
      centre := s.sweepCentre k frame, pass := 1, step := 0, phase := .lens, figures := [] }
  let r := (s.jobBegin d).beginStep w (s.fseq.plan.enabledSteps.headD 0)
  if s.pins.ready then r
  else
    match r.1.fseq.sweep with
    | some _ => r.1.abortSweep d .cameraAbsent
    | none => r

end Sys2Proof.Machine
end

