-- ==== Sys2Proof/Machine/Marks.lean ====
section
/-! DEFINITION. Mark widths and classes (R30), leader reading (R32, R33), the matching of marks against frame records (R34 to
R40), crossing sets (R41, R42) and the search's choice (R44, R45). -/

namespace Sys2Proof.Machine

/-- The class of an ended mark (R30). -/
inductive WidthClass where
  | noise
  | mark (c : MarkClass)
  | fault
deriving DecidableEq, Repr

/-- The classification of R30. -/
def classify (p : Params) (width : Nat) : WidthClass :=
  if width ≤ 1 then .noise
  else if width ≤ p.m1 then .mark .minor
  else if width ≤ p.m2 then .mark .major
  else if width ≤ p.m3 then .mark .sectionMark
  else .fault

/-- The mark counters of R30, each wrapping. -/
def Mark.countClass (m : Mark) : WidthClass → Mark
  | .noise => { m with noise := m.noise + 1 }
  | .mark _ => { m with classified := m.classified + 1 }
  | .fault => { m with fault := m.fault + 1 }

/-! ## Records -/

/-- The record nearest to `p`; of two equally near the one earlier in the chain, which has the lower frame number (R34). -/
def nearest (p : Nat) : List FrameRecord → Option FrameRecord
  | [] => none
  | r :: rest =>
    match nearest p rest with
    | none => some r
    | some q => if distance p q.position < distance p r.position then some q else some r

/-- The window of a record contains the counter (R41). -/
def FrameRecord.near (r : FrameRecord) (w c : Nat) : Bool := decide (distance c r.position ≤ w)

/-- One more miss, holding at 3, where the record becomes DAMAGED (R42, R45). -/
def FrameRecord.miss (r : FrameRecord) : FrameRecord :=
  let n := holdUp 3 r.missCount
  { r with missCount := n, condition := if n = 3 then .damaged else r.condition }

/-- The order check of R37: strictly between the positions of the neighbours by frame number. -/
def orderOk (chain : List FrameRecord) (frame p : Nat) : Bool :=
  chain.all fun r => (r.frame + 1 != frame || decide (r.position < p)) && (r.frame != frame + 1 || decide (p < r.position))

/-- The hierarchy numbers of a new record (R67): section, group, index. -/
def hierarchy (c : MarkClass) : Option FrameRecord → Nat × Nat × Nat
  | none => (1, 1, 1)
  | some q =>
    match c with
    | .sectionMark => (q.sectionNo + 1, 1, 1)
    | .major => (q.sectionNo, q.groupNo + 1, 1)
    | .minor => (q.sectionNo, q.groupNo, q.indexNo + 1)

/-- A record appended to a chain (R65, R66, R38, R77). -/
def newRecord (k : Slot) (chain : List FrameRecord) (count p : Nat) (c : MarkClass) (cond : Condition)
    (setpoint : Option Nat) : FrameRecord :=
  let h := hierarchy c chain.getLast?
  { slot := k, frame := count + 1, position := p, cls := c, sectionNo := h.1, groupNo := h.2.1, indexNo := h.2.2
    condition := cond, withdrawn := false, missCount := 0, setpoint := setpoint
    source := setpoint.map fun _ => .declared, figure := none, note := 0 }

/-- A record taken from the free list and appended (R64, R65): the free count falls and the frame count rises by 1. -/
def State.append (s : State) (k : Slot) (p : Nat) (c : MarkClass) (cond : Condition) (setpoint : Option Nat) : State :=
  let e := s.entry k
  let r := newRecord k (s.chain k) e.frameCount p c cond setpoint
  { (s.setChain k (s.chain k ++ [r])).setEntry k { e with frameCount := e.frameCount + 1 } with
    freeCount := s.freeCount - 1 }

/-! ## Crossing sets -/

/-- The crossing set built afresh (R41). -/
def State.rebuildCrossing (s : State) (d : DeckId) : State :=
  let set :=
    match s.entryOf d with
    | some k =>
      if (s.deck d).state.matching then
        ((s.chain k).filter fun r => r.near s.params.window (s.deck d).counter).map fun r => ⟨r.frame, false, false⟩
      else []
    | none => []
  s.setPool d { s.pool d with crossing := set }

/-- The member of a crossing set for a frame. -/
def crossingOf (set : List Crossing) (frame : Nat) : Option Crossing := set.find? fun x => x.frame == frame

/-- What a change of the counter from `old` does to the members of the crossing set, whether or not the set is brought up to date
at once (R41, R42, log 10): a member whose window now contains the counter is not excused, and one whose window the change has
left is excused as `excuse` says. -/
def State.holdCrossing (s : State) (d : DeckId) (old : Nat) (excuse : Bool) : State :=
  match s.entryOf d with
  | none => s
  | some k =>
    let held (x : Crossing) : Crossing :=
      match s.record k x.frame with
      | none => x
      | some r =>
        if r.near s.params.window (s.deck d).counter then { x with excused := false }
        else if r.near s.params.window old then { x with excused := excuse }
        else x
    if (s.deck d).state.matching then s.setPool d { s.pool d with crossing := (s.pool d).crossing.map held } else s

/-- The crossing set brought up to date (R41), and the misses of R42: one for each record that leaves unmatched and not
excused, but in SEARCHING. -/
def State.updateCrossing (s : State) (d : DeckId) : State :=
  match s.entryOf d with
  | none => s
  | some k =>
    if (s.deck d).state.matching then
      let set := (s.pool d).crossing
      let near (r : FrameRecord) := r.near s.params.window (s.deck d).counter
      let missed (r : FrameRecord) : Bool :=
        !near r && ((crossingOf set r.frame).any fun x => !x.matched && !x.excused)
      let set' := (s.chain k).filterMap fun r =>
        if near r then some { (crossingOf set r.frame).getD ⟨r.frame, false, false⟩ with excused := false } else none
      let s' := s.setPool d { s.pool d with crossing := set' }
      if (s.deck d).state != .searching then
        s'.setChain k ((s.chain k).map fun r => if missed r then r.miss else r)
      else s'
    else s

/-- A record marked as matched on its crossing; a matched record outside the set joins it (R34, log 11). -/
def matchCrossing (set : List Crossing) (frame : Nat) : List Crossing :=
  if set.any fun x => x.frame == frame then set.map fun x => if x.frame = frame then { x with matched := true } else x
  else set ++ [⟨frame, true, false⟩]

/-- A match marks the record on its crossing and, if it is the watched record, sets the seen flag (R34, R43). -/
def PoolDeck.noteMatch (q : PoolDeck) (frame : Nat) : PoolDeck :=
  { q with
    crossing := matchCrossing q.crossing frame
    watched := q.watched.map fun w => if w.frame = frame then { w with seen := true } else w }

/-! ## Corrections -/

/-- The counter of a deck after a slip correction (R1). -/
def Deck.correct (k : Deck) (δ : Int) : Deck :=
  let sum := (k.counter : Int) + δ
  if sum < 0 then { k with counter := 0, anchored := false }
  else if sum > Config.maxPosition then { k with counter := Config.maxPosition, anchored := false }
  else { k with counter := sum.toNat, anchored := true }

/-- The ends of a search's legs move with a correction (R36). -/
def SearchLegs.shift (l : SearchLegs) (δ : Int) : SearchLegs := { l with low := l.low + δ, high := l.high + δ }

/-- What a mark reader holds in counter terms moves with a correction (R29, R36, R44). -/
def Mark.shift (m : Mark) (δ : Int) : Mark :=
  { m with
    inProgress := m.inProgress.map fun x => { x with opening := addPosition x.opening δ }
    searchReference := m.searchReference.map (· + δ)
    searchCandidate := m.searchCandidate.map fun p => addPosition p δ }

/-- A slip correction of `δ` (R36): counter, search ends, reference, candidate and a mark in progress move together. Where the
counter changes, the records whose window the correction leaves are excused, and the crossing set is brought up to date unless a
mark is in progress (R41, R42, log 10). -/
def State.slip (s : State) (d : DeckId) (δ : Int) : State :=
  let k := s.deck d
  let k' := { k.correct δ with search := k.search.map (·.shift δ) }
  let s := (s.setDeck d k').setMark d ((s.mark d).shift δ)
  if k'.counter = k.counter then s
  else
    let s := s.holdCrossing d k.counter true
    if (s.mark d).inProgress.isNone then s.updateCrossing d else s

/-- A correction from a VERIFIED record (R36, R45): miss count 0, the correction count raised if `Δ` is not 0. -/
def State.correctBy (s : State) (d : DeckId) (k : Slot) (frame : Nat) (delta : Int) : State :=
  let s := s.setRecord k frame fun r => { r with missCount := 0 }
  let s := if delta ≠ 0 then
      s.setEntry k { s.entry k with correction := holdUp Config.countHold (s.entry k).correction } else s
  s.slip d (-delta)

/-- A record moved to `p` (R37, R45): VERIFIED, miss count 0; the extent follows the last record. -/
def State.moveRecord (s : State) (k : Slot) (frame p : Nat) : State :=
  let s := s.setRecord k frame fun r => { r with position := p, condition := .verified, missCount := 0 }
  if frame = (s.entry k).frameCount ∧ p > (s.entry k).extent then s.setEntry k { s.entry k with extent := p } else s

/-- A record made DAMAGED. -/
def State.damage (s : State) (k : Slot) (frame : Nat) : State :=
  s.setRecord k frame fun r => { r with condition := .damaged }

/-! ## Matching -/

/-- What a mark reports to the deck scheduler. -/
inductive MarkReport where
  | none
  | newRecord (frame pos : Nat)
  | exhausted
deriving DecidableEq, Repr

/-- The effect of a match by class and condition (R35, R36, R37). The second part is the correction made. -/
def State.matchRecord (s : State) (d : DeckId) (k : Slot) (r : FrameRecord) (c : MarkClass) (p : Nat) : State × Int :=
  let delta : Int := (p : Int) - r.position
  if c ≠ r.cls then (s.damage k r.frame, 0)
  else
    match r.condition with
    | .damaged => (s.setRecord k r.frame fun q => { q with missCount := 0 }, 0)
    | .verified => (s.correctBy d k r.frame delta, -delta)
    | .seen | .declared =>
      if orderOk (s.chain k) r.frame p then (s.moveRecord k r.frame p, 0) else (s.damage k r.frame, 0)

/-- A mark with no record within the window (R38, R39). -/
def State.unmatched (s : State) (d : DeckId) (k : Slot) (c : MarkClass) (p : Nat) : State × MarkReport :=
  let e := s.entry k
  if p ≤ e.extent then (s.setEntry k { e with stray := holdUp Config.countHold e.stray }, .none)
  else if (s.deck d).state = .indexing ∧ (s.pool d).exhausted = false then
    if s.freeCount = 0 then
      let floor := max ((s.lastPosition k).getD 0) ((s.pool d).runExtent.getD 0)
      ((s.setEntry k { e with indexFull := true, extent := floor }).setPool d { s.pool d with exhausted := true },
        .exhausted)
    else
      let s := s.append k p c .seen none
      let s := s.setEntry k { s.entry k with extent := p, indexFull := false }
      (s.setPool d ((s.pool d).noteMatch (e.frameCount + 1)), .newRecord (e.frameCount + 1) p)
  else (s, .none)

/-- A mark offered to the noting of a search (R44): of the search record's class, within the search's ends, and not matched to
another record; nearer the reference than the candidate held. -/
def State.noteSearch (s : State) (d : DeckId) (k : Slot) (c : MarkClass) (p : Nat) (matched : Option Nat) : State :=
  match (s.pool d).searchRecord, (s.deck d).search, (s.mark d).searchReference with
  | some frame, some legs, some ref =>
    let fits := ((s.record k frame).any fun r => r.cls == c) && decide (legs.low ≤ p ∧ (p : Int) ≤ legs.high) &&
      (matched.isNone || matched == some frame)
    let nearer := match (s.mark d).searchCandidate with
      | none => true
      | some q => decide (((p : Int) - ref).natAbs < ((q : Int) - ref).natAbs)
    if fits && nearer then s.setMark d { s.mark d with searchCandidate := some p } else s
  | _, _, _ => s

/-- A MINOR, MAJOR or SECTION mark handed to the pool (R34 to R39, R44). -/
def State.matchMark (s : State) (d : DeckId) (k : Slot) (c : MarkClass) (p : Nat) : State × MarkReport :=
  match (nearest p (s.chain k)).filter fun r => r.near s.params.window p with
  | some r =>
    let s := s.setPool d ((s.pool d).noteMatch r.frame)
    let m := s.matchRecord d k r c p
    let s := if (s.deck d).state = .searching then
        m.1.noteSearch d k c (if m.2 = 0 then p else addPosition p m.2) (some r.frame) else m.1
    (s, .none)
  | none =>
    let m := s.unmatched d k c p
    if (s.deck d).state = .searching then (m.1.noteSearch d k c p none, m.2) else m

/-! ## Leader reading -/

/-- What the leader reading reports to the deck (R32, R33). -/
inductive LeaderReport where
  | none
  | opening
  | reference (pos : Nat) (reading : Reading)
deriving DecidableEq, Repr

/-- The number that digits spell, the first most significant (R33). -/
def digitsValue (digits : List Bool) : Nat := digits.foldl (fun n b => 2 * n + b.toNat) 0

/-- The reading of a collection (R33): a tag exactly when 20 digits are held with neither overlength nor a fault. -/
def Mark.reading (m : Mark) : Reading :=
  if m.digits.length = 20 ∧ m.overlength = false ∧ m.faultSeen = false then .tag (digitsValue m.digits) else .untagged

/-- A digit appended, or overlength set (R33). -/
def Mark.addDigit (m : Mark) (b : Bool) : Mark :=
  if m.digits.length ≥ 20 then { m with overlength := true } else { m with digits := m.digits ++ [b] }

/-- A leader mark taken by the leader reading (R32, R33). The reference mark leaves overlength and fault seen as they are: R33
empties the digits alone, and the two are cleared when the next MOUNT or CLEAR DECK prepares the reading (log 32). -/
def Mark.readLeader (m : Mark) (c : WidthClass) (p : Nat) : Mark × LeaderReport :=
  match m.leader, c with
  | .seek, .mark .sectionMark => ({ m with leader := .collect, digits := [] }, .opening)
  | .collect, .mark .minor => (m.addDigit false, .none)
  | .collect, .mark .major => (m.addDigit true, .none)
  | .collect, .fault => ({ m with faultSeen := true }, .none)
  | .collect, .mark .sectionMark => ({ m with leader := .idle, digits := [] }, .reference p m.reading)
  | _, _ => (m, .none)

/-- The mark reader prepared to read the leader (R32). -/
def Mark.prepareLeader (m : Mark) : Mark :=
  { m with leader := .seek, digits := [], overlength := false, faultSeen := false }

/-- The collection discarded (R32). -/
def Mark.dropLeader (m : Mark) : Mark :=
  { m with leader := .idle, digits := [], overlength := false, faultSeen := false }

/-- What a mark reader drops when power goes off (R28, R29). -/
def Mark.powerOff (m : Mark) : Mark :=
  { m with accepted := none, candidate := false, inProgress := none, lastDirection := none }

/-- What a mark reader drops when a search is abandoned or has ended (R44, R45). -/
def Mark.dropSearch (m : Mark) : Mark := { m with searchReference := none, searchCandidate := none }

/-! ## The end of a search -/

/-- The search record after a failed search (R45): one miss more. -/
def State.failSearch (s : State) (k : Slot) (frame : Nat) : State := s.setRecord k frame FrameRecord.miss

/-- The pool's choice at the completion of a search (R45). The second part is the position of the record where the search
succeeded. -/
def State.searchChoice (s : State) (d : DeckId) : State × Option Nat :=
  let candidate := (s.mark d).searchCandidate
  let found := (s.pool d).searchRecord
  let s := (s.setMark d (s.mark d).dropSearch).setPool d { s.pool d with searchRecord := none }
  match s.entryOf d, found with
  | some k, some frame =>
    match s.record k frame with
    | none => (s, none)
    | some r =>
      let succeed (s : State) : State × Option Nat :=
        (s.setPool d { s.pool d with found := some frame }, (s.record k frame).map (·.position))
      match candidate with
      | none => (s.failSearch k frame, none)
      | some p =>
        match r.condition with
        | .verified => succeed (s.correctBy d k frame ((p : Int) - r.position))
        | .damaged => succeed (s.setRecord k frame fun q => { q with missCount := 0 })
        | .seen | .declared =>
          if orderOk (s.chain k) frame p then succeed (s.moveRecord k frame p)
          else ((s.damage k frame).failSearch k frame, none)
  | _, _ => (s, none)

end Sys2Proof.Machine
end

