-- ==== Sys2Proof/Machine/Tickets.lean ====
section
/-! DEFINITION. The ticket table: admission, the final transition, and the moves between waiting for a roll and for a deck
(chapter 7), with the freeing of an entry that a final transition can bring (R54, R55). -/

namespace Sys2Proof.Machine

/-- The final state that an outcome fixes (R134). -/
def TicketOutcome.state : TicketOutcome → TicketState
  | .completed => .done
  | .cancelled => .cancelled
  | .removed | .halted | .unlisted | .lost | .notFound | .poolFull | .cameraTimeout | .cameraAbsent | .cameraRefused
  | .pathFault => .failed

/-- An entry freed (R55): its records return to the free list and it becomes FREE. -/
def State.freeEntry (s : State) (k : Slot) : State :=
  let e := s.entry k
  { (s.setChain k []).setEntry k Entry.free with freeCount := s.freeCount + e.frameCount }

/-- The ticket a final transition leaves (R135, step 1). -/
def Ticket.finish (t : Ticket) (o : TicketOutcome) : Ticket :=
  { t with
    state := o.state
    outcome := some o
    failedFrame := if o.state = .failed ∧ t.kind ≠ some .index then t.current else none
    current := none
    pathWait := false
    cancelPending := false }

/-- The deck at which a ticket is active. -/
def State.activeAt (s : State) (t : TicketNo) : Option DeckId :=
  if (s.sched .a).active = some t then some .a
  else if (s.sched .b).active = some t then some .b
  else none

/-- What the scheduler holds for a deck once it has no active ticket (R135, step 4); its request is decided by R147. -/
def Sched.idle (c : Sched) : Sched := { Sched.reset with request := c.request }

/-- The entry's count falls by one, and a release pending entry without live tickets is freed (R135, step 3; R54). -/
def State.uncount (s : State) (k : Slot) : State :=
  let e := s.entry k
  let e' := { e with ticketCount := e.ticketCount - 1 }
  let s := s.setEntry k e'
  if e'.releasePending ∧ e'.ticketCount = 0 then s.freeEntry k else s

/-- The final transition of a live ticket, in the order of R135. A ticket that is not live is left as it is (R136). -/
def State.finalize (s : State) (t : TicketNo) (o : TicketOutcome) : State :=
  let x := s.ticket t
  if x.state.isLive then
    let s := s.setTicket t (x.finish o)
    let s := { s with admission := s.admission.filter (· ≠ t) }
    let s : State := match x.slot with
      | some k => s.uncount k
      | none => s
    match s.activeAt t with
    | some d => s.setSched d (s.sched d).idle
    | none => s
  else s

/-- Every ticket changed by its number. -/
def State.mapTickets (s : State) (f : Ticket → Ticket) : State := { s with tickets := s.tickets.map f }

/-- The tickets of an entry that is bound: AWAIT_ROLL becomes QUEUED (R132). -/
def State.wakeTickets (s : State) (k : Slot) : State :=
  s.mapTickets fun t => if t.slot = some k ∧ t.state = .awaitRoll then { t with state := .queued } else t

/-- The tickets of a tagged entry that is released: QUEUED becomes AWAIT_ROLL (R133). -/
def State.parkTickets (s : State) (k : Slot) : State :=
  s.mapTickets fun t => if t.slot = some k ∧ t.state = .queued then { t with state := .awaitRoll } else t

/-- The lowest-numbered FREE ticket (R130). -/
def State.freeTicket (s : State) : Option TicketNo := allTickets.find? fun t => (s.ticket t).state == .free

/-- What an admission asks for (R128): for INDEX the frames are the target frame count, or absent for "to end". -/
structure Admission where
  kind : TicketKind
  slot : Slot
  first : Option Nat
  last : Option Nat
  priority : Nat
  extend : Bool
deriving DecidableEq, Repr

/-- A frame of an admission: in 1..frame count, or beyond it with EXTEND on a roll that is not COMPLETE (R129, check 3). -/
def Admission.frameOk (a : Admission) (e : Entry) (frame : Option Nat) : Bool :=
  match frame with
  | none => true
  | some f => decide (1 ≤ f ∧ f ≤ e.frameCount) || (a.extend && !e.complete && decide (e.frameCount < f))

/-- A frame of an admission that is withdrawn (R129, check 4). -/
def State.frameWithdrawn (s : State) (k : Slot) (frame : Option Nat) : Bool :=
  match frame with
  | none => false
  | some f => (s.record k f).any (·.withdrawn)

/-- The checks of R129 in their order: the refusal, or none where all pass. -/
def State.admissionRefusal (s : State) (a : Admission) : Option ResultCode :=
  let e := s.entry a.slot
  if s.freeTicket.isNone then some .full
  else if e.state = .free ∨ e.releasePending then some .notListed
  else if a.kind ≠ .index ∧ (a.frameOk e a.first && a.frameOk e a.last) = false then some .notFound
  else if a.kind ≠ .index ∧ (s.frameWithdrawn a.slot a.first || s.frameWithdrawn a.slot a.last) then some .withdrawn
  else if a.kind = .range ∧ a.last.getD 0 < a.first.getD 0 then some .badArgument
  else if a.kind = .index ∧ e.complete then some .state
  else none

/-- The ticket an admission makes (R130, steps 2 and 3). -/
def Admission.ticket (a : Admission) (e : Entry) : Ticket :=
  { Ticket.free with
    state := if e.state = .mounted then .queued else .awaitRoll
    kind := some a.kind
    priority := a.priority
    slot := some a.slot
    first := a.first
    last := a.last
    extend := a.extend
    current := if a.kind = .index then some e.frameCount else a.first }

/-- An admission taken (R130). -/
def State.takeAdmission (s : State) (a : Admission) (t : TicketNo) : State :=
  let e := s.entry a.slot
  { (s.setTicket t (a.ticket e)).setEntry a.slot { e with ticketCount := e.ticketCount + 1 } with
    admission := s.admission ++ [t] }

/-- The range a ticket holds against WITHDRAW FRAME (R81). -/
def Ticket.holdsFrame (t : Ticket) (k : Slot) (frame : Nat) : Bool :=
  t.state.isLive && t.slot == some k && t.kind != some .index &&
    decide (t.first.getD 0 ≤ frame ∧ frame ≤ t.last.getD 0)

/-- A live ticket holds the frame (R81). -/
def State.frameHeld (s : State) (k : Slot) (frame : Nat) : Bool :=
  allTickets.any fun t => (s.ticket t).holdsFrame k frame

end Sys2Proof.Machine
end

