-- ==== Sys2Proof/Machine/Catalogue.lean ====
section
/-! DEFINITION. The roll catalogue: binding, release and identity resolution (R49 to R54), and what each deck's share of the
frame record pool drops with them (R41, R43, R44, R46). -/

namespace Sys2Proof.Machine

/-- The lowest-numbered FREE entry (R50). -/
def State.freeSlot (s : State) : Option Slot := allSlots.find? fun k => (s.entry k).state == .free

/-- The entry that holds a tag (R48). -/
def State.tagHolder (s : State) (tag : Nat) : Option Slot := allSlots.find? fun k => (s.entry k).tag == some tag

/-- What the pool drops for a deck when its entry is released, or when the deck halts or loses its cartridge (R41, R43, R44):
crossing set, watched record, search record and found record. -/
def PoolDeck.drop (q : PoolDeck) : PoolDeck :=
  { q with crossing := [], watched := none, found := none, searchRecord := none }

/-- What the pool keeps for a run while the deck is INDEXING (R39, R40), dropped when the deck leaves INDEXING. -/
def PoolDeck.leaveRun (q : PoolDeck) : PoolDeck := { q with runExtent := none, exhausted := false }

/-- An entry bound to a deck (R49, R132): MOUNTED there, INTERRUPTED cleared, its waiting tickets woken, the crossing set
built. -/
def State.bind (s : State) (k : Slot) (d : DeckId) : State :=
  let e := s.entry k
  ((s.setEntry k { e with state := .mounted, deck := some d, interrupted := false }).wakeTickets k).rebuildCrossing d

/-- A tagged entry released (R53). -/
def State.releaseTagged (s : State) (k : Slot) (removal : Bool) : State :=
  let e := s.entry k
  (s.setEntry k { e with state := .listed, deck := none, interrupted := e.interrupted || removal }).parkTickets k

/-- A ticket that the release of its transient entry leaves to its own cause (R54, R133): its failure is held until an order
ends, or a cancel is pending while its order is in flight. -/
def State.heldTicket (s : State) (t : TicketNo) : Bool :=
  match s.activeAt t with
  | none => false
  | some d => (s.sched d).held.isSome || ((s.ticket t).cancelPending && s.orderFor d)

/-- The tickets of a transient entry that fail with UNLISTED, in admission order (R54). -/
def State.unlistedTickets (s : State) (k : Slot) : List TicketNo :=
  s.admission.filter fun t => (s.ticket t).slot == some k && (s.ticket t).state.isLive && !s.heldTicket t

/-- A transient entry released (R54): its tickets fail, then it is freed, or is release pending while a ticket remains. -/
def State.releaseTransient (s : State) (k : Slot) : State :=
  let s := (s.unlistedTickets k).foldl (fun s t => s.finalize t .unlisted) s
  if (s.entry k).ticketCount = 0 then s.freeEntry k
  else s.setEntry k { s.entry k with state := .listed, deck := none, releasePending := true }

/-- An entry released from its deck (R49, R53, R54). -/
def State.releaseEntry (s : State) (k : Slot) (d : DeckId) (removal : Bool) : State :=
  let s := s.setPool d (s.pool d).drop
  if (s.entry k).tag.isSome then s.releaseTagged k removal else s.releaseTransient k

/-- The deck's entry, if there is one, released (R20, R24, R52): a sweep of it still in progress is aborted by the release
(R98). -/
def State.releaseDeck (s : State) (d : DeckId) : State :=
  match s.entryOf d with
  | some k => ((s.abortSweep d .release).1).releaseEntry k d false
  | none => s

/-- The width that a kind gives. -/
def Kind.width? : Kind → Option Width
  | .mm16 => some .mm16
  | .mm35 => some .mm35
  | .unsupported => none

/-- An entry made at identification (R51). -/
def Entry.created (d : DeckId) (w : Option Width) (tag : Option Nat) : Entry :=
  { Entry.free with state := .mounted, deck := some d, width := w, tag := tag }

/-- A new entry made in a slot and bound (R50, R51). -/
def State.createEntry (s : State) (k : Slot) (d : DeckId) (tag : Option Nat) : State :=
  (s.setEntry k (Entry.created d ((s.deck d).kind.bind Kind.width?) tag)).bind k d

/-- The table of R50. -/
def State.resolveFresh (s : State) (d : DeckId) : Reading → State × MountOutcome
  | .untagged =>
    match s.freeSlot with
    | some k => (s.createEntry k d none, .transient)
    | none => (s, .catalogueFull)
  | .tag t =>
    match s.tagHolder t with
    | some k =>
      if (s.entry k).state = .mounted then (s, .duplicateTag)
      else if (s.entry k).width = (s.deck d).kind.bind Kind.width? then (s.bind k d, .known)
      else (s, .widthMismatch)
    | none =>
      match s.freeSlot with
      | some k => (s.createEntry k d (some t), .newRoll)
      | none => (s, .catalogueFull)

/-- A reading agrees with an entry (R52). -/
def Reading.agrees (r : Reading) (e : Entry) : Bool :=
  match r with
  | .untagged => e.tag.isNone
  | .tag t => e.tag == some t

/-- An identification resolved (R50, R52). -/
def State.resolve (s : State) (d : DeckId) (i : Option Identification) (r : Reading) : State × MountOutcome :=
  match i, s.entryOf d with
  | some .remount, some k =>
    if r.agrees (s.entry k) then (s, .resumed) else (s.releaseDeck d).resolveFresh d r
  | _, _ => s.resolveFresh d r

end Sys2Proof.Machine
end

