-- ==== Sys2Proof/Machine/Decks.lean ====
section
/-! DEFINITION. The deck controller: power, beginnings of motion, and the commands a deck takes (R2, R3, R9, R12 to R20). -/

namespace Sys2Proof.Machine

/-- A deck changed in place. -/
def State.modDeck (s : State) (d : DeckId) (f : Deck → Deck) : State := s.setDeck d (f (s.deck d))

/-- What goes with drive power (R2): the deck unanchored and still, the lens UNHOMED (R89), the mark reader's samples and mark
in progress dropped (R28, R29). -/
def State.powerOff (s : State) (d : DeckId) : State :=
  ((s.modDeck d fun k => { k with anchored := false, motion := .still, phase := none, reading := none, travel := none }).setLens d
    .unhomed).setMark d (s.mark d).powerOff

/-- The leader reading given up by a deck that leaves THREADING or IDENTIFYING by a halt or a removal (R32). -/
def State.dropLeader (s : State) (d : DeckId) : State :=
  match (s.deck d).state with
  | .threading | .identifying => s.setMark d (s.mark d).dropLeader
  | _ => s

/-- What a deck drops at a halt, a removal or the end of a rewind that switches power off (R7, R20, R23). -/
def Deck.dropMotion (k : Deck) : Deck :=
  { k with target := none, stopping := false, purpose := none, identification := none, search := none, runMetEnd := false }

/-- The pool's and the mark reader's share of what a deck drops at a halt or removal (R41, R43, R44). -/
def State.dropShares (s : State) (d : DeckId) : State :=
  (s.setPool d (s.pool d).drop.leaveRun).setMark d (s.mark d).dropSearch

/-- The rewind of a deck ends (R20). UNMOUNT: power off, SEATED, the entry released, UNMOUNTED recorded. REMOUNT: THREADING with
its forward advance, which is not a beginning of motion. -/
def State.rewindEnd (s : State) (d : DeckId) : State :=
  match (s.deck d).purpose with
  | some .unmount =>
    let s := (s.modDeck d fun k => { k.dropMotion with state := .seated }).powerOff d
    (s.releaseDeck d).modDeck d fun k => k.recordEvent .unmounted
  | some .remount =>
    s.modDeck d fun k => { k with
      state := .threading, purpose := none, identification := some .remount, phase := some .advance, leaderTravel := 0
      motion := .moving }
  | none => s

/-- The motion of a deck's state begins (R3, R9, R20): a threading with its rewind phase where film is in the gate, else with
its forward advance; a rewind with no film in the gate ends at once. -/
def State.motionBegins (s : State) (d : DeckId) : State :=
  let film := (s.sensors d).filmInGate
  match (s.deck d).state with
  | .threading =>
    s.modDeck d fun k => { k with
      motion := .moving
      phase := some (if film then .rewind else .advance)
      leaderTravel := if film then k.leaderTravel else 0 }
  | .rewinding =>
    let s := s.modDeck d fun k => { k with motion := .moving }
    if film then s else s.rewindEnd d
  | .shuttling | .indexing | .searching => s.modDeck d fun k => { k with motion := .moving }
  | .empty | .seated | .identifying | .ready | .halted => s

/-- A beginning of motion (R3): deferred while HOLD applies to the deck. -/
def State.beginMotion (s : State) (d : DeckId) : State :=
  if s.holdApplies d then s.modDeck d fun k => { k with motion := .deferred } else s.motionBegins d

/-- A record named for the watch of a shuttle (R43): its seen flag begins set if it is the found record, which is then
dropped. -/
def PoolDeck.watch (q : PoolDeck) (frame : Option Nat) : PoolDeck :=
  { q with
    watched := frame.map fun n => ⟨n, q.found == some n⟩
    found := none }

/-- The pool's answer to an arrival (R43). -/
def PoolDeck.confirms (q : PoolDeck) : Bool :=
  match q.watched with
  | none => false
  | some w => w.seen || q.crossing.any fun x => x.frame == w.frame && x.matched

/-- The arrival of a deck as it reaches the scheduler: the frame watched, and whether the arrival is confirmed (R43). -/
structure Arrived where
  confirmed : Bool
deriving DecidableEq, Repr

/-- The watched record dropped with an arrival (R43). -/
def State.answerArrival (s : State) (d : DeckId) : State × Arrived :=
  (s.setPool d { s.pool d with watched := none }, ⟨(s.pool d).confirms⟩)

/-- The counter lies within the arrival band of a target (R12, R13). -/
def inBand (counter target : Nat) : Bool := decide (distance counter target ≤ Config.arrivalBand)

/-- A shuttle command with the record it names (R12, R14, R43). The second part is the arrival taken at once. -/
def State.shuttle (s : State) (d : DeckId) (target : Nat) (frame : Option Nat) : State × Option Arrived :=
  let k := s.deck d
  match k.state with
  | .ready =>
    let s := s.setPool d ((s.pool d).watch frame)
    if inBand k.counter target then
      let r := s.answerArrival d
      (r.1, some r.2)
    else
      ((s.modDeck d fun k => { k with state := .shuttling, target := some target, stopping := false }).beginMotion d, none)
  | .shuttling =>
    ((s.setPool d ((s.pool d).watch frame)).modDeck d fun k => { k with target := some target, stopping := false }, none)
  | .empty | .seated | .threading | .identifying | .indexing | .searching | .rewinding | .halted => (s, none)

/-- A deck at rest in READY after a motion (R13, R15 to R17). -/
def State.toReady (s : State) (d : DeckId) : State :=
  (s.modDeck d fun k => { k with
    state := .ready, target := none, stopping := false, search := none, motion := .still, runMetEnd := false
    travel := none }).setPool d
    (s.pool d).leaveRun

/-- A stop command (R15): target and legs dropped, with the watched and search records (R43, R44); a deferred motion returns
the deck to READY at once, which the second part says. The watched record goes at the command and not at the rest, which R43
leaves open (log 43). -/
def State.stop (s : State) (d : DeckId) : State × Bool :=
  let k := s.deck d
  match k.state with
  | .shuttling | .indexing | .searching =>
    let s := (s.setPool d { s.pool d with watched := none, searchRecord := none }).setMark d (s.mark d).dropSearch
    if k.motion = .deferred then (s.toReady d, true)
    else (s.modDeck d fun k => { k with target := none, search := none, stopping := true }, false)
  | .empty | .seated | .threading | .identifying | .ready | .rewinding | .halted => (s, false)

/-- COMPLETE set on the deck's entry (R16, R56). -/
def State.setComplete (s : State) (d : DeckId) : State :=
  match s.entryOf d with
  | some k => s.setEntry k { s.entry k with complete := true }
  | none => s

/-- An index run command (R16). The second part says that the run ended at once because the film end already shows. -/
def State.indexRun (s : State) (d : DeckId) : State × Bool :=
  if (s.deck d).state = .ready then
    if (s.sensors d).filmEnd then (s.setComplete d, true)
    else
      let extent := (s.entryOf d).map fun k => (s.entry k).extent
      let s := s.setPool d { s.pool d with runExtent := extent, exhausted := false }
      ((s.modDeck d fun k => { k with state := .indexing, stopping := false, runMetEnd := false }).beginMotion d, false)
  else (s, false)

/-- A search command for a target position and record (R17, R44). -/
def State.searchFor (s : State) (d : DeckId) (target frame : Nat) : State :=
  if (s.deck d).state = .ready then
    let low := target - s.params.span
    let high := min (target + s.params.span) Config.maxPosition
    let s := s.setPool d { s.pool d with searchRecord := some frame, found := none }
    let s := s.setMark d { s.mark d with searchReference := some (target : Int), searchCandidate := none }
    (s.modDeck d fun k => { k with
      state := .searching, stopping := false, search := some ⟨(low : Nat), (high : Nat), false⟩ }).beginMotion d
  else s

/-- What comes of film coming to rest, or of a motion ended (R10, R13, R15, R16, R17). A search completed carries the low and the
high end of the span it covered. -/
inductive RestReport where
  | none
  | arrived (a : Arrived)
  | atRest
  | filmEnd
  | searched (low high : Int)
  | identified (r : Reading)
deriving DecidableEq, Repr

/-- The film of a deck rests without leaving its state: what follows sets out from rest (R13). -/
def State.restInPlace (s : State) (d : DeckId) : State := s.modDeck d fun k => { k with travel := none }

/-- The high end of leg 2 is reached (R17): the counter lies no further below it than the arrival band of R13 (log 30). A high
end that a correction has moved past the last position is met there. -/
def SearchLegs.atHighEnd (l : SearchLegs) (counter : Nat) : Bool :=
  decide (min l.high Config.maxPosition ≤ (counter : Int) + Config.arrivalBand)

/-- The film comes to rest in a state with motion. A shuttle outside its band makes a further approach (R13); a stop leads to
READY (R15), at the film end as R16 states; a search ends at the high end of its leg 2 and goes on short of it (R17, log 30); an
identification is handed over (R10). -/
def State.rest (s : State) (d : DeckId) : State × RestReport :=
  let k := s.deck d
  if k.motion = .moving then
    match k.state with
    | .shuttling =>
      if k.stopping then (s.toReady d, .atRest)
      else
        match k.target with
        | some target =>
          if inBand k.counter target then
            let r := (s.toReady d).answerArrival d
            (r.1, .arrived r.2)
          else (s.restInPlace d, .none)
        | none => (s.restInPlace d, .none)
    | .indexing => if k.stopping then (s.toReady d, if k.runMetEnd then .filmEnd else .atRest) else (s, .none)
    | .searching =>
      if k.stopping then (s.toReady d, .atRest)
      else
        match k.search with
        | some l =>
          if l.leg2 = true ∧ l.atHighEnd k.counter = true then (s.toReady d, .searched l.low l.high)
          else (s.restInPlace d, .none)
        | none => (s.restInPlace d, .none)
    | .identifying =>
      match k.reading with
      | some r => (s, .identified r)
      | none => (s, .none)
    | .empty | .seated | .threading | .ready | .rewinding | .halted => (s, .none)
  else (s, .none)

/-- A deck whose identification the catalogue has resolved (R11): READY, the outcome written, MOUNTED recorded. -/
def Deck.mounted (k : Deck) (o : MountOutcome) : Deck :=
  ({ k with
    state := .ready, identification := none, stopping := false, motion := .still, reading := none, travel := none
    lastMount := some o }).recordEvent .mounted

/-- An identification carried through (R10, R11, R50, R52): the crossing set is built when the deck enters READY (R41). -/
def State.identify (s : State) (d : DeckId) (r : Reading) : State :=
  let x := s.resolve d (s.deck d).identification r
  (x.1.modDeck d fun k => k.mounted x.2).rebuildCrossing d

/-- The reference mark (R10): the counter counts from its leading edge, the deck is anchored and takes a stop. -/
def Deck.takeReference (k : Deck) (p : Nat) (r : Reading) : Deck :=
  { k with counter := k.counter - p, anchored := true, stopping := true, reading := some r }

/-- The opening mark (R9, R10): IDENTIFYING, with the leader travel counted afresh. -/
def Deck.takeOpening (k : Deck) : Deck := { k with state := .identifying, phase := none, leaderTravel := 0 }

end Sys2Proof.Machine
end

