-- ==== Sys2Proof/Machine/Scheduler.lean ====
section
/-! DEFINITION. The deck scheduler: the stages of the active tickets (R146 to R165), each handler acting on one report, and
`settle`, which carries out what the handlers leave to be done: selection, track sweeps, sweep starts, captures, requests and
path wait. -/

namespace Sys2Proof.Machine

/-! ## Access -/

/-- What the scheduler holds for a deck, changed in place. -/
def State.modSched (s : State) (d : DeckId) (f : Sched → Sched) : State := s.setSched d (f (s.sched d))

/-- A ticket changed in place. -/
def State.modTicket (s : State) (t : TicketNo) (f : Ticket → Ticket) : State := s.setTicket t (f (s.ticket t))

/-- The state of a ticket shown by its stage (R126). -/
def State.stage (s : State) (t : TicketNo) (x : TicketState) : State := s.modTicket t fun k => { k with state := x }

/-- The skipped-track counter raised and the track sweep ended (R101, R102). -/
def State.skipTrack (s : State) (d : DeckId) : State :=
  { s.modSched d fun c => { c with track := none } with
    fseq := { s.fseq with skippedTrack := s.fseq.skippedTrack + 1 } }

/-- A FETCH, RANGE or FOCUS ticket: its work needs jobs on the path (R147). -/
def Ticket.needsPath (t : Ticket) : Bool :=
  t.kind == some .fetch || t.kind == some .range || t.kind == some .focus

/-! ## Lens arrivals and EXPOSING -/

/-- The ticket enters EXPOSING (R158, R161): the capture waits for tenure. -/
def State.enterExposing (s : State) (d : DeckId) (t : TicketNo) (pos : Nat) : State :=
  (s.stage t .exposing).modSched d fun c => { c with step := some .captureWait, capturePos := some pos }

/-- A lens arrival reported to the scheduler (R88, R154, R158): it opens EXPOSING in LENS_WAIT, is noted in MOVING, and has no
effect elsewhere. -/
def State.schedLens (s : State) (d : DeckId) (pos : Nat) : State :=
  match (s.sched d).active, (s.sched d).step with
  | some t, some .lensWait => s.enterExposing d t pos
  | some _, some .shuttle => s.modSched d fun c => { c with notedLens := some pos }
  | _, _ => s

/-- A lens move given by the scheduler, its arrival taken if it comes at once (R86, R88). -/
def State.schedMove (s : State) (d : DeckId) (target : Nat) : State :=
  let m := s.lensMove d (target : Int) .scheduler
  match m.2 with
  | some pos => m.1.schedLens d pos
  | none => m.1

/-! ## FOCUSING -/

/-- The lens target that R100 gives for a frame, or none where it calls for a sweep. -/
def State.focusTarget (s : State) (k : Slot) (frame : Nat) : Option Nat :=
  match s.params.policy with
  | .off => some ((s.entry k).lastSetpoint.getD Config.defaultCentre)
  | .onDemand | .track => (s.record k frame).bind (·.setpoint)

/-- The ticket enters FOCUSING (R158). -/
def State.enterFocusing (s : State) (d : DeckId) (t : TicketNo) : State :=
  let x := s.ticket t
  let s := s.stage t .focusing
  let target := if x.kind = some .focus then none else
    match x.slot, x.current with
    | some k, some frame => s.focusTarget k frame
    | _, _ => none
  match target with
  | none => s.modSched d fun c => { c with step := some .sweepWait }
  | some p => (s.modSched d fun c => { c with step := some .lensWait }).schedMove d p

/-! ## MOVING and SEARCHING -/

/-- The arrival of the active ticket's shuttle (R155). A ticket that was displaced after its search succeeded, and is chosen again
and arrives unconfirmed, is sent to SEARCHING once more: R155's words are followed where R156 says that a search is not repeated
for a frame within one ticket (log 36). -/
def State.movingArrived (s : State) (d : DeckId) (t : TicketNo) (a : Arrived) : State :=
  let x := s.ticket t
  if a.confirmed then
    if x.kind = some .locate then s.finalize t .completed else s.enterFocusing d t
  else
    match x.slot, x.current with
    | some k, some frame =>
      match s.record k frame with
      | some r =>
        ((s.stage t .searching).modSched d fun c => { c with step := some .search }).searchFor d r.position frame
      | none => s
    | _, _ => s

/-- The ticket's shuttle to a record (R154, R156), its arrival acted on if it comes at once. -/
def State.shuttleTo (s : State) (d : DeckId) (t : TicketNo) (pos frame : Nat) : State :=
  let r := s.shuttle d pos (some frame)
  match r.2 with
  | some a => r.1.movingArrived d t a
  | none => r.1

/-- The lens target given with the shuttle (R154): for a FETCH or RANGE ticket under ON_DEMAND or TRACK, the record's
setpoint. -/
def State.movingLens (s : State) (x : Ticket) (r : FrameRecord) : Option Nat :=
  if (x.kind = some .fetch ∨ x.kind = some .range) ∧ s.params.policy ≠ .off then r.setpoint else none

/-- The ticket enters MOVING for its current frame (R154). The lens command is given first, so that an arrival at once of
either drive finds the other's command given. -/
def State.enterMoving (s : State) (d : DeckId) (t : TicketNo) : State :=
  let x := s.ticket t
  let s := (s.stage t .moving).modSched d fun c => { c with step := some .shuttle }
  match x.slot, x.current with
  | some k, some frame =>
    match s.record k frame with
    | some r =>
      let s : State := match s.movingLens x r with
        | some p => s.schedMove d p
        | none => s
      s.shuttleTo d t r.position frame
    | none => s
  | _, _ => s

/-- The end of a search (R156). -/
def State.searchEnded (s : State) (d : DeckId) : State :=
  let frame := (s.pool d).searchRecord
  let r := s.searchChoice d
  match (r.1.sched d).active, (r.1.sched d).step with
  | some t, some .search =>
    match r.2, frame with
    | some pos, some f =>
      ((r.1.stage t .moving).modSched d fun c => { c with step := some .shuttle }).shuttleTo d t pos f
    | _, _ => r.1.finalize t .lost
  | _, _ => r.1

/-! ## INDEXING -/

/-- The INDEXING stage reaches its target (R152, CLOSING). -/
def State.closeIndexing (s : State) (d : DeckId) (t : TicketNo) : State :=
  if (s.ticket t).kind = some .index then s.finalize t .completed else s.enterMoving d t

/-- The run has ended at the film end and the target is not reached (R152). -/
def State.filmEndOutcome (s : State) (d : DeckId) (t : TicketNo) : State :=
  if (s.sched d).targetReached then s.closeIndexing d t
  else if (s.ticket t).kind = some .index ∧ (s.sched d).indexTarget.isNone then s.finalize t .completed
  else s.finalize t .notFound

/-- The shuttle back to a track record (R153), its arrival noted if it comes at once. -/
def State.trackShuttle (s : State) (d : DeckId) (tr : Track) : State :=
  let r := s.shuttle d tr.pos (some tr.frame)
  match r.2 with
  | some _ => r.1.modSched d fun c => { c with track := some { tr with arrived := true } }
  | none => r.1

/-- The deck is at rest in READY after a motion of the INDEXING stage, `atEnd` at the film end (R152, R153). In step TRACK the track
sweep goes first, also at the film end with the target reached, and the stage closes after it (log 35). A track sweep that was
skipped meanwhile leaves the continuing to `settle`. -/
def State.runRested (s : State) (d : DeckId) (atEnd : Bool) : State :=
  match (s.sched d).active with
  | none => s
  | some t =>
    let s := if atEnd then s.modSched d fun c => { c with filmEndMet := true } else s
    if (s.ticket t).cancelPending then s.finalize t .cancelled
    else
      match (s.sched d).step with
      | some .closing => s.closeIndexing d t
      | some .track =>
        match (s.sched d).track with
        | some tr => if tr.running then s else s.trackShuttle d tr
        | none => s
      | some .run => if atEnd then s.filmEndOutcome d t else s
      | _ => s

/-- A new index run (R150, R153), acted on if it ends at once. -/
def State.startRun (s : State) (d : DeckId) : State :=
  let s := s.modSched d fun c => { c with step := some .run, filmEndMet := false }
  let r := s.indexRun d
  if r.2 then r.1.runRested d true else r.1

/-- The ticket enters INDEXING (R150): a shuttle to the last record, or to position 0 where there is none. -/
def State.enterIndexing (s : State) (d : DeckId) (t : TicketNo) (k : Slot) (target : Option Nat) : State :=
  let s := (s.stage t .indexing).modSched d fun c => { c with
    step := some .approach, indexTarget := target, targetReached := false }
  let r := match (s.chain k).getLast? with
    | some q => s.shuttle d q.position (some q.frame)
    | none => s.shuttle d 0 none
  match r.2 with
  | some _ => r.1.startRun d
  | none => r.1

/-- A stop command whose coming to rest at once is acted on (R15, R152). -/
def State.stopRun (s : State) (d : DeckId) : State :=
  let r := s.stop d
  if r.2 then r.1.runRested d false else r.1

/-- The track sweep call of R101. -/
def State.callTrack (s : State) (d : DeckId) (frame pos : Nat) : State :=
  if s.params.policy = .track ∧ (frame = 1 ∨ frame % s.params.trackInterval = 0) then
    if s.opa.holder = some d.other ∨ s.fseq.sweep.isSome ∨ (s.sched d).track.isSome then
      { s with fseq := { s.fseq with skippedTrack := s.fseq.skippedTrack + 1 } }
    else
      (s.modSched d fun c => { c with track := some ⟨frame, pos, false, false⟩, step := some .track }).stopRun d
  else s

/-- A new record reported for a deck whose active ticket is in INDEXING (R151). The stop of step 2 is given after the track
call, so that a deferred run that ends at once finds its step. -/
def State.recordReported (s : State) (d : DeckId) (frame pos : Nat) : State :=
  match (s.sched d).active with
  | none => s
  | some t =>
    if (s.ticket t).state = .indexing then
      let s := if (s.ticket t).kind = some .index then s.modTicket t fun x => { x with current := some frame } else s
      if (s.sched d).indexTarget = some frame then
        let s : State := s.modSched d fun c => { c with
          targetReached := true
          step := if c.step = some .run then some .closing else c.step }
        let closing := (s.sched d).step = some .closing
        let s := s.callTrack d frame pos
        if closing ∧ (s.sched d).step = some .closing then s.stopRun d else s
      else s.callTrack d frame pos
    else s

/-- The pool is exhausted (R39, R152): the deck's run is stopped, and the ticket fails at once unless a cancel is pending. -/
def State.poolExhausted (s : State) (d : DeckId) : State :=
  let s : State := match (s.sched d).active with
    | some t =>
      if (s.ticket t).state = .indexing ∧ (s.ticket t).cancelPending = false then s.finalize t .poolFull else s
    | none => s
  s.stopRun d

/-! ## Deck arrivals and rest -/

/-- An arrival reported by the deck (R155). -/
def State.deckArrived (s : State) (d : DeckId) (a : Arrived) : State :=
  match (s.sched d).active, (s.sched d).step with
  | some _, some .approach => s.startRun d
  | some t, some .shuttle => s.movingArrived d t a
  | some _, some .track =>
    s.modSched d fun c => { c with track := c.track.map fun tr => { tr with arrived := true } }
  | _, _ => s

/-- The deck's report of coming to rest, acted on (R152, R155, R156, R138, R10). -/
def State.rested (s : State) (d : DeckId) : RestReport → State
  | .none => s
  | .arrived a => s.deckArrived d a
  | .atRest => s.runRested d false
  | .filmEnd => s.runRested d true
  | .searched _ _ => s.searchEnded d
  | .identified r => s.identify d r

/-! ## Ends of sweeps and captures -/

/-- An active ticket's end held or pending, or the outcome that the event gives it (R160, R162). -/
def State.endTicket (s : State) (d : DeckId) (t : TicketNo) (o : TicketOutcome) : State :=
  match (s.sched d).held with
  | some .halted => s.finalize t .halted
  | some .removed => s.finalize t .removed
  | none => if (s.ticket t).cancelPending then s.finalize t .cancelled else s.finalize t o

/-- The outcome that an abort cause gives (R160). -/
def AbortCause.outcome : AbortCause → TicketOutcome
  | .cancel => .cancelled
  | .halt => .halted
  | .removal | .release => .removed
  | .cameraRefused => .cameraRefused
  | .cameraTimeout => .cameraTimeout
  | .cameraAbsent => .cameraAbsent

/-- A camera cause (R102). -/
def AbortCause.camera : AbortCause → Bool
  | .cameraRefused | .cameraTimeout | .cameraAbsent => true
  | .cancel | .halt | .removal | .release => false

/-- The end of a track sweep (R102, R139, R153, R164). -/
def State.trackEnded (s : State) (d : DeckId) (t : TicketNo) (e : SweepEnd) : State :=
  if (s.sched d).held.isSome ∨ (s.ticket t).cancelPending then s.endTicket d t .cancelled
  else
    match e with
    | .completed _ _ => s.modSched d fun c => { c with track := none }
    | .aborted cause =>
      if cause.camera then s.skipTrack d else s.modSched d fun c => { c with track := none }

/-- The end of the active ticket's own sweep (R160). -/
def State.sweepFinished (s : State) (d : DeckId) (t : TicketNo) (e : SweepEnd) : State :=
  match e with
  | .aborted cause => s.endTicket d t cause.outcome
  | .completed outcome arrival =>
    if (s.sched d).held.isSome ∨ (s.ticket t).cancelPending ∨ (s.ticket t).kind = some .focus then
      s.endTicket d t .completed
    else
      let s := s.modSched d fun c => { c with softFrame := decide (outcome = .soft), step := some .lensWait }
      match arrival with
      | some pos => s.schedLens d pos
      | none => s

/-- The focus sequencer's report (R153, R160); it finds a ticket already final without effect. -/
def State.sweepReported (s : State) (r : SweepReport) : State :=
  let c := s.sched r.deck
  match c.active with
  | none => s
  | some t =>
    if r.track then (if c.track.any (·.running) then s.trackEnded r.deck t r.result else s)
    else if c.step = some .sweep then s.sweepFinished r.deck t r.result
    else s

/-- A report that may or may not have come. -/
def State.sweepReport? (x : State × Option SweepReport) : State :=
  match x.2 with
  | some r => x.1.sweepReported r
  | none => x.1

/-- A frame of the range after `frame` that is not passed over as withdrawn, with the number passed over (R163). -/
def State.nextFrame (s : State) (k : Slot) (last : Nat) : Nat → Nat → Nat × Nat
  | 0, frame => (frame, 0)
  | fuel + 1, frame =>
    if frame ≤ last ∧ (s.record k frame).any (·.withdrawn) then
      let r := State.nextFrame s k last fuel (frame + 1)
      (r.1, r.2 + 1)
    else (frame, 0)

/-- A frame boundary of a RANGE ticket (R163). -/
def State.frameBoundary (s : State) (d : DeckId) (t : TicketNo) : State :=
  let x := s.ticket t
  let s := s.modSched d fun c => { c with softFrame := false, capturePos := none }
  match x.slot, x.current, x.last with
  | some k, some frame, some last =>
    let r := s.nextFrame k last (last + 1 - frame) (frame + 1)
    let s := s.modTicket t fun x => { x with
      current := some r.1, skipped := min Config.progressHold (x.skipped + r.2) }
    if r.1 > last then s.finalize t .completed
    else (s.modTicket t fun x => { x with state := .queued, pathWait := false }).modSched d Sched.idle
  | _, _, _ => s

/-- The counts of a TAKEN capture (R127, R162 step 1). -/
def Ticket.countCapture (t : Ticket) (id : BitVec 32) (soft : Bool) : Ticket :=
  { t with
    captured := holdUp Config.progressHold t.captured
    lastId := some id
    firstId := t.firstId.orElse fun _ => some id
    soft := if soft then holdUp Config.progressHold t.soft else t.soft }

/-- The end of the active ticket's CAPTURE order, in the order of R162. -/
def State.captureEnded (s : State) (d : DeckId) (e : OrderEnd) : State :=
  match (s.sched d).active with
  | none => s.jobEnd d
  | some t =>
    let s : State := match e with
      | .taken id => s.modTicket t fun x => x.countCapture id (s.sched d).softFrame
      | .refused | .timeout | .absent => s
    let s := s.jobEnd d
    match e with
    | .taken _ =>
      if (s.sched d).held.isNone ∧ (s.ticket t).cancelPending = false ∧ (s.ticket t).kind = some .range then
        s.frameBoundary d t
      else s.endTicket d t .completed
    | .refused => s.endTicket d t .cameraRefused
    | .timeout => s.endTicket d t .cameraTimeout
    | .absent => s.endTicket d t .cameraAbsent

/-! ## Selection -/

/-- The better of two QUEUED tickets: the higher priority, and of equal priority the one nearer the head (R148). -/
def State.betterTicket (s : State) (best : Option TicketNo) (t : TicketNo) : Option TicketNo :=
  match best with
  | none => some t
  | some b => if (s.ticket b).priority < (s.ticket t).priority then some t else some b

/-- The ticket that selection chooses for an entry (R148). -/
def State.choose (s : State) (k : Slot) : Option TicketNo :=
  (s.admission.filter fun t => (s.ticket t).state == .queued && (s.ticket t).slot == some k).foldl s.betterTicket none

/-- The conditions of R148, with the ticket chosen. -/
def State.selection (s : State) (d : DeckId) : Option (Slot × TicketNo) :=
  if (s.deck d).state = .ready ∧ (s.sched d).active.isNone ∧ s.orderFor d = false then
    match s.entryOf d with
    | some k => (s.choose k).map fun t => (k, t)
    | none => none
  else none

/-- A ticket made active at a deck, with what the start of a frame clears (R148, R149). -/
def State.activate (s : State) (d : DeckId) (t : TicketNo) : State :=
  (s.modTicket t fun x => { x with pathWait := false }).modSched d fun c => { c.idle with active := some t }

/-- The work on a chosen ticket begins (R149). -/
def State.beginWork (s : State) (d : DeckId) (k : Slot) (t : TicketNo) : State :=
  let s := s.activate d t
  let x := s.ticket t
  let e := s.entry k
  if x.kind = some .index then
    if x.first.any fun n => decide (n ≤ e.frameCount) then
      (s.modTicket t fun x => { x with current := some e.frameCount }).finalize t .completed
    else if e.complete then s.finalize t (if x.first.isNone then .completed else .notFound)
    else (s.modTicket t fun x => { x with current := some e.frameCount }).enterIndexing d t k x.first
  else if x.current.getD 0 ≤ e.frameCount then s.enterMoving d t
  else if e.complete then s.finalize t .notFound
  else s.enterIndexing d t k x.current

/-! ## Requests and path wait -/

/-- The deck's own ticket needs the path (R147). -/
def State.ticketWants (s : State) (d : DeckId) : Bool :=
  match (s.sched d).active with
  | none => false
  | some t =>
    let x := s.ticket t
    x.needsPath && (x.state == .moving || x.state == .searching || x.state == .focusing || x.state == .exposing) &&
      !x.cancelPending && (s.sched d).held.isNone

/-- The request that R147 calls for; a held failure withdraws it (R164). -/
def State.requestWanted (s : State) (d : DeckId) : Bool :=
  s.ticketWants d || ((s.sched d).track.isSome && (s.sched d).held.isNone)

/-- The request raised or withdrawn as R147 decides. -/
def State.updateRequest (s : State) (d : DeckId) : State :=
  let want := s.requestWanted d
  let s := s.modSched d fun c => { c with request := want }
  if want then s.raise d else s.withdraw d

/-- Path wait on the active ticket (R127, R147, log 17). -/
def State.showPathWait (s : State) (d : DeckId) : State :=
  match (s.sched d).active with
  | none => s
  | some t => s.modTicket t fun x => { x with pathWait := s.ticketWants d && s.opa.holder != some d }

/-! ## What the scheduler does between events -/

/-- A pending track sweep that has arrived begins with tenure, or is skipped for want of READY (R102, R153). -/
def State.beginTrack (s : State) (d : DeckId) : Option State :=
  match (s.sched d).active, (s.sched d).track, s.entryOf d with
  | some t, some tr, some k =>
    if tr.running = false ∧ tr.arrived = true ∧ s.opa.holder = some d ∧ (s.deck d).state = .ready ∧
        (s.ticket t).cancelPending = false then
      if s.pins.ready then
        match s.sweepAnswer d k with
        | .taken =>
          some (State.sweepReport? ((s.modSched d fun c => { c with track := some { tr with running := true } }).startSweep
            d k tr.frame false true))
        | .busy | .notHeld => none
      else some (s.skipTrack d)
    else none
  | _, _, _ => none

/-- The stage goes on after its track sweep has ended and the deck is at rest (R153). -/
def State.continueStage (s : State) (d : DeckId) : Option State :=
  match (s.sched d).active with
  | none => none
  | some t =>
    if (s.sched d).step = some .track ∧ (s.sched d).track.isNone ∧ (s.deck d).state = .ready ∧
        (s.ticket t).cancelPending = false ∧ (s.sched d).held.isNone then
      if (s.sched d).targetReached then some (s.closeIndexing d t)
      else if (s.sched d).filmEndMet then some (s.filmEndOutcome d t)
      else some (s.startRun d)
    else none

/-- A ticket in SWEEP_WAIT whose deck holds tenure (R159). -/
def State.beginSweep (s : State) (d : DeckId) : Option State :=
  match (s.sched d).active, (s.sched d).step, s.entryOf d with
  | some t, some .sweepWait, some k =>
    if s.opa.holder = some d then
      if s.pins.ready then
        match s.sweepAnswer d k with
        | .taken =>
          let x := s.ticket t
          some (State.sweepReport? ((s.modSched d fun c => { c with step := some .sweep }).startSweep
            d k (x.current.getD 0) (decide (x.kind = some .focus)) false))
        | .busy | .notHeld => none
      else some (s.finalize t .cameraAbsent)
    else none
  | _, _, _ => none

/-- A ticket in CAPTURE_WAIT whose deck holds tenure hands over its CAPTURE order (R161). -/
def State.beginCapture (s : State) (d : DeckId) : Option State :=
  match (s.sched d).active, (s.sched d).step, (s.sched d).capturePos with
  | some t, some .captureWait, some pos =>
    let x := s.ticket t
    match x.slot, x.current with
    | some k, some frame =>
      if s.opa.holder = some d ∧ s.hlp.order.isNone then
        let h := s.handOver ⟨d, .capture, pos, k, frame, (s.entry k).tag⟩
        match h.2 with
        | .sent => some ((h.1.modSched d fun c => { c with step := some .capture }).jobBegin d)
        | .absent => some ((h.1.jobBegin d).captureEnded d .absent)
        | .unsent => none
      else none
    | _, _ => none
  | _, _, _ => none

/-- The next thing the scheduler has to do for a deck, if there is one. -/
def State.deckAction (s : State) (d : DeckId) : Option State :=
  match s.selection d with
  | some (k, t) => some (s.beginWork d k t)
  | none =>
    (s.continueStage d).orElse fun _ => (s.beginTrack d).orElse fun _ => (s.beginSweep d).orElse fun _ => s.beginCapture d

/-- The request of a deck decided, where R147 calls for another than stands. -/
def State.requestAction (s : State) (d : DeckId) : Option State :=
  if s.opa.requests.get d = s.requestWanted d then none else some (s.updateRequest d)

/-- The next thing the scheduler has to do, deck A before deck B, the requests after the rest (R147, log 16). -/
def State.nextAction (s : State) : Option State :=
  (s.deckAction .a).orElse fun _ => (s.deckAction .b).orElse fun _ =>
    (s.requestAction .a).orElse fun _ => s.requestAction .b

/-- The scheduler acts until nothing is left to do; at most `n` actions (log 16). -/
def State.settleSteps : Nat → State → State
  | 0, s => s
  | n + 1, s =>
    match s.nextAction with
    | some s' => State.settleSteps n s'
    | none => s

/-- What the scheduler does after an event that concerns it (R147, R148, R153, R159, R161). -/
def State.settle (s : State) : State :=
  let s := State.settleSteps 128 s
  let s := { s with scheds := ⟨{ s.scheds.a with request := s.opa.requests.a }, { s.scheds.b with request := s.opa.requests.b }⟩ }
  (s.showPathWait .a).showPathWait .b

/-! ## Redirect -/

/-- The conditions of R157 for ticket `t` at deck `d` with entry `k`. -/
def State.mayRedirect (s : State) (d : DeckId) (k : Slot) (t : TicketNo) : Option TicketNo :=
  match (s.sched d).active with
  | none => none
  | some a =>
    let x := s.ticket t
    if (s.ticket a).state = .moving ∧ (s.ticket a).cancelPending = false ∧ (s.sched d).held.isNone ∧
        (s.ticket a).priority < x.priority ∧ x.kind ≠ some .index ∧ x.current.getD 0 ≤ (s.entry k).frameCount then
      some a
    else none

/-- A ticket that has become QUEUED displaces a less urgent one in MOVING (R157). -/
def State.redirect (s : State) (t : TicketNo) : State :=
  match (s.ticket t).slot with
  | none => s
  | some k =>
    match (s.entry k).deck with
    | none => s
    | some d =>
      match s.mayRedirect d k t with
      | some a =>
        ((s.modTicket a fun x => { x with state := .queued, pathWait := false }).activate d t).enterMoving d t
      | none => s

/-! ## Halts and removals -/

/-- A halt or a removal reaches the scheduler (R164). -/
def State.deckFailed (s : State) (d : DeckId) (h : HeldOutcome) : State :=
  match (s.sched d).active with
  | none => s
  | some t =>
    if s.orderFor d then
      if (s.ticket t).cancelPending ∨ (s.sched d).held.isSome then s
      else s.modSched d fun c => { c with held := some h }
    else if (s.ticket t).cancelPending then s.finalize t .cancelled
    else s.finalize t (match h with
      | .halted => .halted
      | .removed => .removed)

/-- A deck halts (R23), and hands the halt to its neighbours in the order scheduler, focus sequencer, arbiter. -/
def State.halt (s : State) (d : DeckId) (cause : HaltCause) : State :=
  let s := s.dropLeader d
  let s := (s.modDeck d fun k =>
    { k.dropMotion with state := .halted, lastHalt := some cause }.recordEvent .halted).powerOff d
  let s := ((s.dropShares d).deckFailed d .halted).updateRequest d
  ((State.sweepReport? (s.abortSweep d .halt)).closeTenure d).settle

/-- PATH_FAULT reported for a deck (R165). -/
def State.pathFaulted (s : State) (d : DeckId) : State :=
  let s := s.modSched d fun c => { c with request := false }
  match (s.sched d).active with
  | none => s
  | some t =>
    if (s.sched d).track.isSome then s.skipTrack d
    else
      let s := s.finalize t .pathFault
      match (s.deck d).state with
      | .shuttling | .searching => (s.stop d).1
      | _ => s

end Sys2Proof.Machine
end

