-- ==== Sys2Proof/Machine/RecordRequests.lean ====
section
/-! DEFINITION. What the catalogue requests and the record requests do (R58 to R62, R72, R75 to R82). -/

namespace Sys2Proof.Machine

/-- What the owner of a request returns (R173, step 4). -/
structure Reply where
  state : State
  result : ResultCode
  data : List Byte
deriving DecidableEq, Repr

/-- A refusal: no state changed, no answer data (R186). -/
def State.refuse (s : State) (c : ResultCode) : Reply := ⟨s, c, []⟩

/-- A request carried out. -/
def State.answer (s : State) (data : List Byte) : Reply := ⟨s, .ok, data⟩

/-! ## Catalogue requests -/

/-- DECLARE ROLL (R58). -/
def State.declareRoll (s : State) (tag : BitVec 24) (width : Byte) : Reply :=
  match widthOf width with
  | none => s.refuse .badArgument
  | some w =>
    if tag.toNat > Config.maxTag then s.refuse .badArgument
    else if (s.tagHolder tag.toNat).isSome then s.refuse .duplicate
    else
      match s.freeSlot with
      | none => s.refuse .full
      | some k =>
        (s.setEntry k { Entry.free with state := .listed, tag := some tag.toNat, width := some w }).answer [num8 k.val]

/-- READ ROLL (R59). -/
def State.readRoll (s : State) (slot : Byte) : Reply :=
  match slotOf slot with
  | none => s.refuse .badArgument
  | some k => s.answer (entryData k (s.entry k))

/-- NAME ROLL (R60). -/
def State.nameRoll (s : State) (slot : Byte) (tag : BitVec 24) : Reply :=
  match slotOf slot with
  | none => s.refuse .badArgument
  | some k =>
    let e := s.entry k
    if tag.toNat > Config.maxTag then s.refuse .badArgument
    else if e.state ≠ .mounted ∨ e.tag.isSome then s.refuse .state
    else if (s.tagHolder tag.toNat).isSome then s.refuse .duplicate
    else (s.setEntry k { e with tag := some tag.toNat }).answer []

/-- The deck's entry, if any, is one that BIND DECK replaces: transient with frame count 0 (R61). -/
def State.bindable (s : State) (d : DeckId) : Bool :=
  match s.entryOf d with
  | none => true
  | some k => (s.entry k).tag.isNone && (s.entry k).frameCount == 0

/-- BIND DECK (R61); the scheduler may then choose for the deck (R148). -/
def State.bindDeck (s : State) (deck slot : Byte) : Reply :=
  match deckOf deck, slotOf slot with
  | some d, some k =>
    let e := s.entry k
    if (s.deck d).state ≠ .ready then s.refuse .state
    else if (s.sched d).active.isSome then s.refuse .busy
    else if s.bindable d = false then s.refuse .state
    else if e.state = .free then s.refuse .notListed
    else if e.state ≠ .listed ∨ e.releasePending then s.refuse .state
    else if e.width ≠ (s.deck d).kind.bind Kind.width? then s.refuse .badArgument
    else (((s.releaseDeck d).bind k d).settle).answer []
  | _, _ => s.refuse .badArgument

/-- RETIRE ROLL (R62). -/
def State.retireRoll (s : State) (slot : Byte) : Reply :=
  match slotOf slot with
  | none => s.refuse .badArgument
  | some k =>
    let e := s.entry k
    if e.state = .free then s.refuse .notListed
    else if e.state = .mounted then s.refuse .state
    else if e.ticketCount > 0 then s.refuse .held
    else (s.freeEntry k).answer []

/-! ## Record requests -/

/-- The checks of R75 that name a frame: slot, then the request's own argument ranges, then the entry, then the frame. -/
def State.frameRequest (s : State) (slot : Byte) (frame : Half) (argumentsOk : Bool) (act : Slot → Nat → Reply) : Reply :=
  match slotOf slot with
  | none => s.refuse .badArgument
  | some k =>
    if argumentsOk = false then s.refuse .badArgument
    else if (s.entry k).state = .free then s.refuse .notListed
    else if frame.toNat = 0 ∨ frame.toNat > (s.entry k).frameCount then s.refuse .notFound
    else act k frame.toNat

/-- READ FRAMES (R78). -/
def State.readFrames (s : State) (slot : Byte) (frame : Half) (count : Byte) : Reply :=
  s.frameRequest slot frame (decide (1 ≤ count.toNat ∧ count.toNat ≤ 16)) fun k f =>
    s.answer (framesData k f ((s.chain k).drop (f - 1) |>.take count.toNat))

/-- A hierarchy number's range (R75). -/
def hierarchyOk (n : Half) : Bool := decide (1 ≤ n.toNat ∧ n.toNat ≤ Config.maxFrame)

/-- FIND FRAME (R79). -/
def State.findFrame (s : State) (slot : Byte) (sec group idx : Half) : Reply :=
  match slotOf slot with
  | none => s.refuse .badArgument
  | some k =>
    if (hierarchyOk sec && hierarchyOk group && hierarchyOk idx) = false then s.refuse .badArgument
    else if (s.entry k).state = .free then s.refuse .notListed
    else
      match (s.chain k).find? fun r =>
        r.sectionNo == sec.toNat && r.groupNo == group.toNat && r.indexNo == idx.toNat with
      | none => s.refuse .notFound
      | some r => s.answer (num16 r.frame)

/-- ANNOTATE FRAME (R80). -/
def State.annotateFrame (s : State) (slot : Byte) (frame note : Half) : Reply :=
  s.frameRequest slot frame true fun k f =>
    (s.setRecord k f fun r => { r with note := note.toNat }).answer []

/-- SET FOCUS (R72): bit 0 of the flag byte says that a setpoint is given. -/
def State.setFocus (s : State) (slot : Byte) (frame : Half) (flags : Byte) (setpoint : Half) : Reply :=
  let given := flags.getLsbD 0
  s.frameRequest slot frame (!given || decide (setpoint.toNat ≤ Config.maxLens)) fun k f =>
    if given then
      let s := s.setRecord k f fun r => { r with
        setpoint := some setpoint.toNat, source := some .host, figure := none }
      (s.setEntry k { s.entry k with lastSetpoint := some setpoint.toNat }).answer []
    else
      (s.setRecord k f fun r => { r with setpoint := none, source := none, figure := none }).answer []

/-- WITHDRAW FRAME (R81). -/
def State.withdrawFrame (s : State) (slot : Byte) (frame : Half) : Reply :=
  s.frameRequest slot frame true fun k f =>
    if s.frameHeld k f then s.refuse .held
    else (s.setRecord k f fun r => { r with withdrawn := true }).answer []

/-- RESTORE FRAME (R82). -/
def State.restoreFrame (s : State) (slot : Byte) (frame : Half) : Reply :=
  s.frameRequest slot frame true fun k f =>
    (s.setRecord k f fun r => { r with withdrawn := false }).answer []

/-! ## DECLARE FRAMES -/

/-- An item with its fields judged (R76, R188): position, class and setpoint. -/
structure Item where
  pos : Nat
  cls : MarkClass
  setpoint : Option Nat
deriving DecidableEq, Repr

/-- An item read, or none where a field is out of range. -/
def itemOf (i : DeclItem) : Option Item :=
  match classOf i.classByte with
  | none => none
  | some c =>
    if i.position.toNat > Config.maxPosition then none
    else if i.classByte.msb then
      if i.setpoint.toNat > Config.maxLens then none else some ⟨i.position.toNat, c, some i.setpoint.toNat⟩
    else some ⟨i.position.toNat, c, none⟩

/-- All items read. -/
def itemsOf : List DeclItem → Option (List Item)
  | [] => some []
  | i :: rest =>
    match itemOf i, itemsOf rest with
    | some x, some xs => some (x :: xs)
    | _, _ => none

/-- Each position is greater than the one before it, the first greater than the last record's (R76). -/
def rising : Option Nat → List Item → Bool
  | _, [] => true
  | before, i :: rest => (before.all fun p => decide (p < i.pos)) && rising (some i.pos) rest

/-- The records of a DECLARE FRAMES appended, in item order (R77). -/
def State.appendItems (s : State) (k : Slot) (items : List Item) : State :=
  items.foldl (fun s i => s.append k i.pos i.cls .declared i.setpoint) s

/-- DECLARE FRAMES (R76, R77). One that comes after its slot's entry has been freed is refused with STATE, by the check of R76, and
not with the NOT_LISTED that R83 names for record requests in general (log 33). A first frame number outside the 1..16,384 of 10.3
meets the checks in R76's order too, after the check of state, and not before it as R188 says of fields in general (log 39). -/
def State.declareFrames (s : State) (slot : Byte) (first : Half) (count : Byte) (items : List DeclItem) : Reply :=
  match slotOf slot, itemsOf items with
  | some k, some xs =>
    let e := s.entry k
    if count.toNat = 0 ∨ count.toNat > 16 then s.refuse .badArgument
    else if e.state ≠ .listed ∨ e.releasePending then s.refuse .state
    else if first.toNat ≠ e.frameCount + 1 then s.refuse .badArgument
    else if rising (s.lastPosition k) xs = false then s.refuse .badArgument
    else if s.freeCount < xs.length then s.refuse .full
    else
      let s := s.appendItems k xs
      let e := s.entry k
      (s.setEntry k { e with extent := max e.extent ((s.lastPosition k).getD 0) }).answer (num16 e.frameCount)
  | _, _ => s.refuse .badArgument

end Sys2Proof.Machine
end

