-- ==== Sys2Proof/Machine/DeckRequests.lean ====
section
/-! DEFINITION. What MOUNT, UNMOUNT and CLEAR DECK do (R8, R19, R24). -/

namespace Sys2Proof.Machine

/-- A deck has entered a powered state (R2, R22): an active drive fault halts it as soon as it has; else its motion begins,
subject to deferral (R3). -/
def State.poweredUp (s : State) (d : DeckId) : State :=
  if (s.sensors d).driveFault then s.halt d .driveFault else s.beginMotion d

/-- The counters of a mark reader that MOUNT clears (R8, R30). -/
def Mark.clearCounters (m : Mark) : Mark := { m with classified := 0, noise := 0, fault := 0 }

/-- A MOUNT taken (R8). -/
def State.startMount (s : State) (d : DeckId) : State :=
  let s := s.modDeck d fun k => { k with
    state := .threading, identification := some .fresh, counter := 0, anchored := false, excursion := 0 }
  (s.setMark d (s.mark d).clearCounters.prepareLeader).poweredUp d

/-- MOUNT (R8). -/
def State.mountDeck (s : State) (deck : Byte) : Reply :=
  match deckOf deck with
  | none => s.refuse .badArgument
  | some d =>
    if (s.deck d).state ≠ .seated then s.refuse .state
    else if (s.deck d).kind = some .unsupported then s.refuse .unsupported
    else if s.orderFor d then s.refuse .busy
    else (s.startMount d).answer []

/-- An UNMOUNT taken (R19): the crossing set is emptied as the deck leaves READY (R41). -/
def State.startUnmount (s : State) (d : DeckId) : State :=
  let s := s.modDeck d fun k => { k with state := .rewinding, purpose := some .unmount }
  (s.setPool d { s.pool d with crossing := [] }).beginMotion d

/-- UNMOUNT (R19). -/
def State.unmountDeck (s : State) (deck : Byte) : Reply :=
  match deckOf deck with
  | none => s.refuse .badArgument
  | some d =>
    if (s.sched d).active.isSome then s.refuse .busy
    else if (s.deck d).state ≠ .ready then s.refuse .state
    else (s.startUnmount d).answer []

/-- A CLEAR DECK with film in the gate taken (R24): a remount begins with its rewind. -/
def State.startRemount (s : State) (d : DeckId) : State :=
  let s := s.modDeck d fun k => { k with
    state := .rewinding, purpose := some .remount, counter := 0, anchored := false, excursion := 0 }
  (s.setMark d (s.mark d).prepareLeader).poweredUp d

/-- A CLEAR DECK with no film in the gate taken (R24): SEATED, the entry released, UNMOUNTED recorded. -/
def State.clearEmpty (s : State) (d : DeckId) : State :=
  ((s.modDeck d fun k => { k with state := .seated }).releaseDeck d).modDeck d fun k => k.recordEvent .unmounted

/-- CLEAR DECK (R24). -/
def State.clearDeck (s : State) (deck : Byte) : Reply :=
  match deckOf deck with
  | none => s.refuse .badArgument
  | some d =>
    if (s.deck d).state ≠ .halted then s.refuse .state
    else if s.orderFor d then s.refuse .busy
    else (if (s.sensors d).filmInGate then s.startRemount d else s.clearEmpty d).answer []

end Sys2Proof.Machine
end

