-- ==== Sys2Proof/Machine/LinkRequests.lean ====
section
/-! DEFINITION. What the link requests (R177 to R183) and the focus requests (R103, R104) do. -/

namespace Sys2Proof.Machine

/-! ## Parameters -/

/-- A band of a parameter block within its ranges (9.7.1): L in 0..1,022, H in L + 1..1,023, E in 1..15. -/
def bandOf (low high : Half) (limit : Byte) : Option Band :=
  if low.toNat ≤ 1022 ∧ low.toNat < high.toNat ∧ high.toNat ≤ 1023 ∧ 1 ≤ limit.toNat ∧ limit.toNat ≤ 15 then
    some ⟨low.toNat, high.toNat, limit.toNat⟩
  else none

/-- The other numeric fields of a parameter block lie within their ranges (R180, 9.7.1). -/
def paramRanges (b : ParamWire) : Bool :=
  decide (8 ≤ b.window.toNat) && decide (64 ≤ b.span.toNat ∧ b.span.toNat ≤ 4095) &&
    decide (3 ≤ b.m1.toNat ∧ b.m1.toNat < b.m2.toNat ∧ b.m2.toNat < b.m3.toNat ∧ b.m3.toNat ≤ 250) &&
    decide (5 ≤ b.headTimeout.toNat ∧ b.headTimeout.toNat ≤ 1000) &&
    decide (1 ≤ b.tenureLimit.toNat ∧ b.tenureLimit.toNat ≤ 32) &&
    decide (1 ≤ b.trackInterval.toNat ∧ b.trackInterval.toNat ≤ 64)

/-- A parameter block read, or none where it is refused with BAD_ARGUMENT (R180). -/
def paramsOf (b : ParamWire) : Option Params :=
  match bandOf b.lowA b.highA b.limitA, bandOf b.lowB b.highB b.limitB, policyOf b.policy with
  | some x, some y, some policy =>
    if paramRanges b then
      some
        { window := b.window.toNat, span := b.span.toNat, m1 := b.m1.toNat, m2 := b.m2.toNat, m3 := b.m3.toNat
          bands := ⟨x, y⟩, headTimeout := b.headTimeout.toNat, tenureLimit := b.tenureLimit.toNat, policy := policy
          trackInterval := b.trackInterval.toNat, floor := b.floor.toNat
          mask := ⟨b.mask.getLsbD 0, b.mask.getLsbD 1, b.mask.getLsbD 2⟩ }
    else none
  | _, _, _ => none

/-- The thresholds and the window of two blocks agree (R180). -/
def Params.sameMarks (p q : Params) : Bool :=
  p.window == q.window && p.m1 == q.m1 && p.m2 == q.m2 && p.m3 == q.m3

/-- SET PARAMETERS (R180, R181). -/
def State.setParameters (s : State) (b : ParamWire) : Reply :=
  match paramsOf b with
  | none => s.refuse .badArgument
  | some p =>
    if p.sameMarks s.params = false ∧ (s.power .a || s.power .b) = true then s.refuse .busy
    else ({ s with params := p }).answer []

/-- EVENTS (R179): both sets are then emptied; the companion fields stay. -/
def State.takeEvents (s : State) : Reply :=
  ({ s with decks := ⟨{ s.decks.a with events := EventSet.none }, { s.decks.b with events := EventSet.none }⟩ }).answer
    (eventsData s)

/-- RESTART (R183): from now on no further message is taken into processing. -/
def State.restart (s : State) : Reply := ({ s with rlp := { s.rlp with restartTaken := true } }).answer []

/-! ## Focus requests -/

/-- A step of a plan as sent: an offset outside −512..+511 is out of range (10.9). -/
def stepOf (w : StepWire) : Option PlanStep :=
  if -512 ≤ w.offset.toInt ∧ w.offset.toInt ≤ 511 then some ⟨w.flags.getLsbD 0, w.offset.toInt⟩ else none

/-- The steps of a plan as sent. -/
def stepsOf : List StepWire → Option (List PlanStep)
  | [] => some []
  | w :: rest =>
    match stepOf w, stepsOf rest with
    | some x, some xs => some (x :: xs)
    | _, _ => none

/-- A plan read, or none where it is refused with BAD_ARGUMENT (R103). -/
def planOf (p : PlanWire) : Option Plan :=
  match stepsOf p.steps with
  | none => none
  | some xs =>
    if h : xs.length = 12 then
      if p.pause.toNat ≤ 7 ∧ xs.any (·.enabled) then
        some ⟨⟨xs.toArray, by simp [h]⟩, p.extension.getLsbD 0, p.pause.toNat⟩
      else none
    else none

/-- SET SWEEP PLAN (R103). -/
def State.setSweepPlan (s : State) (p : PlanWire) : Reply :=
  match planOf p with
  | none => s.refuse .badArgument
  | some q =>
    if s.fseq.sweep.isSome then s.refuse .busy
    else ({ s with fseq := { s.fseq with plan := q } }).answer []

end Sys2Proof.Machine
end

