-- ==== Sys2Proof/Machine/Reset.lean ====
section
/-! DEFINITION. Entering and leaving reset (R184, and the reset values of R27, R46, R63, R84, R105, R122, R123, R145, R167 and
R185). -/

namespace Sys2Proof.Machine

/-- Every block at its reset values; the pins stand as they are and the commands that wait stay. -/
def State.enterReset (s : State) : State :=
  { State.reset with pins := s.pins, deckPins := s.deckPins, rate := s.rate, opa := Opa.reset, pending := s.pending }

/-- The line rate the straps choose (R168). -/
def rateOf (lr1 lr0 : Bool) : Rate :=
  match lr1, lr0 with
  | false, false => .baud115200
  | false, true => .baud460800
  | true, false => .baud921600
  | true, true => .baud1843200

/-- The seating and disagreement times as the contacts stand (R4, R5, R27). -/
def Deck.startDetection (k : Deck) (seat1 seat2 : Bool) : Deck :=
  { k with
    seating := if seat1 && seat2 then some (Timer.start Config.seatingTime) else none
    disagreement := if seat1 != seat2 then some (Timer.start Config.disagreementTime) else none }

/-- The detection of a deck in EMPTY begun from its contacts. -/
def State.detect (s : State) (d : DeckId) : State :=
  s.setDeck d ((s.deck d).startDetection (s.sensors d).seat1 (s.sensors d).seat2)

/-- The part leaves reset (R184): the straps are sampled, detection runs from EMPTY (R27), and the path's move toward gate A
begins as soon as HOLD is not asserted (R122). -/
def State.leaveReset (s : State) (lr1 lr0 : Bool) : State :=
  ((({ s with rate := rateOf lr1 lr0 }).detect .a).detect .b).arbitrateNow none

/-- A reset that is not held (R183, R184). -/
def State.restartPart (s : State) (lr1 lr0 : Bool) : State := s.enterReset.leaveReset lr1 lr0

end Sys2Proof.Machine
end

