-- ==== Sys2Proof/Machine/TicketRequests.lean ====
section
/-! DEFINITION. What the ticket requests do: the admissions (R128 to R130), CANCEL (R137 to R141), QUERY TICKET (R142) and
COLLECT (R143). -/

namespace Sys2Proof.Machine

/-- A frame number or target of an admission: 1..16,384 (R128). -/
def frameArgument (n : Half) : Bool := decide (1 ≤ n.toNat ∧ n.toNat ≤ Config.maxFrame)

/-- An admission checked and taken (R129, R130). The answer shows the ticket number and the state it was admitted in; the
ticket is then at once among those that may displace a less urgent one (R157) or be chosen (R148). -/
def State.enterTicket (s : State) (a : Admission) : Reply :=
  match s.admissionRefusal a, s.freeTicket with
  | some c, _ => s.refuse c
  | none, none => s.refuse .full
  | none, some t =>
    let s' := s.takeAdmission a t
    ((s'.redirect t).settle).answer [num8 t.val, num8 (s'.ticket t).state.code]

/-- The range checks of R128 before the admission: slot, priority, frames, EXTEND where it does not apply. -/
def State.admitChecked (s : State) (slot priority : Byte) (argumentsOk : Bool) (a : Slot → Admission) : Reply :=
  match slotOf slot with
  | none => s.refuse .badArgument
  | some k => if (argumentsOk && decide (priority.toNat ≤ 3)) = false then s.refuse .badArgument else s.enterTicket (a k)

/-- EXTEND, bit 0 of the options byte (10.3). -/
def extendOf (options : Byte) : Bool := options.getLsbD 0

/-- An admission of one frame. -/
def frameAdmission (kind : TicketKind) (frame : Half) (priority options : Byte) (k : Slot) : Admission :=
  ⟨kind, k, some frame.toNat, some frame.toNat, priority.toNat, extendOf options⟩

/-- FETCH (R128 to R130). -/
def State.admitFetch (s : State) (slot : Byte) (frame : Half) (priority options : Byte) : Reply :=
  s.admitChecked slot priority (frameArgument frame) (frameAdmission .fetch frame priority options)

/-- RANGE (R128 to R130). -/
def State.admitRange (s : State) (slot : Byte) (first last : Half) (priority options : Byte) : Reply :=
  s.admitChecked slot priority (frameArgument first && frameArgument last) fun k =>
    ⟨.range, k, some first.toNat, some last.toNat, priority.toNat, extendOf options⟩

/-- LOCATE (R128 to R130): EXTEND is refused. -/
def State.admitLocate (s : State) (slot : Byte) (frame : Half) (priority options : Byte) : Reply :=
  s.admitChecked slot priority (frameArgument frame && !extendOf options) (frameAdmission .locate frame priority options)

/-- FOCUS (R128 to R130): EXTEND is refused. -/
def State.admitFocus (s : State) (slot : Byte) (frame : Half) (priority options : Byte) : Reply :=
  s.admitChecked slot priority (frameArgument frame && !extendOf options) (frameAdmission .focus frame priority options)

/-- The target of an INDEX: absent for "to end", where the value bytes are ignored (10.3, R187). -/
def indexTarget (target : Half) (options : Byte) : Option Nat := if options.getLsbD 1 then some target.toNat else none

/-- INDEX (R128 to R130): EXTEND is refused. -/
def State.admitIndex (s : State) (slot : Byte) (target : Half) (priority options : Byte) : Reply :=
  s.admitChecked slot priority ((!options.getLsbD 1 || frameArgument target) && !extendOf options) fun k =>
    ⟨.index, k, indexTarget target options, indexTarget target options, priority.toNat, false⟩

/-! ## CANCEL -/

/-- A stop for a cancelled ticket; a deck at rest in READY makes it CANCELLED at once (R138). -/
def State.cancelMotion (s : State) (d : DeckId) (t : TicketNo) : State :=
  if (s.deck d).state = .ready then s.finalize t .cancelled
  else
    let r := s.stop d
    if r.2 then r.1.finalize t .cancelled else r.1

/-- The sweep of a cancelled ticket is aborted (R98); its report settles the ticket where the abort ends at once (R139,
R140). -/
def State.cancelSweep (s : State) (d : DeckId) : State := State.sweepReport? (s.abortSweep d .cancel)

/-- A cancel of an active ticket, by its stage (R138 to R141); cancel pending has been set. -/
def State.cancelActive (s : State) (d : DeckId) (t : TicketNo) : State :=
  match (s.ticket t).state with
  | .moving | .searching => s.cancelMotion d t
  | .indexing =>
    if (s.sched d).track.any (·.running) then s.cancelSweep d
    else (s.modSched d fun c => { c with track := none }).cancelMotion d t
  | .focusing => if (s.sched d).step = some .sweep then s.cancelSweep d else s.finalize t .cancelled
  | .exposing => if (s.sched d).step = some .capture then s else s.finalize t .cancelled
  | .free | .awaitRoll | .queued | .done | .failed | .cancelled => s

/-- A CANCEL of a live ticket taken (R137). -/
def State.takeCancel (s : State) (t : TicketNo) : State :=
  let x := s.ticket t
  if x.state = .awaitRoll ∨ x.state = .queued then s.finalize t .cancelled
  else if x.cancelPending then s
  else
    let s := s.modTicket t fun x => { x with cancelPending := true }
    match s.activeAt t with
    | none => s
    | some d => if (s.sched d).held.isSome then s else s.cancelActive d t

/-- CANCEL (R137). -/
def State.cancelTicket (s : State) (ticket : Byte) : Reply :=
  match ticketOf ticket with
  | none => s.refuse .badArgument
  | some t => if (s.ticket t).state.isLive then ((s.takeCancel t).settle).answer [] else s.refuse .state

/-- QUERY TICKET (R142). -/
def State.queryTicket (s : State) (ticket : Byte) : Reply :=
  match ticketOf ticket with
  | none => s.refuse .badArgument
  | some t => s.answer (ticketData t (s.ticket t))

/-- COLLECT (R143): the answer shows the final ticket, which then becomes FREE. -/
def State.collectTicket (s : State) (ticket : Byte) : Reply :=
  match ticketOf ticket with
  | none => s.refuse .badArgument
  | some t =>
    if (s.ticket t).state.isFinal then (s.setTicket t Ticket.free).answer (ticketData t (s.ticket t))
    else s.refuse .state

end Sys2Proof.Machine
end

