-- ==== Sys2Proof/Machine/Link.lean ====
section
/-! DEFINITION. The request link port: receiving bytes (R169 to R171), placing and taking messages (R172, R173), building the
answer (R174, R175), and the whole request message that a request command stands for (log 1). -/

namespace Sys2Proof.Machine

/-- A request handed to its owner and carried out or refused (R173, step 4). -/
def carryOut (r : Request) (s : State) : Reply :=
  match r with
  | .identify => s.answer identifyData
  | .status => s.answer (statusData s)
  | .events => s.takeEvents
  | .setParameters block => s.setParameters block
  | .readParameters => s.answer (paramsData s.params)
  | .restart => s.restart
  | .declareRoll tag width => s.declareRoll tag width
  | .declareFrames slot first count items => s.declareFrames slot first count items
  | .readRoll slot => s.readRoll slot
  | .readFrames slot frame count => s.readFrames slot frame count
  | .findFrame slot sec group idx => s.findFrame slot sec group idx
  | .annotateFrame slot frame note => s.annotateFrame slot frame note
  | .setFocus slot frame flags setpoint => s.setFocus slot frame flags setpoint
  | .withdrawFrame slot frame => s.withdrawFrame slot frame
  | .restoreFrame slot frame => s.restoreFrame slot frame
  | .retireRoll slot => s.retireRoll slot
  | .nameRoll slot tag => s.nameRoll slot tag
  | .bindDeck deck slot => s.bindDeck deck slot
  | .mount deck => s.mountDeck deck
  | .unmount deck => s.unmountDeck deck
  | .clearDeck deck => s.clearDeck deck
  | .fetch slot frame priority options => s.admitFetch slot frame priority options
  | .range slot first last priority options => s.admitRange slot first last priority options
  | .locate slot frame priority options => s.admitLocate slot frame priority options
  | .focus slot frame priority options => s.admitFocus slot frame priority options
  | .index slot target priority options => s.admitIndex slot target priority options
  | .cancel ticket => s.cancelTicket ticket
  | .queryTicket ticket => s.queryTicket ticket
  | .collect ticket => s.collectTicket ticket
  | .setSweepPlan plan => s.setSweepPlan plan
  | .readSweepPlan => s.answer (planData s.fseq.plan)
  | .readSweepResult => s.answer (resultData s.fseq)

/-- The CRC of a message as received: over the length byte and the body (R173, step 1). -/
def Message.crcOk (m : Message) : Bool := crcOf (m.length :: m.body) == m.crc

/-- The checks of R173 in their order, and the owner's reply. -/
def Message.reply (m : Message) (s : State) : Reply :=
  if m.crcOk then
    match parseBody m.body with
    | .unknown => s.refuse .unknown
    | .badLength => s.refuse .badLength
    | .ok r => carryOut r s
  else s.refuse .badCrc

/-- The answer built on a reply (R174, R175): the summary is taken after the request has taken effect, the link fault flags are
then cleared, and the answer is being sent. -/
def Reply.send (r : Reply) (m : Message) : State :=
  let answer : Answer := ⟨m.body.headD 0, r.result, r.state.summary, r.data⟩
  let s := r.state.clearFlags
  { s with rlp := { s.rlp with processing := some ⟨m, answer⟩ } }

/-- A message taken (R173 to R175). -/
def State.takeMessage (s : State) (m : Message) : State := (m.reply s).send m

/-- A complete message placed (R172). -/
def State.placeMessage (s : State) (m : Message) : State :=
  match s.rlp.processing, s.rlp.waiting with
  | none, none => s.takeMessage m
  | none, some _ => s.setOverrun
  | some _, none => { s with rlp := { s.rlp with waiting := some m } }
  | some _, some _ => s.setOverrun

/-- The body of an answer: echo, result, summary, data (9.5). -/
def Answer.body (a : Answer) : List Byte := a.echo :: a.result.code :: a.summary :: a.data

/-- The answer message on QOUT (R174). -/
def Answer.frame (a : Answer) : List Byte := frameBytes answerLead a.body

/-- The answer being sent, if any. -/
def State.answering (s : State) : Option Answer := s.rlp.processing.map (·.answer)

/-! ## Receiving -/

/-- The receiver set, with its gap timing (9.2): timed from the end of each byte in LENGTH, BODY and CHECK. -/
def State.receive (s : State) (r : Receiver) : State :=
  { s with rlp := { s.rlp with
    receiver := r
    gapTimer := if r = .hunt then none else some (Timer.start Config.gapTime) } }

/-- One byte received on the request link (R169, R171). -/
def requestByte (b : Byte) (s : State) : State :=
  match s.rlp.receiver with
  | .hunt => if b = requestLead then s.receive .length else s.setNoise
  | .length => if b = 0 then (s.receive .hunt).setNoise else s.receive (.body b b.toNat [])
  | .body len left got =>
    if left ≤ 1 then s.receive (.check len (got ++ [b]) none) else s.receive (.body len (left - 1) (got ++ [b]))
  | .check len body none => s.receive (.check len body (some b))
  | .check len body (some high) => (s.receive .hunt).placeMessage ⟨len, body, join16 high b⟩

/-- The idle time runs out inside a message (R170). -/
def requestGap (s : State) : State :=
  match s.rlp.receiver with
  | .hunt => s
  | .length | .body _ _ _ | .check _ _ _ => (s.receive .hunt).setGap

/-- A broken byte (R171): NOISE is set, and a partial message is discarded. -/
def requestBroken (s : State) : State := (s.receive .hunt).setNoise

/-- The last byte of an answer has been sent (R172, R183): after the answer to RESTART the part resets, and else a message that
waits is taken. -/
def answerSent (lr1 lr0 : Bool) (s : State) : State :=
  match s.rlp.processing with
  | none => s
  | some _ =>
    if s.rlp.restartTaken then s.restartPart lr1 lr0
    else
      let s' := { s with rlp := { s.rlp with processing := none, waiting := none } }
      match s.rlp.waiting with
      | some m => s'.takeMessage m
      | none => s'

/-- The bytes of a request message one after another. -/
def feedBytes (bytes : List Byte) (s : State) : State := bytes.foldl (fun s b => requestByte b s) s

/-- A whole request message received (log 1). A request whose operands no message can carry stops the model. -/
def receiveRequest (r : Request) (s : State) : Host.Outcome State Fault Refusal :=
  if r.wf then .next (live s fun s => feedBytes (frameBytes requestLead r.body) s) else .fault .noSuchMessage

end Sys2Proof.Machine
end

