-- ==== Sys2Proof/Machine/HeadEvents.lean ====
section
/-! DEFINITION. Events of the lens drives (R87, R88, R93), the optical path (R107, R112, R120, R121) and the head link (R115 to
R118). -/

namespace Sys2Proof.Machine

/-! ## Lens and sweep -/

/-- A lens arrival reported to the focus sequencer (R88, R93): it opens SETTLE in LENS, and has no effect elsewhere. -/
def State.fseqLens (s : State) (d : DeckId) (pos : Nat) : State :=
  match s.fseq.sweep with
  | some w => if w.deck = d ∧ w.phase = .lens then State.sweepReport? (s.stepArrived w pos) else s
  | none => s

/-- A lens with its arrival, if there is one, reported to the holder (R88). -/
def State.lensMoved (s : State) (d : DeckId) (x : Lens × Option LensTarget) : State :=
  let s := s.setLens d x.1
  match x.2 with
  | none => s
  | some t =>
    match t.holder with
    | .sequencer => (s.fseqLens d t.pos).settle
    | .scheduler => (s.schedLens d t.pos).settle

/-- LENS_STEP (R87, R88). -/
def lensSteps (d : DeckId) (s : State) : State := s.lensMoved d (lensStepped (s.lens d))

/-- LENS_HOMING_LIMIT (R87): the lens is taken as at home. -/
def lensHomingEnds (d : DeckId) (s : State) : State := s.lensMoved d (lensHomeMade (s.lens d))

/-- LENS_ARRIVAL (R88). -/
def lensReaches (d : DeckId) (s : State) : State := s.lensMoved d (lensArrives (s.lens d))

/-- The home stop input at a level (R87). -/
def lensHomeInput (d : DeckId) (made : Bool) (s : State) : State :=
  live (s.setSensors d { s.sensors d with lensHome := made }) fun s =>
    if made then s.lensMoved d (lensHomeMade (s.lens d)) else s

/-- SETTLE_PAUSE_END (R93). -/
def settlePauseEnds (s : State) : State :=
  match s.fseq.sweep with
  | none => s
  | some w =>
    match w.phase with
    | .settle pos (some _) => (State.sweepReport? (s.pauseEnded w pos)).settle
    | .settle _ none | .lens | .order _ | .aborting _ => s

/-! ## Path -/

/-- The limit input of a gate at a level (R107). -/
def pathLimit (g : DeckId) (made : Bool) (s : State) : State :=
  live { s with pins := { s.pins with limits := s.pins.limits.set g made } } fun s =>
    if made then (s.limitMade g).settle else s

/-- PATH_MOVE_TIMEOUT (R107, R112): FAULT, and PATH_FAULT for each deck whose flag was lowered, A before B (log 29). -/
def pathTimesOut (s : State) : State :=
  let r := s.enterFault
  let s := if r.2.a then r.1.pathFaulted .a else r.1
  let s := if r.2.b then s.pathFaulted .b else s
  s.settle

/-- HOLD becomes asserted (R120, R121): a conflict is counted if the deck it applies to is in motion. -/
def holdAsserts (s : State) : State :=
  if s.pins.hold then s
  else
    live { s with pins := { s.pins with hold := true } } fun s =>
      if (s.deck s.opa.path.selected).motion = .moving then
        { s with hlp := { s.hlp with holdConflict := s.hlp.holdConflict + 1 } }
      else s

/-- A deferred motion of a deck begins (R3). -/
def State.endDeferral (s : State) (d : DeckId) : State :=
  if (s.deck d).motion = .deferred then s.motionBegins d else s

/-- HOLD is released (R120): deferred motions begin, and the arbiter arbitrates (R109). -/
def holdReleases (s : State) : State :=
  live { s with pins := { s.pins with hold := false } } fun s =>
    (((s.endDeferral .a).endDeferral .b).arbitrateNow none).settle

/-! ## Orders and reports -/

/-- The order the port holds ends (R117): the port has none, and the end goes to the order's sender. -/
def State.endOrder (s : State) (o : Order) (e : OrderEnd) : State :=
  let s := s.clearOrder
  match o.request.kind with
  | .test => State.sweepReport? (s.testEnded e)
  | .capture => s.captureEnded o.request.deck e

/-- The order in flight while READY is low (R117): it ends at once with CAMERA_ABSENT. -/
def State.endAbsent (s : State) : State :=
  match s.hlp.order with
  | some o => if o.started ∧ s.pins.ready = false then s.endOrder o .absent else s
  | none => s

/-- ORDER_LAST_BYTE_SENT (R115, R118): a waiting order that comes in flight while READY is low ends at once (log 15). -/
def orderByteSent (s : State) : State :=
  let u : State := { s with hlp := s.hlp.lastByteSent s.params.headTimeout }
  if s.pins.ready || s.hlp.order.all (·.started) then u else u.endAbsent.settle

/-- A good report taken (R116, R117): it completes the order whose number it carries, or is stale. -/
def State.takeReport (s : State) (r : Report) : State :=
  match s.hlp.completes r with
  | some o => (s.endOrder o (if r.taken then .taken r.value else .refused)).settle
  | none => { s with hlp := { s.hlp with stale := s.hlp.stale + 1 } }

/-- One byte received on the head link (R116). -/
def reportByte (b : Byte) (s : State) : State :=
  let r := s.hlp.takeByte b
  let s := { s with hlp := r.1 }
  match r.2 with
  | some x => s.takeReport x
  | none => s

/-- The bytes of a whole report with the CRC it carries (10.11). -/
def reportBytes (number outcome : Byte) (value : BitVec 32) (crc : Half) : List Byte :=
  reportLead :: 6 :: number :: outcome :: (bytes32 value ++ bytes16 crc)

/-- HEAD_REPORT: a whole report received byte after byte. -/
def reportReceived (bytes : List Byte) (s : State) : State := bytes.foldl (fun s b => reportByte b s) s

/-- A gap or a broken byte inside a report makes it bad; while hunting neither is counted (R116). -/
def reportCut (s : State) : State :=
  match s.hlp.receiver with
  | .hunt => s
  | .length | .body _ | .check _ _ => { s with hlp := s.hlp.badReport }

/-- HEAD_TIMEOUT (R117): only while the head timeout of the order in flight runs. -/
def headTimesOut (s : State) : State :=
  match s.hlp.order with
  | some o => if o.timeout.isSome then (s.endOrder o .timeout).settle else s
  | none => s

/-- A sweep in LENS or SETTLE is aborted by the fall of READY (R98, R118). -/
def State.readyLost (s : State) : State :=
  match s.fseq.sweep with
  | none => s
  | some w =>
    match w.phase with
    | .lens | .settle _ _ => State.sweepReport? (s.abortSweep w.deck .cameraAbsent)
    | .order _ | .aborting _ => s

/-- READY falls (R118): an order in flight ends at once with CAMERA_ABSENT; a sweep in LENS or SETTLE is aborted. -/
def readyDrops (s : State) : State :=
  live { s with pins := { s.pins with ready := false } } fun s =>
    s.endAbsent.readyLost.settle

/-- READY rises (R118): no other state changes. -/
def readyRaised (s : State) : State := { s with pins := { s.pins with ready := true } }

end Sys2Proof.Machine
end

