-- ==== Sys2Proof/Machine/DeckEvents.lean ====
section
/-! DEFINITION. Events at a deck: the cartridge (R4 to R7), the film's travel and rest (R1, R9, R13, R15 to R18, R20), tension
and drive faults (R21, R22). -/

namespace Sys2Proof.Machine

/-- A deck's sensor levels changed; pins change whether or not the part is held in reset. -/
def State.modSensors (s : State) (d : DeckId) (f : DeckPins → DeckPins) : State := s.setSensors d (f (s.sensors d))

/-! ## Cartridge -/

/-- The kind read from the kind lines (1.2), true for high. -/
def kindOf (kind1 kind2 : Bool) : Kind :=
  match kind1, kind2 with
  | false, false => .mm16
  | true, false => .mm35
  | _, true => .unsupported

/-- Removal from SEATED (R6). -/
def State.removeSeated (s : State) (d : DeckId) : State :=
  (s.modDeck d fun k => { k with state := .empty, kind := none, counter := 0, anchored := false }.recordEvent
    .removed).detect d

/-- Removal with film threaded (R7), handed to the scheduler, the catalogue, the focus sequencer and the arbiter. -/
def State.removeThreaded (s : State) (d : DeckId) : State :=
  let s := s.dropLeader d
  let s := (s.modDeck d fun k => { k.dropMotion with state := .empty, kind := none, counter := 0 }.recordEvent
    .removed).powerOff d
  let s := ((s.dropShares d).deckFailed d .removed).updateRequest d
  let s : State := match s.entryOf d with
    | some k => s.releaseEntry k d true
    | none => s
  (((State.sweepReport? (s.abortSweep d .removal)).closeTenure d).detect d).settle

/-- A seat contact has changed (R4 to R7). -/
def State.seatChanged (s : State) (d : DeckId) (made : Bool) : State :=
  match (s.deck d).state with
  | .empty =>
    let agree := (s.sensors d).seat1 == (s.sensors d).seat2
    (s.modDeck d fun k => { k with seatFaultRecorded := k.seatFaultRecorded && !agree }).detect d
  | .seated => if made then s else s.removeSeated d
  | _ => if made then s else s.removeThreaded d

/-- The level of a seat contact. -/
def DeckPins.contact (p : DeckPins) : Contact → Bool
  | .seat1 => p.seat1
  | .seat2 => p.seat2

/-- A seat contact at a level. -/
def DeckPins.setContact (p : DeckPins) (c : Contact) (made : Bool) : DeckPins :=
  match c with
  | .seat1 => { p with seat1 := made }
  | .seat2 => { p with seat2 := made }

/-- SEAT_CONTACT_CHANGE: a level that stands already is no change. -/
def seatContact (d : DeckId) (c : Contact) (made : Bool) (s : State) : State :=
  if (s.sensors d).contact c = made then s
  else live (s.modSensors d (·.setContact c made)) fun s => s.seatChanged d made

/-- SEATING_TIME_END (R4). -/
def seatingEnds (d : DeckId) (kind1 kind2 : Bool) (s : State) : State :=
  if (s.deck d).state = .empty ∧ (s.deck d).seating.isSome then
    s.modDeck d fun k => { k with
      state := .seated, seating := none, disagreement := none, kind := some (kindOf kind1 kind2) }.recordEvent .seated
  else s

/-- SEAT_FAULT (R5): recorded once until the contacts have agreed. -/
def seatFaults (d : DeckId) (s : State) : State :=
  if (s.deck d).state = .empty ∧ (s.deck d).disagreement.isSome then
    s.modDeck d fun k =>
      if k.seatFaultRecorded then { k with disagreement := none }
      else { k with disagreement := none, seatFaultRecorded := true }.recordEvent .seatFault
  else s

/-! ## Travel -/

/-- The counter after one count of travel (R1): clamped at the bounds, where the deck becomes unanchored. -/
def Deck.count (k : Deck) : Direction → Deck
  | .forward =>
    if k.counter ≥ Config.maxPosition then { k with counter := Config.maxPosition, anchored := false }
    else { k with counter := k.counter + 1 }
  | .backward => if k.counter = 0 then { k with anchored := false } else { k with counter := k.counter - 1 }

/-- The leader is being sought: the forward advance of threading, or IDENTIFYING without a reference mark yet (R9, R10). From the
reference mark to the rest the leader travel no longer counts: R10 does not say whether it ceases there (log 40). -/
def Deck.seeksLeader (k : Deck) : Bool :=
  (k.state == .threading && k.phase == some .advance && k.motion == .moving) || (k.state == .identifying && k.reading.isNone)

/-- Leader travel after one count (R9, R10), within 0..60,000. -/
def Deck.countLeader (k : Deck) (dir : Direction) : Deck :=
  if dir = .forward ∧ k.seeksLeader then { k with leaderTravel := holdUp Config.leaderLimit k.leaderTravel } else k

/-- The mark reader after one count of travel of its powered deck (R29): the travel count rises, or the mark in progress is
abandoned where the direction has changed. -/
def Mark.count (m : Mark) (dir : Direction) : Mark :=
  { m with
    lastDirection := some dir
    inProgress := m.inProgress.bind fun x => if x.direction = dir then some { x with travel := x.travel + 1 } else none }

/-- The extent rises with the film in INDEXING (R40). -/
def State.raiseExtent (s : State) (d : DeckId) (dir : Direction) : State :=
  match s.entryOf d with
  | some k =>
    let e := s.entry k
    if dir = .forward ∧ (s.deck d).state = .indexing ∧ (s.deck d).motion ≠ .deferred ∧ (s.pool d).exhausted = false ∧
        (s.deck d).counter - 1 > e.extent then
      s.setEntry k { e with extent := (s.deck d).counter - 1 }
    else s
  | none => s

/-- The leader travel has reached its limit (R9, R10). -/
def State.leaderLimit (s : State) (d : DeckId) : State :=
  if (s.deck d).seeksLeader ∧ (s.deck d).leaderTravel ≥ Config.leaderLimit then s.halt d .noLeader else s

/-- The direction of the film's travel noted in the motion under way (R12 to R14). -/
def Deck.noteTravel (k : Deck) (dir : Direction) : Deck := if k.motion = .moving then { k with travel := some dir } else k

/-- The crossing set and the extent after a count of travel from `old` (R40 to R42); `marked`: a mark was in progress before the
count. Where none is in progress after it, the extent rises, and the set is brought up to date if the counter has changed or the
count has abandoned the mark. Else a change of the counter is held, and in SEARCHING a window then left is left with no miss
(log 10). -/
def State.crossTravel (s : State) (d : DeckId) (dir : Direction) (old : Nat) (marked : Bool) : State :=
  if (s.mark d).inProgress.isNone then
    let s := s.raiseExtent d dir
    if (s.deck d).counter ≠ old ∨ marked then s.updateCrossing d else s
  else if (s.deck d).counter ≠ old then s.holdCrossing d old ((s.deck d).state == .searching)
  else s

/-- ENCODER_COUNT (R1, R9, R10, R29, R40, R41). The mark reader takes the count before the pool does, so a forward count that
abandons a mark in progress raises the extent itself (log 41). -/
def encoderCounts (d : DeckId) (dir : Direction) (s : State) : State :=
  if (s.deck d).state = .empty then s
  else
    let old := (s.deck d).counter
    let marked := (s.mark d).inProgress.isSome
    let s := s.modDeck d fun k => ((k.count dir).countLeader dir).noteTravel dir
    let s := if s.power d then s.setMark d ((s.mark d).count dir) else s
    (s.crossTravel d dir old marked).leaderLimit d

/-- LEADER_TRAVEL_LIMIT: the counts that remain to the limit, taken together (log 6), and the halt. -/
def leaderTravelEnds (d : DeckId) (s : State) : State :=
  let k := s.deck d
  if k.seeksLeader then
    let rest := Config.leaderLimit - k.leaderTravel
    let s := s.modDeck d fun k => { k with
      counter := min Config.maxPosition (k.counter + rest), leaderTravel := Config.leaderLimit }
    s.halt d .noLeader
  else s

/-! ## Tension and drive -/

/-- The excursion counter after a reading (R21), and the cause of the trip where it trips. -/
def Deck.tension (k : Deck) (b : Band) (reading : Nat) : Deck × Option HaltCause :=
  if b.low ≤ reading ∧ reading ≤ b.high then ({ k with excursion := 0 }, none)
  else
    let n := holdUp Config.excursionHold k.excursion
    ({ k with excursion := n },
      if n ≥ b.limit then some (if reading > b.high then .tensionHigh else .tensionLow) else none)

/-- A tension reading of a powered deck (R21). -/
def tensionReads (d : DeckId) (reading : BitVec 10) (s : State) : State :=
  if s.power d then
    let r := (s.deck d).tension (s.params.bands.get d) reading.toNat
    let s := s.setDeck d r.1
    match r.2 with
    | some cause => s.halt d cause
    | none => s
  else s

/-- The drive fault input at a level (R22). -/
def driveFaults (d : DeckId) (active : Bool) (s : State) : State :=
  live (s.modSensors d fun p => { p with driveFault := active }) fun s =>
    if active && s.power d then s.halt d .driveFault else s

/-! ## Film sensors -/

/-- A firing of the film-end sensor taken by the deck (R16, R18). -/
def State.filmEndFired (s : State) (d : DeckId) : State :=
  match (s.deck d).state with
  | .indexing =>
    let r := ((s.setComplete d).modDeck d fun k => { k with runMetEnd := true }).stop d
    if r.2 then (r.1.runRested d true).settle else r.1
  | .shuttling | .searching => s.halt d .runout
  | .empty | .seated | .threading | .identifying | .ready | .rewinding | .halted => s

/-- FILM_END_FIRES (R18): a sensor that shows the end already does not fire. -/
def filmEndFires (d : DeckId) (s : State) : State :=
  if (s.sensors d).filmEnd then s
  else live (s.modSensors d fun p => { p with filmEnd := true }) fun s => s.filmEndFired d

/-- The film-in-gate sensor shows no film (R9, R20). -/
def State.gateCleared (s : State) (d : DeckId) : State :=
  if (s.deck d).motion = .moving then
    match (s.deck d).state with
    | .threading =>
      if (s.deck d).phase = some .rewind then
        s.modDeck d fun k => { k with phase := some .advance, leaderTravel := 0 }
      else s
    | .rewinding => s.rewindEnd d
    | _ => s
  else s

/-- FILM_IN_GATE_CLEARED (R9, R20). -/
def filmGateCleared (d : DeckId) (s : State) : State :=
  live (s.modSensors d fun p => { p with filmInGate := false }) fun s => s.gateCleared d

/-- FILM_END_CLEARED (R18): the sensor may fire again. -/
def filmEndClears (d : DeckId) (s : State) : State := s.modSensors d fun p => { p with filmEnd := false }

/-- FILM_IN_GATE_SHOWS_FILM (R9). -/
def filmGateShows (d : DeckId) (s : State) : State := s.modSensors d fun p => { p with filmInGate := true }

/-! ## Coming to rest -/

/-- The film of a deck comes to rest (R10, R13, R15 to R17), and the scheduler acts on what the deck reports. -/
def filmRests (d : DeckId) (s : State) : State :=
  let r := s.rest d
  match r.2 with
  | .none => r.1
  | .arrived a => (r.1.rested d (.arrived a)).settle
  | .atRest => (r.1.rested d .atRest).settle
  | .filmEnd => (r.1.rested d .filmEnd).settle
  | .searched low high => (r.1.rested d (.searched low high)).settle
  | .identified x => (r.1.rested d (.identified x)).settle

/-- SEARCH_LOW_END_TURN (R17): the search turns without resting. The command says that leg 1 has come to its low end: it is taken at
any counter, which is not compared with the low end, and encoder counts that reach the low end turn nothing (log 38). -/
def searchTurns (d : DeckId) (s : State) : State :=
  if (s.deck d).state = .searching ∧ (s.deck d).motion = .moving then
    s.modDeck d fun k => { k with search := k.search.map fun l => { l with leg2 := true } }
  else s

end Sys2Proof.Machine
end

