-- ==== Sys2Proof/Machine/MarkEvents.lean ====
section
/-! DEFINITION. Samples and edges of the mark sensor (R28 to R31). -/

namespace Sys2Proof.Machine

/-- An opening edge (R29): a mark in progress with the direction of the last count, or forward, at the counter value. -/
def State.openMark (s : State) (d : DeckId) : State :=
  let m := s.mark d
  s.setMark d { m with inProgress := some ⟨m.lastDirection.getD .forward, 0, (s.deck d).counter⟩ }

/-- A leader mark (R31 to R33), with what the deck makes of the report (R9, R10). -/
def State.leaderMark (s : State) (d : DeckId) (c : WidthClass) (p : Nat) : State :=
  let r := (s.mark d).readLeader c p
  let s := s.setMark d r.1
  match r.2 with
  | .none => s
  | .opening => s.modDeck d Deck.takeOpening
  | .reference pos reading => s.modDeck d fun k => k.takeReference pos reading

/-- Where an ended mark goes (R31). -/
def State.deliverMark (s : State) (d : DeckId) (dir : Direction) (c : WidthClass) (p : Nat) : State × MarkReport :=
  match (s.deck d).state with
  | .threading =>
    if (s.deck d).phase = some .advance ∧ dir = .forward then (s.leaderMark d c p, .none) else (s, .none)
  | .identifying => if dir = .forward then (s.leaderMark d c p, .none) else (s, .none)
  | .ready | .shuttling | .indexing | .searching =>
    match s.entryOf d, c with
    | some k, .mark cls => s.matchMark d k cls p
    | _, _ => (s, .none)
  | .empty | .seated | .rewinding | .halted => (s, .none)

/-- What the scheduler makes of the pool's report (R39, R151). -/
def State.markReported (s : State) (d : DeckId) : MarkReport → State
  | .none => s
  | .newRecord frame pos => (s.recordReported d frame pos).settle
  | .exhausted => (s.poolExhausted d).settle

/-- A closing edge (R29, R30, R31): the mark ends, is counted by its class, and goes where its deck's state sends it; the
crossing set is then brought up to date (R41, log 10). -/
def State.closeMark (s : State) (d : DeckId) : State :=
  match (s.mark d).inProgress with
  | none => s
  | some m =>
    let c := classify s.params m.travel
    let p := match m.direction with
      | .forward => m.opening
      | .backward => (s.deck d).counter
    let s := s.setMark d (Mark.countClass { s.mark d with inProgress := none } c)
    let r := s.deliverMark d m.direction c p
    (r.1.updateCrossing d).markReported d r.2

/-- An edge accepted (R28): the accepted level takes the new value, and a mark opens or closes. -/
def State.acceptLevel (s : State) (d : DeckId) (level : Bool) : State :=
  let s := s.setMark d { s.mark d with accepted := some level, candidate := false }
  if level then s.openMark d else s.closeMark d

/-- One sample (R28): the first after power goes on becomes the accepted level; a second sample of a new level is accepted. -/
def markSampled (d : DeckId) (level : Bool) (s : State) : State :=
  if s.power d then
    let m := s.mark d
    match m.accepted with
    | none => s.setMark d { m with accepted := some level }
    | some old =>
      if level = old then s.setMark d { m with candidate := false }
      else if m.candidate then s.acceptLevel d level
      else s.setMark d { m with candidate := true }
  else s

/-- An accepted edge to a level (log 6): the samples that lead to it, taken together; none where the level stands already. With
the accepted level absent the row still stands for an edge, so an opening edge opens a mark there and a closing edge is taken
as R29 takes one (log 31). -/
def markEdge (d : DeckId) (level : Bool) (s : State) : State :=
  if s.power d ∧ (s.mark d).accepted ≠ some level then s.acceptLevel d level else s

end Sys2Proof.Machine
end

