-- ==== Sys2Proof/Machine/EventCommands.lean ====
section
/-! DEFINITION. The meanings of the 45 event commands. An event acts on the blocks only while the part is not held in reset
(R184); the levels of pins change all the same. -/

namespace Sys2Proof.Machine

/-- REQUEST MESSAGE COMPLETE (R172: the second CRC byte of a request message; the receiver takes it as any byte (log 7)). -/
def execRequestMessageComplete (crcLow : Byte) (s : State) : Host.Outcome State Fault Refusal :=
  .next (live s (requestByte crcLow))

/-- NOISE BYTE (R169: a byte received; in HUNT any byte but the lead byte sets NOISE (log 7)). -/
def execNoiseByte (byte : Byte) (s : State) : Host.Outcome State Fault Refusal :=
  .next (live s (requestByte byte))

/-- ZERO LENGTH BYTE (R171: a byte 0 received; in LENGTH it is no length (log 7)). -/
def execZeroLengthByte (s : State) : Host.Outcome State Fault Refusal :=
  .next (live s (requestByte 0))

/-- GAP (R170). -/
def execGap (s : State) : Host.Outcome State Fault Refusal :=
  .next (live s requestGap)

/-- BROKEN BYTE (R171). -/
def execBrokenByte (s : State) : Host.Outcome State Fault Refusal :=
  .next (live s requestBroken)

/-- ANSWER SENT (R172, R183). -/
def execAnswerSent (lr1 : Bool) (lr0 : Bool) (s : State) : Host.Outcome State Fault Refusal :=
  .next (live s (answerSent lr1 lr0))

/-- RESETN ASSERTED (R184, R174: the part is held in reset; a partial order or answer being sent is cut short). -/
def execResetnAsserted (s : State) : Host.Outcome State Fault Refusal :=
  .next { s.enterReset with pins := { s.pins with resetAsserted := true } }

/-- RESETN RELEASED (R184, R168: the part leaves reset; a line that is released already is no event). -/
def execResetnReleased (lr1 : Bool) (lr0 : Bool) (s : State) : Host.Outcome State Fault Refusal :=
  .next (if s.pins.resetAsserted then
    ({ s with pins := { s.pins with resetAsserted := false } }).leaveReset lr1 lr0 else s)

/-- SEAT CONTACT CHANGE (R4 to R7). -/
def execSeatContactChange (deck : DeckId) (contact : Contact) (made : Bool) (s : State) : Host.Outcome State Fault Refusal :=
  .next (seatContact deck contact made s)

/-- SEATING TIME END (R4). -/
def execSeatingTimeEnd (deck : DeckId) (kind1 : Bool) (kind2 : Bool) (s : State) : Host.Outcome State Fault Refusal :=
  .next (live s (seatingEnds deck kind1 kind2))

/-- SEAT FAULT (R5). -/
def execSeatFault (deck : DeckId) (s : State) : Host.Outcome State Fault Refusal :=
  .next (live s (seatFaults deck))

/-- ENCODER COUNT (R1, R9, R10, R29, R40, R41, R42). -/
def execEncoderCount (deck : DeckId) (direction : Direction) (s : State) : Host.Outcome State Fault Refusal :=
  .next (live s (encoderCounts deck direction))

/-- LEADER TRAVEL LIMIT (R9, R10). -/
def execLeaderTravelLimit (deck : DeckId) (s : State) : Host.Outcome State Fault Refusal :=
  .next (live s (leaderTravelEnds deck))

/-- MARK OPENING EDGE (R28, R29). -/
def execMarkOpeningEdge (deck : DeckId) (s : State) : Host.Outcome State Fault Refusal :=
  .next (live s (markEdge deck true))

/-- MARK CLOSING EDGE (R28 to R31). -/
def execMarkClosingEdge (deck : DeckId) (s : State) : Host.Outcome State Fault Refusal :=
  .next (live s (markEdge deck false))

/-- TENSION READING (R21). -/
def execTensionReading (deck : DeckId) (reading : BitVec 10) (s : State) : Host.Outcome State Fault Refusal :=
  .next (live s (tensionReads deck reading))

/-- TENSION TRIP (R21: a reading, which trips the deck where it brings the counter to its limit (log 7)). -/
def execTensionTrip (deck : DeckId) (reading : BitVec 10) (s : State) : Host.Outcome State Fault Refusal :=
  .next (live s (tensionReads deck reading))

/-- DRIVE FAULT (R22). -/
def execDriveFault (deck : DeckId) (active : Bool) (s : State) : Host.Outcome State Fault Refusal :=
  .next (driveFaults deck active s)

/-- FILM END FIRES (R18, R16). -/
def execFilmEndFires (deck : DeckId) (s : State) : Host.Outcome State Fault Refusal :=
  .next (filmEndFires deck s)

/-- FILM IN GATE CLEARED (R20, R9). -/
def execFilmInGateCleared (deck : DeckId) (s : State) : Host.Outcome State Fault Refusal :=
  .next (filmGateCleared deck s)

/-- ARRIVAL (R13: the film comes to rest in SHUTTLING). -/
def execArrival (deck : DeckId) (s : State) : Host.Outcome State Fault Refusal :=
  .next (live s fun s => if (s.deck deck).state = .shuttling then filmRests deck s else s)

/-- FILM AT REST (R15, and R10, R13, R16, R17 by the deck's state (log 7)). -/
def execFilmAtRest (deck : DeckId) (s : State) : Host.Outcome State Fault Refusal :=
  .next (live s (filmRests deck))

/-- SEARCH LOW END TURN (R17). -/
def execSearchLowEndTurn (deck : DeckId) (s : State) : Host.Outcome State Fault Refusal :=
  .next (live s (searchTurns deck))

/-- SEARCH COMPLETION (R17: the film comes to rest in SEARCHING). -/
def execSearchCompletion (deck : DeckId) (s : State) : Host.Outcome State Fault Refusal :=
  .next (live s fun s => if (s.deck deck).state = .searching then filmRests deck s else s)

/-- LENS HOME REACHED (R87). -/
def execLensHomeReached (deck : DeckId) (made : Bool) (s : State) : Host.Outcome State Fault Refusal :=
  .next (lensHomeInput deck made s)

/-- LENS HOMING LIMIT (R87). -/
def execLensHomingLimit (deck : DeckId) (s : State) : Host.Outcome State Fault Refusal :=
  .next (live s (lensHomingEnds deck))

/-- LENS ARRIVAL (R88). -/
def execLensArrival (deck : DeckId) (s : State) : Host.Outcome State Fault Refusal :=
  .next (live s (lensReaches deck))

/-- SETTLE PAUSE END (R93). -/
def execSettlePauseEnd (s : State) : Host.Outcome State Fault Refusal :=
  .next (live s settlePauseEnds)

/-- PATH LIMIT REACHED (R107). -/
def execPathLimitReached (gate : DeckId) (made : Bool) (s : State) : Host.Outcome State Fault Refusal :=
  .next (pathLimit gate made s)

/-- PATH MOVE TIMEOUT (R107, R112). -/
def execPathMoveTimeout (s : State) : Host.Outcome State Fault Refusal :=
  .next (live s pathTimesOut)

/-- ORDER LAST BYTE SENT (R115, R118). -/
def execOrderLastByteSent (s : State) : Host.Outcome State Fault Refusal :=
  .next (live s orderByteSent)

/-- HEAD REPORT (R116, R117, R190). -/
def execHeadReport (number : Byte) (outcome : Byte) (value : BitVec 32) (crc : Half) (s : State) : Host.Outcome State Fault Refusal :=
  .next (live s (reportReceived (reportBytes number outcome value crc)))

/-- REPORT GAP (R116). -/
def execReportGap (s : State) : Host.Outcome State Fault Refusal :=
  .next (live s reportCut)

/-- HEAD BROKEN BYTE (R116). -/
def execHeadBrokenByte (s : State) : Host.Outcome State Fault Refusal :=
  .next (live s reportCut)

/-- HEAD TIMEOUT (R117). -/
def execHeadTimeout (s : State) : Host.Outcome State Fault Refusal :=
  .next (live s headTimesOut)

/-- READY FALLS (R118). -/
def execReadyFalls (s : State) : Host.Outcome State Fault Refusal :=
  .next (readyDrops s)

/-- READY RISES (R118). -/
def execReadyRises (s : State) : Host.Outcome State Fault Refusal :=
  .next (readyRaised s)

/-- HOLD ASSERTED (R120, R121). -/
def execHoldAsserted (s : State) : Host.Outcome State Fault Refusal :=
  .next (holdAsserts s)

/-- HOLD RELEASED (R120). -/
def execHoldReleased (s : State) : Host.Outcome State Fault Refusal :=
  .next (holdReleases s)

/-- MARK SENSOR SAMPLE (R28). -/
def execMarkSensorSample (deck : DeckId) (mark : Bool) (s : State) : Host.Outcome State Fault Refusal :=
  .next (live s (markSampled deck mark))

/-- LENS STEP (R87, R88). -/
def execLensStep (deck : DeckId) (s : State) : Host.Outcome State Fault Refusal :=
  .next (live s (lensSteps deck))

/-- REQUEST BYTE RECEIVED (R169). -/
def execRequestByteReceived (byte : Byte) (s : State) : Host.Outcome State Fault Refusal :=
  .next (live s (requestByte byte))

/-- REPORT BYTE RECEIVED (R116). -/
def execReportByteReceived (byte : Byte) (s : State) : Host.Outcome State Fault Refusal :=
  .next (live s (reportByte byte))

/-- FILM END CLEARED (R18). -/
def execFilmEndCleared (deck : DeckId) (s : State) : Host.Outcome State Fault Refusal :=
  .next (filmEndClears deck s)

/-- FILM IN GATE SHOWS FILM (R9). -/
def execFilmInGateShowsFilm (deck : DeckId) (s : State) : Host.Outcome State Fault Refusal :=
  .next (filmGateShows deck s)

end Sys2Proof.Machine
end

