-- ==== Sys2Proof/Machine/RequestCommands.lean ====
section
/-! DEFINITION. The meanings of the 32 request commands: each is one whole request message received (log 1), which the link
port places, takes and answers (R169 to R175) and whose effect is the owner's (`carryOut`). -/

namespace Sys2Proof.Machine

/-- IDENTIFY (R177). -/
def execIdentify (s : State) : Host.Outcome State Fault Refusal :=
  receiveRequest .identify s

/-- STATUS (R178). -/
def execStatus (s : State) : Host.Outcome State Fault Refusal :=
  receiveRequest .status s

/-- EVENTS (R179, R26). -/
def execEvents (s : State) : Host.Outcome State Fault Refusal :=
  receiveRequest .events s

/-- SET PARAMETERS (R180, R181). -/
def execSetParameters (block : ParamWire) (s : State) : Host.Outcome State Fault Refusal :=
  receiveRequest (.setParameters block) s

/-- READ PARAMETERS (R182). -/
def execReadParameters (s : State) : Host.Outcome State Fault Refusal :=
  receiveRequest .readParameters s

/-- RESTART (R183). -/
def execRestart (s : State) : Host.Outcome State Fault Refusal :=
  receiveRequest .restart s

/-- DECLARE ROLL (R58). -/
def execDeclareRoll (tag : BitVec 24) (width : Byte) (s : State) : Host.Outcome State Fault Refusal :=
  receiveRequest (.declareRoll tag width) s

/-- DECLARE FRAMES (R76, R77). -/
def execDeclareFrames (slot : Byte) (first : Half) (items : List DeclItem) (s : State) : Host.Outcome State Fault Refusal :=
  receiveRequest (.declareFrames slot first (num8 items.length) items) s

/-- READ ROLL (R59). -/
def execReadRoll (slot : Byte) (s : State) : Host.Outcome State Fault Refusal :=
  receiveRequest (.readRoll slot) s

/-- READ FRAMES (R78). -/
def execReadFrames (slot : Byte) (frame : Half) (count : Byte) (s : State) : Host.Outcome State Fault Refusal :=
  receiveRequest (.readFrames slot frame count) s

/-- FIND FRAME (R79). -/
def execFindFrame (slot : Byte) (sec : Half) (group : Half) (idx : Half) (s : State) : Host.Outcome State Fault Refusal :=
  receiveRequest (.findFrame slot sec group idx) s

/-- ANNOTATE FRAME (R80). -/
def execAnnotateFrame (slot : Byte) (frame : Half) (note : Half) (s : State) : Host.Outcome State Fault Refusal :=
  receiveRequest (.annotateFrame slot frame note) s

/-- SET FOCUS (R72). -/
def execSetFocus (slot : Byte) (frame : Half) (flags : Byte) (setpoint : Half) (s : State) : Host.Outcome State Fault Refusal :=
  receiveRequest (.setFocus slot frame flags setpoint) s

/-- WITHDRAW FRAME (R81). -/
def execWithdrawFrame (slot : Byte) (frame : Half) (s : State) : Host.Outcome State Fault Refusal :=
  receiveRequest (.withdrawFrame slot frame) s

/-- RESTORE FRAME (R82). -/
def execRestoreFrame (slot : Byte) (frame : Half) (s : State) : Host.Outcome State Fault Refusal :=
  receiveRequest (.restoreFrame slot frame) s

/-- RETIRE ROLL (R62). -/
def execRetireRoll (slot : Byte) (s : State) : Host.Outcome State Fault Refusal :=
  receiveRequest (.retireRoll slot) s

/-- NAME ROLL (R60). -/
def execNameRoll (slot : Byte) (tag : BitVec 24) (s : State) : Host.Outcome State Fault Refusal :=
  receiveRequest (.nameRoll slot tag) s

/-- BIND DECK (R61). -/
def execBindDeck (deck : Byte) (slot : Byte) (s : State) : Host.Outcome State Fault Refusal :=
  receiveRequest (.bindDeck deck slot) s

/-- MOUNT (R8). -/
def execMount (deck : Byte) (s : State) : Host.Outcome State Fault Refusal :=
  receiveRequest (.mount deck) s

/-- UNMOUNT (R19). -/
def execUnmount (deck : Byte) (s : State) : Host.Outcome State Fault Refusal :=
  receiveRequest (.unmount deck) s

/-- CLEAR DECK (R24). -/
def execClearDeck (deck : Byte) (s : State) : Host.Outcome State Fault Refusal :=
  receiveRequest (.clearDeck deck) s

/-- FETCH (R128 to R130). -/
def execFetch (slot : Byte) (frame : Half) (priority : Byte) (options : Byte) (s : State) : Host.Outcome State Fault Refusal :=
  receiveRequest (.fetch slot frame priority options) s

/-- RANGE (R128 to R130). -/
def execRange (slot : Byte) (first : Half) (last : Half) (priority : Byte) (options : Byte) (s : State) : Host.Outcome State Fault Refusal :=
  receiveRequest (.range slot first last priority options) s

/-- LOCATE (R128 to R130). -/
def execLocate (slot : Byte) (frame : Half) (priority : Byte) (options : Byte) (s : State) : Host.Outcome State Fault Refusal :=
  receiveRequest (.locate slot frame priority options) s

/-- FOCUS (R128 to R130). -/
def execFocus (slot : Byte) (frame : Half) (priority : Byte) (options : Byte) (s : State) : Host.Outcome State Fault Refusal :=
  receiveRequest (.focus slot frame priority options) s

/-- INDEX (R128 to R130). -/
def execIndex (slot : Byte) (target : Half) (priority : Byte) (options : Byte) (s : State) : Host.Outcome State Fault Refusal :=
  receiveRequest (.index slot target priority options) s

/-- CANCEL (R137 to R141). -/
def execCancel (ticket : Byte) (s : State) : Host.Outcome State Fault Refusal :=
  receiveRequest (.cancel ticket) s

/-- QUERY TICKET (R142). -/
def execQueryTicket (ticket : Byte) (s : State) : Host.Outcome State Fault Refusal :=
  receiveRequest (.queryTicket ticket) s

/-- COLLECT (R143). -/
def execCollect (ticket : Byte) (s : State) : Host.Outcome State Fault Refusal :=
  receiveRequest (.collect ticket) s

/-- SET SWEEP PLAN (R103). -/
def execSetSweepPlan (plan : PlanWire) (s : State) : Host.Outcome State Fault Refusal :=
  receiveRequest (.setSweepPlan plan) s

/-- READ SWEEP PLAN (R104). -/
def execReadSweepPlan (s : State) : Host.Outcome State Fault Refusal :=
  receiveRequest .readSweepPlan s

/-- READ SWEEP RESULT (R104). -/
def execReadSweepResult (s : State) : Host.Outcome State Fault Refusal :=
  receiveRequest .readSweepResult s

end Sys2Proof.Machine
end

