-- ==== Sys2Proof/Machine/Dispatch.lean ====
section
/-! DEFINITION. The meaning of each command: one arm per constructor. -/

namespace Sys2Proof.Machine

def exec (i : Instr) (s : State) : Host.Outcome State Fault Refusal :=
  match i with
  | .identify => Sys2Proof.Machine.execIdentify s
  | .status => Sys2Proof.Machine.execStatus s
  | .events => Sys2Proof.Machine.execEvents s
  | .setParameters block => Sys2Proof.Machine.execSetParameters block s
  | .readParameters => Sys2Proof.Machine.execReadParameters s
  | .restart => Sys2Proof.Machine.execRestart s
  | .declareRoll tag width => Sys2Proof.Machine.execDeclareRoll tag width s
  | .declareFrames slot first items => Sys2Proof.Machine.execDeclareFrames slot first items s
  | .readRoll slot => Sys2Proof.Machine.execReadRoll slot s
  | .readFrames slot frame count => Sys2Proof.Machine.execReadFrames slot frame count s
  | .findFrame slot sec group idx => Sys2Proof.Machine.execFindFrame slot sec group idx s
  | .annotateFrame slot frame note => Sys2Proof.Machine.execAnnotateFrame slot frame note s
  | .setFocus slot frame flags setpoint => Sys2Proof.Machine.execSetFocus slot frame flags setpoint s
  | .withdrawFrame slot frame => Sys2Proof.Machine.execWithdrawFrame slot frame s
  | .restoreFrame slot frame => Sys2Proof.Machine.execRestoreFrame slot frame s
  | .retireRoll slot => Sys2Proof.Machine.execRetireRoll slot s
  | .nameRoll slot tag => Sys2Proof.Machine.execNameRoll slot tag s
  | .bindDeck deck slot => Sys2Proof.Machine.execBindDeck deck slot s
  | .mount deck => Sys2Proof.Machine.execMount deck s
  | .unmount deck => Sys2Proof.Machine.execUnmount deck s
  | .clearDeck deck => Sys2Proof.Machine.execClearDeck deck s
  | .fetch slot frame priority options => Sys2Proof.Machine.execFetch slot frame priority options s
  | .range slot first last priority options => Sys2Proof.Machine.execRange slot first last priority options s
  | .locate slot frame priority options => Sys2Proof.Machine.execLocate slot frame priority options s
  | .focus slot frame priority options => Sys2Proof.Machine.execFocus slot frame priority options s
  | .index slot target priority options => Sys2Proof.Machine.execIndex slot target priority options s
  | .cancel ticket => Sys2Proof.Machine.execCancel ticket s
  | .queryTicket ticket => Sys2Proof.Machine.execQueryTicket ticket s
  | .collect ticket => Sys2Proof.Machine.execCollect ticket s
  | .setSweepPlan plan => Sys2Proof.Machine.execSetSweepPlan plan s
  | .readSweepPlan => Sys2Proof.Machine.execReadSweepPlan s
  | .readSweepResult => Sys2Proof.Machine.execReadSweepResult s
  | .requestMessageComplete crcLow => Sys2Proof.Machine.execRequestMessageComplete crcLow s
  | .noiseByte byte => Sys2Proof.Machine.execNoiseByte byte s
  | .zeroLengthByte => Sys2Proof.Machine.execZeroLengthByte s
  | .gap => Sys2Proof.Machine.execGap s
  | .brokenByte => Sys2Proof.Machine.execBrokenByte s
  | .answerSent lr1 lr0 => Sys2Proof.Machine.execAnswerSent lr1 lr0 s
  | .resetnAsserted => Sys2Proof.Machine.execResetnAsserted s
  | .resetnReleased lr1 lr0 => Sys2Proof.Machine.execResetnReleased lr1 lr0 s
  | .seatContactChange deck contact made => Sys2Proof.Machine.execSeatContactChange deck contact made s
  | .seatingTimeEnd deck kind1 kind2 => Sys2Proof.Machine.execSeatingTimeEnd deck kind1 kind2 s
  | .seatFault deck => Sys2Proof.Machine.execSeatFault deck s
  | .encoderCount deck direction => Sys2Proof.Machine.execEncoderCount deck direction s
  | .leaderTravelLimit deck => Sys2Proof.Machine.execLeaderTravelLimit deck s
  | .markOpeningEdge deck => Sys2Proof.Machine.execMarkOpeningEdge deck s
  | .markClosingEdge deck => Sys2Proof.Machine.execMarkClosingEdge deck s
  | .tensionReading deck reading => Sys2Proof.Machine.execTensionReading deck reading s
  | .tensionTrip deck reading => Sys2Proof.Machine.execTensionTrip deck reading s
  | .driveFault deck active => Sys2Proof.Machine.execDriveFault deck active s
  | .filmEndFires deck => Sys2Proof.Machine.execFilmEndFires deck s
  | .filmInGateCleared deck => Sys2Proof.Machine.execFilmInGateCleared deck s
  | .arrival deck => Sys2Proof.Machine.execArrival deck s
  | .filmAtRest deck => Sys2Proof.Machine.execFilmAtRest deck s
  | .searchLowEndTurn deck => Sys2Proof.Machine.execSearchLowEndTurn deck s
  | .searchCompletion deck => Sys2Proof.Machine.execSearchCompletion deck s
  | .lensHomeReached deck made => Sys2Proof.Machine.execLensHomeReached deck made s
  | .lensHomingLimit deck => Sys2Proof.Machine.execLensHomingLimit deck s
  | .lensArrival deck => Sys2Proof.Machine.execLensArrival deck s
  | .settlePauseEnd => Sys2Proof.Machine.execSettlePauseEnd s
  | .pathLimitReached gate made => Sys2Proof.Machine.execPathLimitReached gate made s
  | .pathMoveTimeout => Sys2Proof.Machine.execPathMoveTimeout s
  | .orderLastByteSent => Sys2Proof.Machine.execOrderLastByteSent s
  | .headReport number outcome value crc => Sys2Proof.Machine.execHeadReport number outcome value crc s
  | .reportGap => Sys2Proof.Machine.execReportGap s
  | .headBrokenByte => Sys2Proof.Machine.execHeadBrokenByte s
  | .headTimeout => Sys2Proof.Machine.execHeadTimeout s
  | .readyFalls => Sys2Proof.Machine.execReadyFalls s
  | .readyRises => Sys2Proof.Machine.execReadyRises s
  | .holdAsserted => Sys2Proof.Machine.execHoldAsserted s
  | .holdReleased => Sys2Proof.Machine.execHoldReleased s
  | .markSensorSample deck mark => Sys2Proof.Machine.execMarkSensorSample deck mark s
  | .lensStep deck => Sys2Proof.Machine.execLensStep deck s
  | .requestByteReceived byte => Sys2Proof.Machine.execRequestByteReceived byte s
  | .reportByteReceived byte => Sys2Proof.Machine.execReportByteReceived byte s
  | .filmEndCleared deck => Sys2Proof.Machine.execFilmEndCleared deck s
  | .filmInGateShowsFilm deck => Sys2Proof.Machine.execFilmInGateShowsFilm deck s

end Sys2Proof.Machine
end

