-- ==== Sys2Proof/Safety.lean ====
section
/-! DEFINITION. Laws of the part over its states, as decidable checks: what the rules say every state keeps. -/

namespace Sys2Proof.Machine

/-- A request message waits only while another is processed (R172). -/
def waitingLaw (s : State) : Bool := s.rlp.waiting.isNone || s.rlp.processing.isSome

/-- A tenure holder exists only while the path is set to its gate (R106). -/
def holderLaw (s : State) : Bool :=
  match s.opa.holder with
  | none => true
  | some d => s.opa.path == .atGate d

/-- A lens is UNHOMED while its deck's power is off (R2, R89). -/
def lensLaw (s : State) : Bool := (s.power .a || s.lens .a == .unhomed) && (s.power .b || s.lens .b == .unhomed)

/-- A deck is anchored only while its power is on (R1, R2). -/
def anchorLaw (s : State) : Bool :=
  (s.power .a || !(s.deck .a).anchored) && (s.power .b || !(s.deck .b).anchored)

/-- The free frame records and the frame counts of all entries make 16,384 (R64), and a FREE entry has no frames (R57). -/
def recordLaw (s : State) : Bool :=
  s.freeCount + (allSlots.map fun k => (s.entry k).frameCount).sum == Config.poolRecords &&
    allSlots.all fun k => (s.entry k).state != .free || (s.entry k).frameCount == 0

/-- The records of each entry carry the frame numbers 1 to its frame count, none missing and none repeated (R65). -/
def numberLaw (s : State) : Bool :=
  allSlots.all fun k => (s.chain k).map (·.frame) == List.range' 1 (s.entry k).frameCount

/-- The part is not held in reset (R184). -/
def running (s : State) : Bool := !s.pins.resetAsserted

/-- The request link port is out of reset and waits for a message: it hunts, with none processed and none waiting (R169, R172). -/
def linkIdle (s : State) : Bool :=
  running s && s.rlp.receiver == .hunt && s.rlp.gapTimer.isNone && s.rlp.processing.isNone && s.rlp.waiting.isNone

/-- The deck scheduler has nothing to do: no deck has an active ticket, a track sweep or a request, and no ticket is QUEUED. -/
def schedIdle (s : State) : Bool :=
  s.scheds == ⟨Sched.reset, Sched.reset⟩ && s.opa.requests == ⟨false, false⟩ &&
    allTickets.all fun t => (s.ticket t).state != .queued

/-- The message of a request (10.1, 10.3). -/
def Request.message (r : Request) : Message := ⟨lengthByte r.body, r.body, bodyCrc r.body⟩

/-- The state in which the answer to a request is being sent, where its effect left the part in `t` (R174, R175): the answer
carries the request code, the result, the summary of `t` and the data, and the link fault flags are cleared. -/
def answered (t : State) (r : Request) (c : ResultCode) (data : List Byte) : State :=
  { t with rlp := { t.rlp with
    processing := some ⟨r.message, ⟨r.code, c, t.summary, data⟩⟩
    flags := ⟨false, false, false⟩ } }

/-! ## States that the statements name -/

/-- No block works for deck `d`: the scheduler has nothing to do, the deck holds no tenure, and no sweep of it is in progress. -/
def deckUnused (s : State) (d : DeckId) : Bool :=
  schedIdle s && s.opa.holder != some d && s.fseq.sweep.all fun w => w.deck != d

/-- No block works for deck `d`, and no ticket is QUEUED but for the deck's own entry: the release of that entry leaves the
scheduler nothing to do. -/
def deckLeft (s : State) (d : DeckId) : Bool :=
  s.scheds == ⟨Sched.reset, Sched.reset⟩ && s.opa.requests == ⟨false, false⟩ && s.opa.holder != some d &&
    (s.fseq.sweep.all fun w => w.deck != d) &&
    allTickets.all fun t => (s.ticket t).state != .queued || ((s.ticket t).slot.isSome && (s.ticket t).slot == s.entryOf d)

/-- Deck `d` at rest in READY after a motion (R13, R15 to R17, R39). -/
def readyAs (s : State) (d : DeckId) : State :=
  { s with
    decks := s.decks.set d { s.deck d with
      state := .ready, target := none, stopping := false, search := none, motion := .still, runMetEnd := false
      travel := none }
    poolDecks := s.poolDecks.set d { s.pool d with runExtent := none, exhausted := false } }

/-- Deck `d` after a stop in SHUTTLING, INDEXING or SEARCHING (R15, R43, R44; log 43): READY at once where its motion is deferred, else
coming to rest. -/
def stoppedAs (s : State) (d : DeckId) : State :=
  let u : State := { s with
    poolDecks := s.poolDecks.set d { s.pool d with watched := none, searchRecord := none }
    marks := s.marks.set d { s.mark d with searchReference := none, searchCandidate := none } }
  if (s.deck d).motion = .deferred then readyAs u d
  else { u with decks := s.decks.set d { s.deck d with target := none, search := none, stopping := true } }

/-- A stop of deck `d` where its state takes one (R15). -/
def stoppedWhereMoving (s : State) (d : DeckId) : State :=
  match (s.deck d).state with
  | .shuttling | .indexing | .searching => stoppedAs s d
  | _ => s

/-- The window of record `r` contains position `c` (R41). -/
def inWindow (s : State) (r : FrameRecord) (c : Nat) : Bool :=
  decide (c ≤ r.position + s.params.window ∧ r.position ≤ c + s.params.window)

/-- A record with one miss more (R42, R45). -/
def missedAs (r : FrameRecord) : FrameRecord :=
  { r with missCount := min 3 (r.missCount + 1), condition := if 2 ≤ r.missCount then .damaged else r.condition }

/-- The chain of entry `n` after a slip correction by the record of `frame` that takes the counter of deck `d` to `c` (R36, R41,
R42, log 10): that record's misses cleared; and, where the counter changes and no mark is in progress, a miss more for each record
that travel had carried out of its window before, unmatched, while a mark was passing. -/
def correctedChain (s : State) (d : DeckId) (n : Slot) (frame c : Nat) : List FrameRecord :=
  let k := s.deck d
  let left (r : FrameRecord) : Bool :=
    !inWindow s r c && !inWindow s r k.counter &&
      (((s.pool d).crossing.find? fun x => x.frame == r.frame).any fun x => !x.matched && !x.excused)
  (s.chain n).map fun q =>
    let q' := if q.frame = frame then { q with missCount := 0 } else q
    if c ≠ k.counter ∧ (s.mark d).inProgress = none ∧ k.state.matching = true ∧ k.state ≠ .searching ∧ left q = true then
      missedAs q'
    else q'

/-- The crossing set of deck `d`, whose entry is `n`, brought up to date at the counter as it stands (R41, R42): records whose window
contains the counter are its members, a member's flag kept and a new one's clear; one that leaves unmatched, neither excused nor
in SEARCHING, has a miss more. -/
def crossedAs (s : State) (d : DeckId) (n : Slot) : State :=
  let near (r : FrameRecord) : Bool := inWindow s r (s.deck d).counter
  let member (r : FrameRecord) : Option Crossing := (s.pool d).crossing.find? fun x => x.frame == r.frame
  let missed (r : FrameRecord) : Bool :=
    !near r && (member r).any (fun x => !x.matched && !x.excused) && (s.deck d).state != .searching
  { s with
    chains := s.chains.set n ((s.chain n).map fun r => if missed r then missedAs r else r)
    poolDecks := s.poolDecks.set d { s.pool d with
      crossing := (s.chain n).filterMap fun r => if near r then some ⟨r.frame, (member r).any (·.matched), false⟩ else none } }

/-- The record of `frame` marked as matched on its crossing at deck `d`, which joins the set where it is no member (log 11), and
the seen flag set if it is the watched record (R34, R43). -/
def matchNoted (s : State) (d : DeckId) (frame : Nat) : State :=
  let q := s.pool d
  { s with poolDecks := s.poolDecks.set d { q with
      crossing :=
        if q.crossing.any (fun x => x.frame == frame) then
          q.crossing.map fun x => if x.frame = frame then { x with matched := true } else x
        else q.crossing ++ [⟨frame, true, false⟩]
      watched := q.watched.map fun w => if w.frame = frame then { w with seen := true } else w } }

/-- Deck `d`, in READY with no film end, on an index run that begins or is deferred by HOLD (R16, R3, R39). -/
def runBegun (s : State) (d : DeckId) : State :=
  let held : Bool := s.pins.hold && s.opa.path.selected == d
  { s with
    decks := s.decks.set d { s.deck d with
      state := .indexing, stopping := false, runMetEnd := false, motion := if held then .deferred else .moving }
    poolDecks := s.poolDecks.set d { s.pool d with
      runExtent := (s.entryOf d).map fun n => (s.entry n).extent, exhausted := false } }

/-- Deck `d` halted for a cause where no block works for it (R23, R2, R28, R32, R41, R43, R44, R89): the deck's own items, its
lens, its mark reader and its share of the pool, and nothing else. -/
def haltedAs (s : State) (d : DeckId) (cause : HaltCause) : State :=
  let k := s.deck d
  let m := s.mark d
  let reading := k.state == .threading || k.state == .identifying
  { s with
    decks := s.decks.set d { k with
      state := .halted, anchored := false, target := none, stopping := false, purpose := none, identification := none
      search := none, events := { k.events with halted := true }, lastHalt := some cause, motion := .still, phase := none
      reading := none, runMetEnd := false, travel := none }
    lenses := s.lenses.set d .unhomed
    marks := s.marks.set d { m with
      accepted := none, candidate := false, inProgress := none, lastDirection := none, searchReference := none
      searchCandidate := none
      leader := if reading then .idle else m.leader
      digits := if reading then [] else m.digits
      overlength := if reading then false else m.overlength
      faultSeen := if reading then false else m.faultSeen }
    poolDecks := s.poolDecks.set d ⟨[], none, none, none, none, false⟩ }

/-- Deck `d` at the end of an UNMOUNT rewind or of a CLEAR DECK without film (R20, R24, R53): SEATED with power off and
UNMOUNTED recorded; its tagged entry, if it has one, LISTED, with the entry's QUEUED tickets waiting for the roll again. -/
def unmountedAs (s : State) (d : DeckId) : State :=
  let k := s.deck d
  let s := { s with decks := s.decks.set d { k with state := .seated, events := { k.events with unmounted := true } } }
  match s.entryOf d with
  | none => s
  | some n =>
    { s with
      poolDecks := s.poolDecks.set d { s.pool d with crossing := [], watched := none, found := none, searchRecord := none }
      entries := s.entries.set n { s.entry n with state := .listed, deck := none }
      tickets := s.tickets.map fun t =>
        if t.slot = some n ∧ t.state = .queued then { t with state := .awaitRoll } else t }

/-- The entry of deck `d`, if it has one, is tagged. -/
def entryTagged (s : State) (d : DeckId) : Bool := (s.entryOf d).all fun n => (s.entry n).tag.isSome

/-- The lowest-numbered FREE ticket is `t` (R130). -/
def lowestFreeTicket (s : State) (t : TicketNo) : Bool :=
  (s.ticket t).state == .free && allTickets.all fun u => !(decide (u < t) && (s.ticket u).state == .free)

/-- The lowest-numbered FREE entry is `k` (R50). -/
def lowestFreeEntry (s : State) (k : Slot) : Bool :=
  (s.entry k).state == .free && allSlots.all fun n => !(decide (n < k) && (s.entry n).state == .free)

end Sys2Proof.Machine
end

