-- ==== Sys2Proof/Certificates/Slice0/Obligations.lean ====
section
/-! DEFINITION. The statements for the provers. A state that a statement names in full says what a command changes and that it
changes nothing else. -/

section

open Sys2Proof Sys2Proof.Machine

/-! ## Steps, the queue, reset -/

/-- A step takes the command at the front of the queue and carries it out on the part with the queue's rest. -/
def Obligations.StepTakesFrontCommand : Prop :=
  ∀ (c : Instr) (rest : List Instr) (s : State),
    step { s with pending := c :: rest } = exec c { s with pending := rest }

/-- On an empty queue half a millisecond passes: each running time runs on up to its limit, and nothing else changes. This is
the model's choice (log 3). -/
def Obligations.EmptyQueueLetsTimePass : Prop :=
  ∀ s : State, s.pending = [] →
    let later (t : Timer) : Timer := ⟨t.limit, min t.limit (t.elapsed + 1)⟩
    let deck (k : Deck) : Deck :=
      { k with seating := k.seating.map later, disagreement := k.disagreement.map later }
    let phase : SweepPhase → SweepPhase
      | .settle p t => .settle p (t.map later)
      | x => x
    step s = .next { s with
      rlp := { s.rlp with gapTimer := s.rlp.gapTimer.map later }
      decks := ⟨deck s.decks.a, deck s.decks.b⟩
      fseq := { s.fseq with sweep := s.fseq.sweep.map fun w => { w with phase := phase w.phase } }
      opa := { s.opa with moveTimer := s.opa.moveTimer.map later }
      hlp := { s.hlp with
        gapTimer := s.hlp.gapTimer.map later
        order := s.hlp.order.map fun o => { o with timeout := o.timeout.map later } } }

/-- Every command that a message can carry, and every event, completes in every state and leaves the queue alone; a command no
message can carry stops with the fault that says so (log 23). -/
def Obligations.WellformedCommandsComplete : Prop :=
  ∀ (c : Instr) (s : State),
    (c.wf = true → ∃ t, exec c s = .next t ∧ t.pending = s.pending) ∧
    (c.wf = false → exec c s = .fault .noSuchMessage)

/-- The blocks right after reset (R27, R46, R63, R84, R105, R122, R123, R145, R167, R185). The reset move of the path has begun,
the pins are quiet with READY high, and the straps are low: that is the model's choice (log 2). -/
def Obligations.ResetValues : Prop :=
  let deck : Deck :=
    { state := .empty, kind := none, counter := 0, anchored := false, target := none, stopping := false, purpose := none
      identification := none, leaderTravel := 0, seating := none, disagreement := none, seatFaultRecorded := false
      search := none, excursion := 0, events := ⟨false, false, false, false, false, false⟩, lastHalt := none
      lastMount := none, motion := .still, phase := none, reading := none, runMetEnd := false
      travel := none }
  let mark : Mark :=
    { accepted := none, candidate := false, inProgress := none, classified := 0, noise := 0, fault := 0, leader := .idle
      digits := [], overlength := false, faultSeen := false, searchReference := none, searchCandidate := none
      lastDirection := none }
  let ticket : Ticket :=
    { state := .free, kind := none, priority := 0, slot := none, first := none, last := none, extend := false
      current := none, captured := 0, skipped := 0, soft := 0, firstId := none, lastId := none, pathWait := false
      cancelPending := false, outcome := none, failedFrame := none }
  let entry : Entry :=
    { state := .free, deck := none, tag := none, width := none, frameCount := 0, extent := 0, lastSetpoint := none
      ticketCount := 0, stray := 0, correction := 0, complete := false, indexFull := false, interrupted := false
      releasePending := false }
  let r := State.reset
  r.decks = ⟨deck, deck⟩ ∧ r.marks = ⟨mark, mark⟩ ∧ r.lenses = ⟨.unhomed, .unhomed⟩ ∧
  (∀ t, r.ticket t = ticket) ∧ (∀ k, r.entry k = entry ∧ r.chain k = []) ∧ r.freeCount = 16384 ∧ r.admission = [] ∧
  r.poolDecks = ⟨⟨[], none, none, none, none, false⟩, ⟨[], none, none, none, none, false⟩⟩ ∧
  r.fseq.sweep = none ∧ r.fseq.result = none ∧ r.fseq.skippedTrack = 0 ∧ r.fseq.plan.extension = true ∧
  r.fseq.plan.pause = 1 ∧
  r.fseq.plan.steps.toList = [⟨true, -96⟩, ⟨true, -64⟩, ⟨true, -32⟩, ⟨true, 0⟩, ⟨true, 32⟩, ⟨true, 64⟩, ⟨true, 96⟩,
    ⟨false, 0⟩, ⟨false, 0⟩, ⟨false, 0⟩, ⟨false, 0⟩, ⟨false, 0⟩] ∧
  r.opa = ⟨.moving .a, none, 0, ⟨false, false⟩, false, false, none, some ⟨4000, 0⟩, none⟩ ∧
  r.hlp = ⟨none, 0, [], .hunt, none, 0, 0, 0⟩ ∧
  r.scheds = ⟨⟨none, none, none, false, false, none, false, none, false, none, none⟩,
    ⟨none, none, none, false, false, none, false, none, false, none, none⟩⟩ ∧
  r.rlp = ⟨.hunt, none, none, none, ⟨false, false, false⟩, false⟩ ∧
  r.params =
    { window := 40, span := 400, m1 := 12, m2 := 28, m3 := 60, bands := ⟨⟨180, 760, 4⟩, ⟨180, 760, 4⟩⟩
      headTimeout := 250, tenureLimit := 8, policy := .onDemand, trackInterval := 16, floor := 1200
      mask := ⟨true, true, true⟩ } ∧
  r.pins = ⟨false, true, false, ⟨false, false⟩⟩ ∧
  r.deckPins = ⟨⟨false, false, false, false, false, false⟩, ⟨false, false, false, false, false, false⟩⟩ ∧
  r.rate = .baud115200 ∧ r.atn = false ∧ r.pending = []

/-- RESETN asserted (R184): every block takes its reset values, the path's move toward gate A is still wanted, the attention
line, both links and the drives are idle; the input levels stand as they are. -/
def Obligations.ResetAssertedHoldsThePart : Prop :=
  ∀ s : State, ∃ t, exec .resetnAsserted s = .next t ∧
    t = { State.reset with
      pins := { s.pins with resetAsserted := true }, deckPins := s.deckPins, rate := s.rate
      opa := ⟨.moving .a, none, 0, ⟨false, false⟩, false, false, some .a, none, none⟩, pending := s.pending } ∧
    t.atn = false ∧ t.answering = none ∧ t.hlp.sending = [] ∧
    ∀ d, t.driveEnable d = false ∧ t.brake d = true ∧ t.capstanDriven d = false ∧ t.pathDrive d = false

/-- RESETN released on a part that reset holds (R184, R168, R27, R122): the straps give the rate, the decks time their contacts
as they stand, and the move toward gate A begins unless HOLD is asserted, ending at once where its limit input shows made. A
release of a line that is not asserted is no event (log 5). -/
def Obligations.ResetReleasedStartsThePart : Prop :=
  ∀ (s : State) (lr1 lr0 : Bool),
    (running s = true → exec (.resetnReleased lr1 lr0) s = .next s) ∧
    (s.pins.resetAsserted = true → s.decks = State.reset.decks → s.hlp.order = none →
      s.opa = ⟨.moving .a, none, 0, ⟨false, false⟩, false, false, some .a, none, none⟩ →
      let deck (p : DeckPins) : Deck := { Deck.reset with
        seating := if p.seat1 = true ∧ p.seat2 = true then some ⟨100, 0⟩ else none
        disagreement := if p.seat1 ≠ p.seat2 then some ⟨1000, 0⟩ else none }
      let rate : Rate := match lr1, lr0 with
        | false, false => .baud115200
        | false, true => .baud460800
        | true, false => .baud921600
        | true, true => .baud1843200
      exec (.resetnReleased lr1 lr0) s = .next { s with
        pins := { s.pins with resetAsserted := false }
        rate := rate
        decks := ⟨deck s.deckPins.a, deck s.deckPins.b⟩
        opa :=
          if s.pins.hold then s.opa
          else if s.pins.limits.a then { s.opa with path := .atGate .a, wanted := none }
          else { s.opa with wanted := none, moveTimer := some ⟨4000, 0⟩ } })

/-- RESTART (R183): answered OK; when the last byte of its answer has been sent, a message that waits is not taken, and the part
resets as by RESETN but is not held. -/
def Obligations.RestartResetsAfterItsAnswer : Prop :=
  (∀ s : State, linkIdle s = true →
    exec .restart s = .next (answered { s with rlp := { s.rlp with restartTaken := true } } .restart .ok [])) ∧
  ∀ (s : State) (p : Processing) (lr1 lr0 : Bool), running s = true → s.rlp.processing = some p →
    s.rlp.restartTaken = true →
    ∃ h t, exec .resetnAsserted s = .next h ∧ exec (.resetnReleased lr1 lr0) h = .next t ∧
      exec (.answerSent lr1 lr0) s = .next t

/-! ## The request link -/

/-- A byte received (R169): the receiver goes from HUNT through LENGTH and BODY to CHECK, and a complete message is handed to
the buffer, its CRC not yet checked. -/
def Obligations.RequestBytesReceived : Prop :=
  ∀ (s : State) (b : Byte), running s = true →
    let goes (r : Receiver) : State := { s with rlp := { s.rlp with receiver := r, gapTimer := some ⟨10, 0⟩ } }
    let hunts : State := { s with rlp := { s.rlp with receiver := .hunt, gapTimer := none } }
    (s.rlp.receiver = .hunt → b ≠ 0xD5 → exec (.requestByteReceived b) s =
      .next { s with rlp := { s.rlp with flags := { s.rlp.flags with noise := true } } }) ∧
    (s.rlp.receiver = .hunt → b = 0xD5 → exec (.requestByteReceived b) s = .next (goes .length)) ∧
    (s.rlp.receiver = .length → b ≠ 0 → exec (.requestByteReceived b) s = .next (goes (.body b b.toNat []))) ∧
    (∀ len left got, s.rlp.receiver = .body len left got → 2 ≤ left →
      exec (.requestByteReceived b) s = .next (goes (.body len (left - 1) (got ++ [b])))) ∧
    (∀ len got, s.rlp.receiver = .body len 1 got →
      exec (.requestByteReceived b) s = .next (goes (.check len (got ++ [b]) none))) ∧
    (∀ len body, s.rlp.receiver = .check len body none →
      exec (.requestByteReceived b) s = .next (goes (.check len body (some b)))) ∧
    (∀ len body high, s.rlp.receiver = .check len body (some high) →
      exec (.requestByteReceived b) s = .next (hunts.placeMessage ⟨len, body, high ++ b⟩))

/-- The other rows that bring a byte, and the gap (R169 to R171). NOISE BYTE and REQUEST MESSAGE COMPLETE are bytes received,
taken as any byte is: that is the model's choice (log 7). A broken byte, and a length byte of 0, set NOISE, and a gap inside a
message sets GAP; the partial message is dropped unanswered and the receiver hunts. In HUNT no gap is timed, and the event has
no effect (log 5). -/
def Obligations.OtherByteRowsAndGaps : Prop :=
  (∀ (s : State) (b : Byte),
     exec (.noiseByte b) s = exec (.requestByteReceived b) s ∧
     exec (.requestMessageComplete b) s = exec (.requestByteReceived b) s) ∧
  (∀ s : State, running s = true →
     let noisy : State :=
       { s with rlp := { s.rlp with receiver := .hunt, gapTimer := none, flags := { s.rlp.flags with noise := true } } }
     exec .brokenByte s = .next noisy ∧ (s.rlp.receiver = .length → exec .zeroLengthByte s = .next noisy)) ∧
  (∀ s : State, running s = true →
     (s.rlp.receiver ≠ .hunt → exec .gap s = .next { s with rlp := { s.rlp with
       receiver := .hunt, gapTimer := none, flags := { s.rlp.flags with gap := true } } }) ∧
     (s.rlp.receiver = .hunt → exec .gap s = .next s))

/-- Where a complete message goes, and what the end of an answer brings (R172); the checks of a message taken, in order, and its
answer (R173, R174, R175): BAD_CRC, UNKNOWN and BAD_LENGTH have no effect beyond the answer, and a request that reads goes to
its owner; the summary is that of the part it leaves, and the link fault flags are cleared. The CRC of the characters 1 to 9 is
0x29B1. -/
def Obligations.MessagesPlacedAndChecked : Prop :=
  (∀ (s : State), running s = true →
     (∀ (b high len : Byte) (body : List Byte), s.rlp.receiver = .check len body (some high) →
       let u : State := { s with rlp := { s.rlp with receiver := .hunt, gapTimer := none } }
       let m : Message := ⟨len, body, high ++ b⟩
       (s.rlp.processing = none → s.rlp.waiting = none →
         exec (.requestMessageComplete b) s = .next (u.takeMessage m)) ∧
       (∀ p, s.rlp.processing = some p → s.rlp.waiting = none →
         exec (.requestMessageComplete b) s = .next { u with rlp := { u.rlp with waiting := some m } }) ∧
       (∀ p w, s.rlp.processing = some p → s.rlp.waiting = some w →
         exec (.requestMessageComplete b) s =
           .next { u with rlp := { u.rlp with flags := { u.rlp.flags with overrun := true } } })) ∧
     (∀ (p : Processing) (lr1 lr0 : Bool), s.rlp.processing = some p → s.rlp.restartTaken = false →
       let u : State := { s with rlp := { s.rlp with processing := none, waiting := none } }
       (s.rlp.waiting = none → exec (.answerSent lr1 lr0) s = .next u) ∧
       (∀ m, s.rlp.waiting = some m → exec (.answerSent lr1 lr0) s = .next (u.takeMessage m)))) ∧
  ((∀ (s : State) (m : Message),
     let echo := m.body.headD 0
     let sent (t : State) (c : ResultCode) (data : List Byte) : State := { t with rlp := { t.rlp with
       processing := some ⟨m, ⟨echo, c, t.summary, data⟩⟩, flags := ⟨false, false, false⟩ } }
     (crcOf (m.length :: m.body) ≠ m.crc → s.takeMessage m = sent s .badCrc []) ∧
     (crcOf (m.length :: m.body) = m.crc →
       (parseBody m.body = .unknown → s.takeMessage m = sent s .unknown []) ∧
       (parseBody m.body = .badLength → s.takeMessage m = sent s .badLength []) ∧
       (∀ r, parseBody m.body = .ok r →
         s.takeMessage m = sent (carryOut r s).state (carryOut r s).result (carryOut r s).data))) ∧
   (∀ (code : Byte) (arguments : List Byte), parseBody (code :: arguments) = .unknown ↔
     code.toNat ∉ [0x01, 0x02, 0x03, 0x04, 0x05, 0x06, 0x10, 0x11, 0x12, 0x13, 0x14, 0x15, 0x16, 0x17, 0x18, 0x19, 0x1A,
       0x1B, 0x20, 0x21, 0x22, 0x30, 0x31, 0x32, 0x33, 0x34, 0x35, 0x36, 0x37, 0x40, 0x41, 0x42]) ∧
   crcOf [0x31, 0x32, 0x33, 0x34, 0x35, 0x36, 0x37, 0x38, 0x39] = 0x29B1)

/-- A body of at most 255 bytes reads as a request exactly where it is that request's body: no bit of an argument is dropped,
and no other body reads (R173, R189, 10.3). -/
def Obligations.RequestBodiesReadBack : Prop :=
  ∀ (body : List Byte) (r : Request), body.length ≤ 255 →
    (parseBody body = .ok r ↔ r.wf = true ∧ r.body = body)

/-- The summary byte (R175) and the attention line (R176). -/
def Obligations.SummaryAndAttention : Prop :=
  ∀ s : State,
    let final : Prop := ∃ t, (s.ticket t).state = .done ∨ (s.ticket t).state = .failed ∨ (s.ticket t).state = .cancelled
    let events : Prop := ∃ d, (s.deck d).events ≠ ⟨false, false, false, false, false, false⟩
    let link : Prop := s.rlp.flags.gap = true ∨ s.rlp.flags.noise = true ∨ s.rlp.flags.overrun = true
    (s.summary.getLsbD 0 = true ↔ final) ∧ (s.summary.getLsbD 1 = true ↔ events) ∧ (s.summary.getLsbD 2 = true ↔ link) ∧
    s.summary.getLsbD 3 = s.rlp.flags.gap ∧ s.summary.getLsbD 4 = s.rlp.flags.noise ∧
    s.summary.getLsbD 5 = s.rlp.flags.overrun ∧ s.summary.getLsbD 6 = false ∧ s.summary.getLsbD 7 = false ∧
    (s.atn = true ↔ running s = true ∧ ((s.params.mask.tickets = true ∧ final) ∨ (s.params.mask.decks = true ∧ events) ∨
      (s.params.mask.link = true ∧ link)))

/-- IDENTIFY (R177): part code 0x0840, revision 1, 16 roll entries, 16,384 records, 16 tickets, 12 steps, and no state changed
but the link's own. -/
def Obligations.IdentifyAnswered : Prop :=
  ∀ s : State, linkIdle s = true →
    exec .identify s = .next (answered s .identify .ok [0x08, 0x40, 1, 16, 0x40, 0x00, 16, 12])

/-- The requests that only read (R178, R182, R104, R59, R142) change nothing but the link's own state. STATUS (R178, 10.5), READ
PARAMETERS (10.10), READ SWEEP PLAN and READ SWEEP RESULT (10.9), READ ROLL (10.6) and QUERY TICKET (10.8) field by field: `at'
l i n` is the number that the `n` bytes of `l` from offset `i` spell, most significant first, and a code is the place in its
list of 10.4. A slot or ticket number above 15 is BAD_ARGUMENT. EVENTS (R179): both sets and the companion fields are read, and
both sets are then emptied. -/
def Obligations.LinkReadsAndEventsAnswered : Prop :=
  ∀ s : State, linkIdle s = true →
    let at' (l : List Byte) (i n : Nat) : Nat := ((l.drop i).take n).foldl (fun v b => 256 * v + b.toNat) 0
    let yes (b : Bool) : Nat := if b then 1 else 0
    let deckNo : DeckId → Nat
      | .a => 0
      | .b => 1
    (∃ data, exec .status s = .next (answered s .status .ok data) ∧ data.length = 38 ∧
      (∀ d : DeckId,
        let o := 13 * deckNo d
        let k := s.deck d
        let lens : Nat × Option Nat := match s.lens d with
          | .unhomed => (0, none)
          | .homing _ _ => (1, none)
          | .idle p => (2, some p)
          | .moving p _ => (3, some p)
        at' data o 1 = [DeckState.empty, .seated, .threading, .identifying, .ready, .shuttling, .indexing, .searching,
          .rewinding, .halted].idxOf k.state ∧
        at' data (o + 1) 3 = (2 ^ 23 * yes k.anchored + k.counter) % 2 ^ 24 ∧
        at' data (o + 4) 1 = lens.1 + 2 ^ 7 * yes lens.2.isSome ∧ at' data (o + 5) 2 = lens.2.getD 0 % 2 ^ 16 ∧
        at' data (o + 7) 2 = (s.mark d).classified.toNat ∧ at' data (o + 9) 2 = (s.mark d).noise.toNat ∧
        at' data (o + 11) 2 = (s.mark d).fault.toNat) ∧
      at' data 26 1 = (match s.opa.path with
        | .atGate g => deckNo g
        | .moving g => 2 + deckNo g
        | .fault _ => 4) ∧
      at' data 27 1 = (match s.opa.holder with
        | none => 0
        | some d => 1 + deckNo d) ∧
      at' data 28 2 = s.freeCount % 2 ^ 16 ∧ at' data 30 2 = s.fseq.skippedTrack.toNat ∧ at' data 32 2 = s.hlp.stale.toNat ∧
      at' data 34 2 = s.hlp.bad.toNat ∧ at' data 36 2 = s.hlp.holdConflict.toNat) ∧
    (∃ data, exec .readParameters s = .next (answered s .readParameters .ok data) ∧ data.length = 24 ∧
      let p := s.params
      at' data 0 1 = p.window % 2 ^ 8 ∧ at' data 1 2 = p.span % 2 ^ 16 ∧ at' data 3 1 = p.m1 % 2 ^ 8 ∧
      at' data 4 1 = p.m2 % 2 ^ 8 ∧ at' data 5 1 = p.m3 % 2 ^ 8 ∧
      (∀ d : DeckId,
        let o := 6 + 5 * deckNo d
        let b := p.bands.get d
        at' data o 2 = b.low % 2 ^ 16 ∧ at' data (o + 2) 2 = b.high % 2 ^ 16 ∧ at' data (o + 4) 1 = b.limit % 2 ^ 8) ∧
      at' data 16 2 = p.headTimeout % 2 ^ 16 ∧ at' data 18 1 = p.tenureLimit % 2 ^ 8 ∧
      at' data 19 1 = [Policy.off, .onDemand, .track].idxOf p.policy ∧ at' data 20 1 = p.trackInterval % 2 ^ 8 ∧
      at' data 21 2 = p.floor % 2 ^ 16 ∧
      at' data 23 1 = yes p.mask.tickets + 2 * yes p.mask.decks + 4 * yes p.mask.link) ∧
    (∃ data, exec .readSweepPlan s = .next (answered s .readSweepPlan .ok data) ∧ data.length = 38 ∧
      (∀ i : Fin 12,
        let x := s.fseq.plan.steps.get i
        at' data (3 * i.val) 1 = yes x.enabled ∧ ((at' data (3 * i.val + 1) 2 : Nat) : Int) = x.offset % 2 ^ 16) ∧
      at' data 36 1 = yes s.fseq.plan.extension ∧ at' data 37 1 = s.fseq.plan.pause % 2 ^ 8) ∧
    (∃ data, exec .readSweepResult s = .next (answered s .readSweepResult .ok data) ∧
      let now : Nat := 2 * yes s.fseq.sweep.isSome + 4 * ((s.fseq.sweep.map fun w => deckNo w.deck).getD 0)
      (s.fseq.result = none → data.length = 11 ∧ at' data 0 1 = now ∧ at' data 1 10 = 0) ∧
      (∀ r, s.fseq.result = some r → data.length = 11 + 3 * r.figures.length ∧
        at' data 0 1 = 1 + now + 8 * deckNo r.deck + 16 * yes (r.outcome == .soft) + 32 * yes r.setpoint.isSome ∧
        at' data 1 1 = r.slot.val ∧ at' data 2 2 = r.frame % 2 ^ 16 ∧ at' data 4 2 = r.centre % 2 ^ 16 ∧
        at' data 6 1 = r.pass % 2 ^ 8 ∧ at' data 7 1 = r.best % 2 ^ 8 ∧ at' data 8 1 = r.figures.length % 2 ^ 8 ∧
        at' data 9 2 = r.setpoint.getD 0 % 2 ^ 16 ∧
        ∀ (i : Nat) (f : Figure), r.figures[i]? = some f →
          at' data (11 + 3 * i) 1 = f.step % 2 ^ 8 ∧ at' data (12 + 3 * i) 2 = f.figure % 2 ^ 16)) ∧
    (∀ (b : Byte) (k : Slot), b.toNat = k.val → ∃ data,
      exec (.readRoll b) s = .next (answered s (.readRoll b) .ok data) ∧ data.length = 18 ∧
      let e := s.entry k
      at' data 0 1 = k.val ∧
      at' data 1 1 = [EntryState.free, .listed, .mounted].idxOf e.state + 4 * yes e.deck.isSome +
        8 * ((e.deck.map deckNo).getD 0) + 16 * yes e.width.isSome + 32 * yes (e.width == some .mm35) +
        64 * yes e.releasePending ∧
      at' data 2 1 = yes e.complete + 2 * yes e.indexFull + 4 * yes e.interrupted + 8 * yes e.tag.isSome +
        16 * yes e.lastSetpoint.isSome ∧
      at' data 3 3 = e.tag.getD 0 % 2 ^ 24 ∧ at' data 6 2 = e.frameCount % 2 ^ 16 ∧ at' data 8 3 = e.extent % 2 ^ 24 ∧
      at' data 11 2 = e.lastSetpoint.getD 0 % 2 ^ 16 ∧ at' data 13 1 = e.ticketCount % 2 ^ 8 ∧
      at' data 14 2 = e.stray % 2 ^ 16 ∧ at' data 16 2 = e.correction % 2 ^ 16) ∧
    (∀ (b : Byte) (t : TicketNo), b.toNat = t.val → ∃ data,
      exec (.queryTicket b) s = .next (answered s (.queryTicket b) .ok data) ∧ data.length = 28 ∧
      let x := s.ticket t
      at' data 0 1 = t.val ∧
      at' data 1 1 = [TicketState.free, .awaitRoll, .queued, .indexing, .moving, .searching, .focusing, .exposing, .done,
        .failed, .cancelled].idxOf x.state ∧
      at' data 2 1 = yes x.kind.isSome + 2 * yes x.first.isSome + 4 * yes x.current.isSome + 8 * yes x.firstId.isSome +
        16 * yes x.lastId.isSome + 32 * yes x.outcome.isSome + 64 * yes x.failedFrame.isSome ∧
      at' data 3 1 = ((x.kind.map fun k => [TicketKind.fetch, .range, .locate, .focus, .index].idxOf k).getD 0 +
        8 * yes x.extend + 16 * x.priority + 64 * yes x.pathWait + 128 * yes x.cancelPending) % 2 ^ 8 ∧
      at' data 4 1 = (x.slot.map fun k => k.val).getD 0 ∧ at' data 5 2 = x.first.getD 0 % 2 ^ 16 ∧
      at' data 7 2 = x.last.getD 0 % 2 ^ 16 ∧ at' data 9 2 = x.current.getD 0 % 2 ^ 16 ∧
      at' data 11 2 = x.captured % 2 ^ 16 ∧ at' data 13 2 = x.skipped % 2 ^ 16 ∧ at' data 15 2 = x.soft % 2 ^ 16 ∧
      at' data 17 4 = (x.firstId.getD 0).toNat ∧ at' data 21 4 = (x.lastId.getD 0).toNat ∧
      at' data 25 1 = (x.outcome.map fun o => [TicketOutcome.completed, .cancelled, .removed, .halted, .unlisted, .lost,
        .notFound, .poolFull, .cameraTimeout, .cameraAbsent, .cameraRefused, .pathFault].idxOf o).getD 0 ∧
      at' data 26 2 = x.failedFrame.getD 0 % 2 ^ 16) ∧
    (∀ b : Byte, 16 ≤ b.toNat →
      exec (.readRoll b) s = .next (answered s (.readRoll b) .badArgument []) ∧
      exec (.queryTicket b) s = .next (answered s (.queryTicket b) .badArgument [])) ∧
    (let none' : EventSet := ⟨false, false, false, false, false, false⟩
     ∃ data, exec .events s = .next (answered
       { s with decks := ⟨{ s.decks.a with events := none' }, { s.decks.b with events := none' }⟩ } .events .ok data) ∧
     data.length = 6 ∧
     ∀ d : DeckId,
       let o := 3 * deckNo d
       let k := s.deck d
       at' data o 1 = yes k.events.seated + 2 * yes k.events.removed + 4 * yes k.events.mounted + 8 * yes k.events.unmounted +
         16 * yes k.events.halted + 32 * yes k.events.seatFault ∧
       at' data (o + 1) 1 = (k.lastHalt.map fun c =>
         128 + [HaltCause.tensionHigh, .tensionLow, .driveFault, .runout, .noLeader].idxOf c).getD 0 ∧
       at' data (o + 2) 1 = (k.lastMount.map fun c => 128 + [MountOutcome.known, .newRoll, .transient, .duplicateTag,
         .widthMismatch, .catalogueFull, .resumed].idxOf c).getD 0)

/-- READ FRAMES and FIND FRAME (R78, R79) where the checks of R75 pass, the records field by field (10.7). -/
def Obligations.RecordReadsAnswered : Prop :=
  ∀ (s : State) (slot : Byte) (k : Slot), linkIdle s = true → slot.toNat = k.val → (s.entry k).state ≠ .free →
    (∀ (frame : Half) (count : Byte), 1 ≤ count.toNat → count.toNat ≤ 16 → 1 ≤ frame.toNat →
      frame.toNat ≤ (s.entry k).frameCount →
      let at' (l : List Byte) (i n : Nat) : Nat := ((l.drop i).take n).foldl (fun v b => 256 * v + b.toNat) 0
      let yes (b : Bool) : Nat := if b then 1 else 0
      let records := ((s.chain k).drop (frame.toNat - 1)).take count.toNat
      ∃ data, exec (.readFrames slot frame count) s = .next (answered s (.readFrames slot frame count) .ok data) ∧
        data.length = 4 + 15 * records.length ∧
        at' data 0 1 = k.val ∧ at' data 1 2 = frame.toNat ∧ at' data 3 1 = records.length ∧
        ∀ (i : Nat) (r : FrameRecord), records[i]? = some r →
          let o := 4 + 15 * i
          let source : Nat := (r.source.map fun x => [SetpointSource.declared, .sweep, .host].idxOf x).getD 0
          at' data o 3 = (2 ^ 23 * yes r.withdrawn + 2 ^ 21 * source + r.position) % 2 ^ 24 ∧
          at' data (o + 3) 8 = (2 ^ 49 * r.sectionNo + 2 ^ 34 * r.groupNo + 2 ^ 19 * r.indexNo + 2 ^ 7 * r.setpoint.getD 0 +
            2 ^ 5 * [MarkClass.minor, .major, .sectionMark].idxOf r.cls +
            2 ^ 3 * [Condition.declared, .seen, .verified, .damaged].idxOf r.condition + 2 * r.missCount +
            yes r.setpoint.isSome) % 2 ^ 64 ∧
          at' data (o + 11) 2 = r.figure.getD 0 % 2 ^ 16 ∧ at' data (o + 13) 2 = r.note % 2 ^ 16) ∧
    (∀ sec group i : Half, 1 ≤ sec.toNat → sec.toNat ≤ 16384 → 1 ≤ group.toNat → group.toNat ≤ 16384 → 1 ≤ i.toNat →
      i.toNat ≤ 16384 →
      let fits (r : FrameRecord) : Prop := r.sectionNo = sec.toNat ∧ r.groupNo = group.toNat ∧ r.indexNo = i.toNat
      (∀ r ∈ s.chain k, fits r → (∀ q ∈ s.chain k, fits q → q = r) →
        exec (.findFrame slot sec group i) s =
          .next (answered s (.findFrame slot sec group i) .ok (num16 r.frame))) ∧
      ((∀ r ∈ s.chain k, ¬ fits r) →
        exec (.findFrame slot sec group i) s = .next (answered s (.findFrame slot sec group i) .notFound [])))

/-- SET PARAMETERS (R180, R181): refused as a whole where a field is out of range, or where the thresholds or the window would
change while a deck has drive power; else the block is replaced whole. SET SWEEP PLAN (R103): refused where an offset, the pause
or the enabled steps are not as they must be, and while a sweep is in progress; else the plan is replaced whole. -/
def Obligations.ParametersAndSweepPlanTaken : Prop :=
  (∀ (s : State) (b : ParamWire), linkIdle s = true →
     let bandOk (low high : Half) (limit : Byte) : Prop :=
       low.toNat ≤ 1022 ∧ low.toNat < high.toNat ∧ high.toNat ≤ 1023 ∧ 1 ≤ limit.toNat ∧ limit.toNat ≤ 15
     let inRange : Prop :=
       8 ≤ b.window.toNat ∧ 64 ≤ b.span.toNat ∧ b.span.toNat ≤ 4095 ∧ 3 ≤ b.m1.toNat ∧ b.m1.toNat < b.m2.toNat ∧
       b.m2.toNat < b.m3.toNat ∧ b.m3.toNat ≤ 250 ∧ bandOk b.lowA b.highA b.limitA ∧ bandOk b.lowB b.highB b.limitB ∧
       5 ≤ b.headTimeout.toNat ∧ b.headTimeout.toNat ≤ 1000 ∧ 1 ≤ b.tenureLimit.toNat ∧ b.tenureLimit.toNat ≤ 32 ∧
       b.policy.toNat ≤ 2 ∧ 1 ≤ b.trackInterval.toNat ∧ b.trackInterval.toNat ≤ 64
     let marksChange : Prop :=
       b.window.toNat ≠ s.params.window ∨ b.m1.toNat ≠ s.params.m1 ∨ b.m2.toNat ≠ s.params.m2 ∨ b.m3.toNat ≠ s.params.m3
     let powered : Prop := ∃ d, s.power d = true
     let r := Request.setParameters b
     (¬ inRange → exec (.setParameters b) s = .next (answered s r .badArgument [])) ∧
     (inRange → marksChange → powered → exec (.setParameters b) s = .next (answered s r .busy [])) ∧
     (inRange → ¬ (marksChange ∧ powered) → exec (.setParameters b) s = .next (answered
       { s with params :=
         { window := b.window.toNat, span := b.span.toNat, m1 := b.m1.toNat, m2 := b.m2.toNat, m3 := b.m3.toNat
           bands := ⟨⟨b.lowA.toNat, b.highA.toNat, b.limitA.toNat⟩, ⟨b.lowB.toNat, b.highB.toNat, b.limitB.toNat⟩⟩
           headTimeout := b.headTimeout.toNat, tenureLimit := b.tenureLimit.toNat
           policy := if b.policy = 0 then .off else if b.policy = 1 then .onDemand else .track
           trackInterval := b.trackInterval.toNat, floor := b.floor.toNat
           mask := ⟨b.mask.getLsbD 0, b.mask.getLsbD 1, b.mask.getLsbD 2⟩ } } r .ok []))) ∧
  (∀ (s : State) (p : PlanWire), linkIdle s = true → p.steps.length = 12 →
     let good : Prop := (∀ w ∈ p.steps, -512 ≤ w.offset.toInt ∧ w.offset.toInt ≤ 511) ∧ p.pause.toNat ≤ 7 ∧
       ∃ w ∈ p.steps, w.flags.getLsbD 0 = true
     let r := Request.setSweepPlan p
     (¬ good → exec (.setSweepPlan p) s = .next (answered s r .badArgument [])) ∧
     (good → s.fseq.sweep.isSome = true → exec (.setSweepPlan p) s = .next (answered s r .busy [])) ∧
     (good → s.fseq.sweep = none → ∃ plan : Plan,
       plan.steps.toList = p.steps.map (fun w => (⟨w.flags.getLsbD 0, w.offset.toInt⟩ : PlanStep)) ∧
       plan.extension = p.extension.getLsbD 0 ∧ plan.pause = p.pause.toNat ∧
       exec (.setSweepPlan p) s = .next (answered { s with fseq := { s.fseq with plan := plan } } r .ok [])))

/-! ## Catalogue, records, decks, tickets: the host's requests -/

/-- A refused request (R186): the owner's refusal changes no state and carries no answer data. -/
def Obligations.RefusedRequestsChangeNothing : Prop :=
  ∀ (r : Request) (s : State), (carryOut r s).result ≠ .ok → (carryOut r s).state = s ∧ (carryOut r s).data = []

/-- The checks of R75, in their order, for every count, setpoint and hierarchy number out of range, every slot number above 15,
a FREE entry, and every frame number outside the chain; and a deck code of 2 or more, refused with BAD_ARGUMENT by the four
requests that name a deck (R188). -/
def Obligations.RecordAndDeckCodeRefusals : Prop :=
  (∀ (s : State) (slot count flags : Byte) (frame note setpoint sec group i : Half), linkIdle s = true →
     let read : Instr × Request := (.readFrames slot frame count, .readFrames slot frame count)
     let focus : Instr × Request := (.setFocus slot frame flags setpoint, .setFocus slot frame flags setpoint)
     let find : Instr × Request := (.findFrame slot sec group i, .findFrame slot sec group i)
     let all : List (Instr × Request) :=
       [read, focus, (.annotateFrame slot frame note, .annotateFrame slot frame note),
         (.withdrawFrame slot frame, .withdrawFrame slot frame), (.restoreFrame slot frame, .restoreFrame slot frame)]
     let refused (x : Instr × Request) (c : ResultCode) : Prop := exec x.1 s = .next (answered s x.2 c [])
     let countOk : Prop := 1 ≤ count.toNat ∧ count.toNat ≤ 16
     let focusOk : Prop := flags.getLsbD 0 = false ∨ setpoint.toNat ≤ 4095
     let number (n : Half) : Prop := 1 ≤ n.toNat ∧ n.toNat ≤ 16384
     let findOk : Prop := number sec ∧ number group ∧ number i
     (¬ countOk → refused read .badArgument) ∧ (¬ focusOk → refused focus .badArgument) ∧
     (¬ findOk → refused find .badArgument) ∧
     (16 ≤ slot.toNat → ∀ x ∈ find :: all, refused x .badArgument) ∧
     (∀ k : Slot, slot.toNat = k.val →
       ((s.entry k).state = .free →
         (findOk → refused find .notListed) ∧ (countOk → focusOk → ∀ x ∈ all, refused x .notListed)) ∧
       ((s.entry k).state ≠ .free → frame.toNat = 0 ∨ (s.entry k).frameCount < frame.toNat → countOk → focusOk →
         ∀ x ∈ all, refused x .notFound))) ∧
  (∀ (s : State) (deck slot : Byte), linkIdle s = true → 2 ≤ deck.toNat →
     exec (.mount deck) s = .next (answered s (.mount deck) .badArgument []) ∧
     exec (.unmount deck) s = .next (answered s (.unmount deck) .badArgument []) ∧
     exec (.clearDeck deck) s = .next (answered s (.clearDeck deck) .badArgument []) ∧
     exec (.bindDeck deck slot) s = .next (answered s (.bindDeck deck slot) .badArgument []))

/-- ANNOTATE FRAME, SET FOCUS, WITHDRAW FRAME and RESTORE FRAME (R80, R72, R81, R82) where the checks of R75 pass: the fields
they write of the record, the roll's last setpoint, and HELD for a frame inside the range of a live ticket. -/
def Obligations.RecordWritesTaken : Prop :=
  ∀ (s : State) (slot : Byte) (k : Slot) (frame : Half), linkIdle s = true → slot.toNat = k.val →
    (s.entry k).state ≠ .free → 1 ≤ frame.toNat → frame.toNat ≤ (s.entry k).frameCount →
    let written (f : FrameRecord → FrameRecord) : State :=
      { s with chains := s.chains.set k ((s.chain k).map fun r => if r.frame = frame.toNat then f r else r) }
    let held : Prop := ∃ t, (s.ticket t).state.isLive = true ∧ (s.ticket t).slot = some k ∧
      (s.ticket t).kind ≠ some .index ∧ (s.ticket t).first.getD 0 ≤ frame.toNat ∧ frame.toNat ≤ (s.ticket t).last.getD 0
    (∀ note : Half, exec (.annotateFrame slot frame note) s =
      .next (answered (written fun r => { r with note := note.toNat }) (.annotateFrame slot frame note) .ok [])) ∧
    (∀ (flags : Byte) (setpoint : Half), flags.getLsbD 0 = true → setpoint.toNat ≤ 4095 →
      exec (.setFocus slot frame flags setpoint) s = .next (answered
        { (written fun r => { r with setpoint := some setpoint.toNat, source := some .host, figure := none }) with
          entries := s.entries.set k { s.entry k with lastSetpoint := some setpoint.toNat } }
        (.setFocus slot frame flags setpoint) .ok [])) ∧
    (∀ (flags : Byte) (setpoint : Half), flags.getLsbD 0 = false →
      exec (.setFocus slot frame flags setpoint) s = .next (answered
        (written fun r => { r with setpoint := none, source := none, figure := none })
        (.setFocus slot frame flags setpoint) .ok [])) ∧
    (held → exec (.withdrawFrame slot frame) s = .next (answered s (.withdrawFrame slot frame) .held [])) ∧
    (¬ held → exec (.withdrawFrame slot frame) s =
      .next (answered (written fun r => { r with withdrawn := true }) (.withdrawFrame slot frame) .ok [])) ∧
    exec (.restoreFrame slot frame) s =
      .next (answered (written fun r => { r with withdrawn := false }) (.restoreFrame slot frame) .ok [])

/-- DECLARE ROLL (R58): the refusals in order, and the lowest-numbered FREE entry LISTED with the tag and the width. NAME ROLL
(R60): its refusals in order, and the tag given to a MOUNTED transient entry. -/
def Obligations.DeclareAndNameRollTaken : Prop :=
  (∀ (s : State) (tag : BitVec 24) (width : Byte), linkIdle s = true →
     let r := Request.declareRoll tag width
     let heldTag : Prop := ∃ n, (s.entry n).tag = some tag.toNat
     let good : Prop := tag.toNat ≤ 1048575 ∧ width.toNat ≤ 1
     (¬ good → exec (.declareRoll tag width) s = .next (answered s r .badArgument [])) ∧
     (good → heldTag → exec (.declareRoll tag width) s = .next (answered s r .duplicate [])) ∧
     (good → ¬ heldTag → (∀ n, (s.entry n).state ≠ .free) →
       exec (.declareRoll tag width) s = .next (answered s r .full [])) ∧
     (good → ¬ heldTag → ∀ k, lowestFreeEntry s k = true →
       let e : Entry :=
         { state := .listed, deck := none, tag := some tag.toNat, width := some (if width = 0 then .mm16 else .mm35)
           frameCount := 0, extent := 0, lastSetpoint := none, ticketCount := 0, stray := 0, correction := 0
           complete := false, indexFull := false, interrupted := false, releasePending := false }
       exec (.declareRoll tag width) s =
         .next (answered { s with entries := s.entries.set k e } r .ok [BitVec.ofNat 8 k.val]))) ∧
  (∀ (s : State) (slot : Byte) (tag : BitVec 24), linkIdle s = true →
     let r := Request.nameRoll slot tag
     let does (t : State) (c : ResultCode) : Prop := exec (.nameRoll slot tag) s = .next (answered t r c [])
     (16 ≤ slot.toNat → does s .badArgument) ∧
     (∀ k : Slot, slot.toNat = k.val →
       let transient : Prop := (s.entry k).state = .mounted ∧ (s.entry k).tag = none
       let heldTag : Prop := ∃ n, (s.entry n).tag = some tag.toNat
       (1048575 < tag.toNat → does s .badArgument) ∧
       (tag.toNat ≤ 1048575 → ¬ transient → does s .state) ∧
       (tag.toNat ≤ 1048575 → transient → heldTag → does s .duplicate) ∧
       (tag.toNat ≤ 1048575 → transient → ¬ heldTag →
         does { s with entries := s.entries.set k { s.entry k with tag := some tag.toNat } } .ok)))

/-- RETIRE ROLL (R62): its refusals in order, and the entry freed, its records back on the free list (R55). -/
def Obligations.RetireRollTaken : Prop :=
  ∀ (s : State) (slot : Byte), linkIdle s = true →
    let does (t : State) (c : ResultCode) : Prop :=
      exec (.retireRoll slot) s = .next (answered t (.retireRoll slot) c [])
    (16 ≤ slot.toNat → does s .badArgument) ∧
    (∀ k : Slot, slot.toNat = k.val →
      let e := s.entry k
      (e.state = .free → does s .notListed) ∧
      (e.state = .mounted → does s .state) ∧
      (e.state = .listed → 0 < e.ticketCount → does s .held) ∧
      (e.state = .listed → e.ticketCount = 0 →
        does { s with
          entries := s.entries.set k
            { state := .free, deck := none, tag := none, width := none, frameCount := 0, extent := 0, lastSetpoint := none
              ticketCount := 0, stray := 0, correction := 0, complete := false, indexFull := false, interrupted := false
              releasePending := false }
          chains := s.chains.set k []
          freeCount := s.freeCount + e.frameCount } .ok))

/-- BIND DECK (R61, R49): a slot number above 15 is BAD_ARGUMENT (R188); its refusals in order, and, for a deck without an
entry, the entry bound: MOUNTED, INTERRUPTED cleared, its waiting tickets QUEUED, the crossing set built; the scheduler then
acts (R148). -/
def Obligations.BindDeckTaken : Prop :=
  (∀ (s : State) (deck slot : Byte), linkIdle s = true → 16 ≤ slot.toNat →
    exec (.bindDeck deck slot) s = .next (answered s (.bindDeck deck slot) .badArgument [])) ∧
  ∀ (s : State) (d : DeckId) (slot : Byte) (k : Slot), linkIdle s = true → slot.toNat = k.val →
    let deck : Byte := if d = .a then 0 else 1
    let does (t : State) (c : ResultCode) : Prop :=
      exec (.bindDeck deck slot) s = .next (answered t (.bindDeck deck slot) c [])
    let e := s.entry k
    let width : Option Width := match (s.deck d).kind with
      | some .mm16 => some .mm16
      | some .mm35 => some .mm35
      | _ => none
    let replaceable : Prop := ∀ n, s.entryOf d = some n → (s.entry n).tag = none ∧ (s.entry n).frameCount = 0
    let ready : Prop := (s.deck d).state = .ready
    let unserved : Prop := (s.sched d).active = none
    let listed : Prop := e.state = .listed ∧ e.releasePending = false
    (¬ ready → does s .state) ∧
    (ready → ¬ unserved → does s .busy) ∧
    (ready → unserved → ¬ replaceable → does s .state) ∧
    (ready → unserved → replaceable → e.state = .free → does s .notListed) ∧
    (ready → unserved → replaceable → e.state ≠ .free → ¬ listed → does s .state) ∧
    (ready → unserved → replaceable → listed → e.width ≠ width → does s .badArgument) ∧
    (ready → unserved → s.entryOf d = none → listed → e.width = width →
      let near (r : FrameRecord) : Bool :=
        decide ((s.deck d).counter ≤ r.position + s.params.window ∧ r.position ≤ (s.deck d).counter + s.params.window)
      let u : State := { s with
        entries := s.entries.set k { e with state := .mounted, deck := some d, interrupted := false }
        tickets := s.tickets.map fun t =>
          if t.slot = some k ∧ t.state = .awaitRoll then { t with state := .queued } else t
        poolDecks := s.poolDecks.set d { s.pool d with
          crossing := ((s.chain k).filter near).map fun r => ⟨r.frame, false, false⟩ } }
      does u.settle .ok)

/-- DECLARE FRAMES (R76, R77): a slot number above 15 is BAD_ARGUMENT; its refusals in order, with STATE for an entry freed
before it (log 33) and for a first frame outside 1..16,384 on an entry that is not LISTED (log 39), and the records appended,
numbered on from the last by R67, with the free count, the frame count and the extent as they follow. `xs` are the items as read
(10.7). -/
def Obligations.DeclareFramesAppends : Prop :=
  (∀ (s : State) (slot : Byte) (first : Half) (items : List DeclItem), linkIdle s = true →
    (Instr.declareFrames slot first items).wf = true → 16 ≤ slot.toNat → exec (.declareFrames slot first items) s =
      .next (answered s (.declareFrames slot first (BitVec.ofNat 8 items.length) items) .badArgument [])) ∧
  ∀ (s : State) (slot : Byte) (k : Slot) (first : Half) (items : List DeclItem), linkIdle s = true →
    (Instr.declareFrames slot first items).wf = true → slot.toNat = k.val →
    let r := Request.declareFrames slot first (BitVec.ofNat 8 items.length) items
    let refused (c : ResultCode) : Prop := exec (.declareFrames slot first items) s = .next (answered s r c [])
    let e := s.entry k
    let listed : Prop := e.state = .listed ∧ e.releasePending = false
    (itemsOf items = none ∨ items.length = 0 ∨ 16 < items.length → refused .badArgument) ∧
    (∀ xs, itemsOf items = some xs → 1 ≤ items.length → items.length ≤ 16 →
      let rises : Prop := List.Pairwise (· < ·) (((s.lastPosition k).toList) ++ xs.map (·.pos))
      (¬ listed → refused .state) ∧
      (listed → first.toNat ≠ e.frameCount + 1 → refused .badArgument) ∧
      (listed → first.toNat = e.frameCount + 1 → ¬ rises → refused .badArgument) ∧
      (listed → first.toNat = e.frameCount + 1 → rises → s.freeCount < items.length → refused .full) ∧
      (listed → first.toNat = e.frameCount + 1 → rises → items.length ≤ s.freeCount →
        ∃ new : List FrameRecord, new.length = items.length ∧
          (∀ (i : Nat) (h : i < new.length) (h' : i < xs.length),
            let x := new[i]
            let h := hierarchy xs[i].cls (s.chain k ++ new.take i).getLast?
            x = { slot := k, frame := e.frameCount + 1 + i, position := xs[i].pos, cls := xs[i].cls, sectionNo := h.1
                  groupNo := h.2.1, indexNo := h.2.2, condition := .declared, withdrawn := false, missCount := 0
                  setpoint := xs[i].setpoint, source := xs[i].setpoint.map fun _ => .declared, figure := none, note := 0 }) ∧
          exec (.declareFrames slot first items) s = .next (answered
            { s with
              chains := s.chains.set k (s.chain k ++ new)
              entries := s.entries.set k { e with
                frameCount := e.frameCount + items.length
                extent := max e.extent (((s.chain k ++ new).getLast?.map (·.position)).getD 0) }
              freeCount := s.freeCount - items.length } r .ok
            (bytes16 (BitVec.ofNat 16 (e.frameCount + items.length))))))

/-- MOUNT (R8, R2, R3, R9, R32): its refusals in order; else THREADING with power on, its motion deferred where HOLD applies,
beginning with the rewind phase where film is in the gate. An active drive fault halts the deck at once (R22). -/
def Obligations.MountTaken : Prop :=
  ∀ (s : State) (d : DeckId), linkIdle s = true →
    let deck : Byte := if d = .a then 0 else 1
    let does (t : State) (c : ResultCode) : Prop := exec (.mount deck) s = .next (answered t (.mount deck) c [])
    let k := s.deck d
    let film := (s.sensors d).filmInGate
    let hold : Prop := s.pins.hold = true ∧ s.opa.path.selected = d
    let mountable : Prop := k.state = .seated ∧ k.kind ≠ some .unsupported ∧ s.orderFor d = false
    let u (m : Motion) (p : Option ThreadPhase) (travel : Nat) : State := { s with
      decks := s.decks.set d { k with
        state := .threading, identification := some .fresh, counter := 0, anchored := false, excursion := 0, motion := m
        phase := p, leaderTravel := travel }
      marks := s.marks.set d { s.mark d with
        classified := 0, noise := 0, fault := 0, leader := .seek, digits := [], overlength := false, faultSeen := false } }
    (k.state ≠ .seated → does s .state) ∧
    (k.state = .seated → k.kind = some .unsupported → does s .unsupported) ∧
    (k.state = .seated → k.kind ≠ some .unsupported → s.orderFor d = true → does s .busy) ∧
    (mountable → (s.sensors d).driveFault = false → hold → does (u .deferred k.phase k.leaderTravel) .ok) ∧
    (mountable → (s.sensors d).driveFault = false → ¬ hold → film = true →
      does (u .moving (some .rewind) k.leaderTravel) .ok) ∧
    (mountable → (s.sensors d).driveFault = false → ¬ hold → film = false → does (u .moving (some .advance) 0) .ok) ∧
    (mountable → (s.sensors d).driveFault = true → deckUnused s d = true →
      does (haltedAs (u k.motion k.phase k.leaderTravel) d .driveFault) .ok)

/-- UNMOUNT (R19, R20, R3): its refusals in order; else REWINDING, its motion deferred where HOLD applies, and ending at once
where no film is in the gate. CLEAR DECK (R24, R3, R22): its refusals in order; with film in the gate a remount begins with its
rewind; without, the deck is SEATED, its tagged entry released with the QUEUED tickets of it in AWAIT_ROLL again (R53, R133),
and UNMOUNTED recorded. -/
def Obligations.UnmountAndClearDeckTaken : Prop :=
  (∀ (s : State) (d : DeckId), linkIdle s = true →
     let deck : Byte := if d = .a then 0 else 1
     let does (t : State) (c : ResultCode) : Prop := exec (.unmount deck) s = .next (answered t (.unmount deck) c [])
     let k := s.deck d
     let hold : Prop := s.pins.hold = true ∧ s.opa.path.selected = d
     let free : Prop := (s.sched d).active = none
     let u (m : Motion) : State := { s with
       decks := s.decks.set d { k with state := .rewinding, purpose := some .unmount, motion := m }
       poolDecks := s.poolDecks.set d { s.pool d with crossing := [] } }
     (¬ free → does s .busy) ∧
     (free → k.state ≠ .ready → does s .state) ∧
     (free → k.state = .ready → hold → does (u .deferred) .ok) ∧
     (free → k.state = .ready → ¬ hold → (s.sensors d).filmInGate = true → does (u .moving) .ok) ∧
     (free → k.state = .ready → ¬ hold → (s.sensors d).filmInGate = false → deckLeft s d = true → entryTagged s d = true →
       ∃ v, exec (.filmInGateCleared d) (u .moving) = .next v ∧ does v .ok)) ∧
  (∀ (s : State) (d : DeckId), linkIdle s = true →
     let deck : Byte := if d = .a then 0 else 1
     let does (t : State) (c : ResultCode) : Prop := exec (.clearDeck deck) s = .next (answered t (.clearDeck deck) c [])
     let k := s.deck d
     let hold : Prop := s.pins.hold = true ∧ s.opa.path.selected = d
     let film := (s.sensors d).filmInGate
     let clearable : Prop := k.state = .halted ∧ s.orderFor d = false
     let u (m : Motion) : State := { s with
       decks := s.decks.set d { k with
         state := .rewinding, purpose := some .remount, counter := 0, anchored := false, excursion := 0, motion := m }
       marks := s.marks.set d { s.mark d with leader := .seek, digits := [], overlength := false, faultSeen := false } }
     (k.state ≠ .halted → does s .state) ∧
     (k.state = .halted → s.orderFor d = true → does s .busy) ∧
     (clearable → film = true → (s.sensors d).driveFault = false → hold → does (u .deferred) .ok) ∧
     (clearable → film = true → (s.sensors d).driveFault = false → ¬ hold → does (u .moving) .ok) ∧
     (clearable → film = true → (s.sensors d).driveFault = true → deckUnused s d = true →
       does (haltedAs (u k.motion) d .driveFault) .ok) ∧
     (clearable → film = false → deckLeft s d = true → entryTagged s d = true → does (unmountedAs s d) .ok))

/-- The admissions of the five kinds that pass R128 and R129 (R130): the lowest-numbered FREE ticket is set, joins the tail of
the list, and the entry's count rises; a ticket for a LISTED roll waits for it, one for a MOUNTED roll is QUEUED, may displace a
less urgent one (R157), and is at once among those the scheduler may choose (R148). What the scheduler then does: one action
after another (at most 128), deck A before deck B, the requests last, and then path wait: that order is the model's choice (log
16). The request flag and path wait (R147), where a held failure withdraws the request of a track sweep (log 18), and path wait
shows the ticket's own request alone (log 17). An idle scheduler takes the one ticket it may choose: a LOCATE or a FETCH whose
film must move enters MOVING and its deck SHUTTLING, and the FETCH, where no lens is to move first, raises the request and waits
for the path unless it is granted at once. -/
def Obligations.AdmissionsTaken : Prop :=
  (∀ (s : State) (slot priority options : Byte) (k : Slot) (t : TicketNo) (first last target : Half),
     linkIdle s = true → slot.toNat = k.val → priority.toNat ≤ 3 → lowestFreeTicket s t = true →
     (s.entry k).state ≠ .free → (s.entry k).releasePending = false →
     let e := s.entry k
     let known (f : Half) : Prop := 1 ≤ f.toNat ∧ f.toNat ≤ 16384 ∧ f.toNat ≤ e.frameCount ∧
       ∀ r, s.record k f.toNat = some r → r.withdrawn = false
     let beyond (f : Half) : Prop := e.frameCount < f.toNat ∧ f.toNat ≤ 16384 ∧ options.getLsbD 0 = true ∧
       e.complete = false ∧ s.record k f.toNat = none
     let goes (i : Instr) (r : Request) (kind : TicketKind) (a b current : Option Nat) : Prop :=
       let u : State := { s with
         tickets := s.tickets.set t
           { state := if e.state = .mounted then .queued else .awaitRoll, kind := some kind, priority := priority.toNat
             slot := some k, first := a, last := b, extend := kind != .index && options.getLsbD 0, current := current
             captured := 0, skipped := 0, soft := 0, firstId := none, lastId := none, pathWait := false
             cancelPending := false, outcome := none, failedFrame := none }
         entries := s.entries.set k { e with ticketCount := e.ticketCount + 1 }
         admission := s.admission ++ [t] }
       let data : List Byte := [BitVec.ofNat 8 t.val, if e.state = .mounted then 2 else 1]
       exec i s = .next (answered ((u.redirect t).settle) r .ok data) ∧
       (schedIdle s = true → e.state = .listed → e.deck = none → exec i s = .next (answered u r .ok data))
     (known first ∨ beyond first →
       goes (.fetch slot first priority options) (.fetch slot first priority options) .fetch (some first.toNat)
         (some first.toNat) (some first.toNat)) ∧
     (known first ∨ beyond first → known last ∨ beyond last → first.toNat ≤ last.toNat →
       goes (.range slot first last priority options) (.range slot first last priority options) .range (some first.toNat)
         (some last.toNat) (some first.toNat)) ∧
     (known first → options.getLsbD 0 = false →
       goes (.locate slot first priority options) (.locate slot first priority options) .locate (some first.toNat)
         (some first.toNat) (some first.toNat) ∧
       goes (.focus slot first priority options) (.focus slot first priority options) .focus (some first.toNat)
         (some first.toNat) (some first.toNat)) ∧
     (options.getLsbD 0 = false → e.complete = false → options.getLsbD 1 = true → 1 ≤ target.toNat →
       target.toNat ≤ 16384 →
       goes (.index slot target priority options) (.index slot target priority options) .index (some target.toNat)
         (some target.toNat) (some e.frameCount)) ∧
     (options.getLsbD 0 = false → e.complete = false → options.getLsbD 1 = false →
       goes (.index slot target priority options) (.index slot target priority options) .index none none
         (some e.frameCount))) ∧
  (∀ (s : State) (d : DeckId),
     let c := s.sched d
     let busy (t : TicketNo) : Prop :=
       ((s.ticket t).kind = some .fetch ∨ (s.ticket t).kind = some .range ∨ (s.ticket t).kind = some .focus) ∧
       ((s.ticket t).state = .moving ∨ (s.ticket t).state = .searching ∨ (s.ticket t).state = .focusing ∨
         (s.ticket t).state = .exposing) ∧ (s.ticket t).cancelPending = false ∧ c.held = none
     let wants : Prop := ∃ t, c.active = some t ∧ busy t
     let wanted : Prop := wants ∨ (c.track ≠ none ∧ c.held = none)
     let asks : Prop := s.opa.requests.get d = true
     let shown (b : Bool) : State := { s with scheds := s.scheds.set d { c with request := b } }
     let waits (t : TicketNo) (b : Bool) : State :=
       { s with tickets := s.tickets.set t { s.ticket t with pathWait := b } }
     (wanted → s.updateRequest d = (shown true).raise d) ∧
     (¬ wanted → s.updateRequest d = (shown false).withdraw d) ∧
     ((wanted ↔ asks) → s.requestAction d = none) ∧
     (¬ (wanted ↔ asks) → s.requestAction d = some (s.updateRequest d)) ∧
     (c.active = none → s.showPathWait d = s) ∧
     (∀ t, c.active = some t →
       (wants → s.opa.holder ≠ some d → s.showPathWait d = waits t true) ∧
       (¬ wants ∨ s.opa.holder = some d → s.showPathWait d = waits t false))) ∧
  (∀ (s : State) (d : DeckId),
     let c := s.sched d
     let chooses : Prop := (s.deck d).state = .ready ∧ c.active = none ∧ s.orderFor d = false ∧
       ∃ k, s.entryOf d = some k ∧ s.choose k ≠ none
     let goesOn : Prop := ∃ t, c.active = some t ∧ c.step = some .track ∧ c.track = none ∧ (s.deck d).state = .ready ∧
       (s.ticket t).cancelPending = false ∧ c.held = none
     (¬ chooses → s.deckAction d =
       (s.continueStage d).or ((s.beginTrack d).or ((s.beginSweep d).or (s.beginCapture d)))) ∧
     (¬ goesOn → s.continueStage d = none) ∧ (c.active = none ∨ c.track = none → s.beginTrack d = none) ∧
     (c.active = none ∨ c.step ≠ some .sweepWait → s.beginSweep d = none) ∧
     (c.active = none ∨ c.step ≠ some .captureWait → s.beginCapture d = none)) ∧
  (∀ (s : State) (n : Nat),
     s.nextAction = (s.deckAction .a).or ((s.deckAction .b).or ((s.requestAction .a).or (s.requestAction .b))) ∧
     State.settleSteps 0 s = s ∧ (s.nextAction = none → State.settleSteps (n + 1) s = s) ∧
     (∀ u, s.nextAction = some u → State.settleSteps (n + 1) s = State.settleSteps n u) ∧
     let u := State.settleSteps 128 s
     let shown : State := { u with scheds :=
       ⟨{ u.scheds.a with request := u.opa.requests.a }, { u.scheds.b with request := u.opa.requests.b }⟩ }
     s.settle = (shown.showPathWait .a).showPathWait .b) ∧
  (∀ (s : State) (d : DeckId) (k : Slot) (t : TicketNo) (frame : Nat) (r : FrameRecord),
     s.scheds = ⟨Sched.reset, Sched.reset⟩ → s.opa.requests = ⟨false, false⟩ → (s.deck d).state = .ready →
     s.orderFor d = false → s.entryOf d = some k → s.choose k = some t → (s.ticket t).slot = some k →
     (s.ticket t).current = some frame → s.record k frame = some r → frame ≤ (s.entry k).frameCount →
     (s.deck d).counter + 4 < r.position ∨ r.position + 4 < (s.deck d).counter →
     (s.deck d.other).state ≠ .ready ∨ (∀ m, s.entryOf d.other = some m → s.choose m = none) →
     let x : Ticket := { s.ticket t with state := .moving, pathWait := false }
     let hold : Bool := s.pins.hold && s.opa.path.selected == d
     let u (asks : Bool) : State := { s with
       tickets := s.tickets.set t x
       scheds := s.scheds.set d ⟨some t, some .shuttle, none, false, false, none, asks, none, false, none, none⟩
       decks := s.decks.set d { s.deck d with
         state := .shuttling, target := some r.position, stopping := false, motion := if hold then .deferred else .moving }
       poolDecks := s.poolDecks.set d { s.pool d with
         watched := some ⟨frame, (s.pool d).found == some frame⟩, found := none } }
     (x.kind = some .locate → s.settle = u false) ∧
     (x.kind = some .fetch → x.cancelPending = false → s.params.policy = .off ∨ r.setpoint = none →
       let v := (u true).raise d
       s.settle = { v with tickets := s.tickets.set t { x with pathWait := decide (v.opa.holder ≠ some d) } }))

/-- The refusals of the admissions, in the order of R128 and R129, with EXTEND set and clear: EXTEND lets FETCH and RANGE name a
frame beyond the count of an entry that is not COMPLETE, and is refused by the other three. -/
def Obligations.AdmissionsRefused : Prop :=
  ∀ (s : State) (slot priority options : Byte) (first last : Half), linkIdle s = true →
    let fetch : Instr × Request := (.fetch slot first priority options, .fetch slot first priority options)
    let others : List (Instr × Request) :=
      [(.locate slot first priority options, .locate slot first priority options),
        (.focus slot first priority options, .focus slot first priority options)]
    let range : Instr × Request := (.range slot first last priority options, .range slot first last priority options)
    let index : Instr × Request := (.index slot first priority options, .index slot first priority options)
    let refused (x : Instr × Request) (c : ResultCode) : Prop := exec x.1 s = .next (answered s x.2 c [])
    let frameOk (f : Half) : Prop := 1 ≤ f.toNat ∧ f.toNat ≤ 16384
    let extend : Prop := options.getLsbD 0 = true
    (16 ≤ slot.toNat ∨ 4 ≤ priority.toNat → ∀ x ∈ range :: index :: fetch :: others, refused x .badArgument) ∧
    (¬ frameOk first → (∀ x ∈ range :: fetch :: others, refused x .badArgument) ∧
      (options.getLsbD 1 = true → refused index .badArgument)) ∧
    (¬ frameOk last → refused range .badArgument) ∧
    (extend → ∀ x ∈ index :: others, refused x .badArgument) ∧
    (∀ k : Slot, slot.toNat = k.val → priority.toNat ≤ 3 →
      let e := s.entry k
      let ticketFree : Prop := ∃ t, (s.ticket t).state = .free
      let listed : Prop := e.state ≠ .free ∧ e.releasePending = false
      let within (f : Half) : Prop := f.toNat ≤ e.frameCount ∨ (extend ∧ e.complete = false)
      let withdrawn (f : Half) : Prop := ∃ r, s.record k f.toNat = some r ∧ r.withdrawn = true
      (frameOk first →
        let single : List (Instr × Request) := if options.getLsbD 0 then [fetch] else fetch :: others
        (¬ ticketFree → ∀ x ∈ single, refused x .full) ∧
        (ticketFree → ¬ listed → ∀ x ∈ single, refused x .notListed) ∧
        (ticketFree → listed → ¬ within first → ∀ x ∈ single, refused x .notFound) ∧
        (ticketFree → listed → within first → withdrawn first → ∀ x ∈ single, refused x .withdrawn)) ∧
      (frameOk first → frameOk last →
        (¬ ticketFree → refused range .full) ∧
        (ticketFree → ¬ listed → refused range .notListed) ∧
        (ticketFree → listed → ¬ within first ∨ ¬ within last → refused range .notFound) ∧
        (ticketFree → listed → within first → within last → withdrawn first ∨ withdrawn last →
          refused range .withdrawn) ∧
        (ticketFree → listed → within first → within last → ¬ withdrawn first → ¬ withdrawn last →
          last.toNat < first.toNat → refused range .badArgument)) ∧
      (¬ extend → options.getLsbD 1 = false ∨ frameOk first →
        (¬ ticketFree → refused index .full) ∧
        (ticketFree → ¬ listed → refused index .notListed) ∧
        (ticketFree → listed → e.complete = true → refused index .state)))

/-- CANCEL (R137 to R141): refused for a ticket that is FREE or final. A ticket that waits is CANCELLED at once, and one that
has a cancel pending, or whose failure is held, ends as it would. In MOVING, SEARCHING and INDEXING the deck is stopped, and the
ticket is CANCELLED at once where that leaves the deck READY; a pending track sweep ends without a skip. A sweep of the ticket
is aborted: at once in LENS and SETTLE, after its order in ORDER. FOCUSING without a sweep and EXPOSING without an order in
flight end at once; with the CAPTURE order in flight only the cancel is set pending. A stop drops the watched record at once, by
the model's choice (log 43). -/
def Obligations.CancelTaken : Prop :=
  ∀ (s : State) (b : Byte), linkIdle s = true →
    let does (u : State) (c : ResultCode) : Prop := exec (.cancel b) s = .next (answered u (.cancel b) c [])
    (16 ≤ b.toNat → does s .badArgument) ∧
    (∀ t : TicketNo, b.toNat = t.val →
      let x := s.ticket t
      (x.state.isLive = false → does s .state) ∧
      (x.state = .awaitRoll ∨ x.state = .queued → does (s.finalize t .cancelled).settle .ok) ∧
      (x.state = .awaitRoll → schedIdle s = true → does (s.finalize t .cancelled) .ok) ∧
      (x.state.isLive = true → x.state ≠ .awaitRoll → x.state ≠ .queued → x.cancelPending = true → does s.settle .ok) ∧
      (∀ d, s.activeAt t = some d → x.cancelPending = false →
        let p : State := { s with tickets := s.tickets.set t { x with cancelPending := true } }
        let c := s.sched d
        let ends (u : State) : Prop := does (u.finalize t .cancelled).settle .ok
        let moves : Prop := (s.deck d).state = .shuttling ∨ (s.deck d).state = .indexing ∨ (s.deck d).state = .searching
        let stops (u : State) : Prop :=
          ((s.deck d).state = .ready → ends u) ∧
          (moves → (s.deck d).motion = .deferred → ends (stoppedAs u d)) ∧
          (moves → (s.deck d).motion ≠ .deferred → does (stoppedAs u d).settle .ok)
        let sweepEnds (track : Bool) : Prop := ∀ w, s.fseq.sweep = some w → w.deck = d → w.track = track →
          (w.phase = .lens ∨ (∃ pos timer, w.phase = .settle pos timer) →
            ends (State.jobEnd { p with fseq := { s.fseq with sweep := none } } d)) ∧
          (∀ pos, w.phase = .order pos →
            does (State.settle { p with fseq := { s.fseq with sweep := some { w with phase := .aborting .cancel } } }) .ok)
        (x.state.isLive = true → x.state ≠ .awaitRoll → x.state ≠ .queued → c.held ≠ none → does p.settle .ok) ∧
        (c.held = none →
          (x.state = .moving ∨ x.state = .searching → stops p) ∧
          (x.state = .indexing → c.track.all (fun tr => !tr.running) = true →
            stops { p with scheds := s.scheds.set d { c with track := none } }) ∧
          (x.state = .indexing → c.track.any (·.running) = true → sweepEnds true) ∧
          (x.state = .focusing → c.step = some .sweep → sweepEnds false) ∧
          (x.state = .focusing → c.step ≠ some .sweep → ends p) ∧
          (x.state = .exposing → c.step ≠ some .capture → ends p) ∧
          (x.state = .exposing → c.step = some .capture → does p.settle .ok))))

/-- COLLECT (R143): BAD_ARGUMENT above 15, STATE for a ticket that is FREE or live; a final ticket is answered whole and is then
FREE, and with the last of them the ticket cause of the attention line ceases. -/
def Obligations.CollectFreesTicket : Prop :=
  ∀ (s : State) (b : Byte), linkIdle s = true →
    (16 ≤ b.toNat → exec (.collect b) s = .next (answered s (.collect b) .badArgument [])) ∧
    (∀ t : TicketNo, b.toNat = t.val →
      let x := s.ticket t
      let final : Prop := x.state = .done ∨ x.state = .failed ∨ x.state = .cancelled
      (¬ final → exec (.collect b) s = .next (answered s (.collect b) .state [])) ∧
      (final →
        let u : State := { s with
          tickets := s.tickets.set t
            { state := .free, kind := none, priority := 0, slot := none, first := none, last := none, extend := false
              current := none, captured := 0, skipped := 0, soft := 0, firstId := none, lastId := none, pathWait := false
              cancelPending := false, outcome := none, failedFrame := none } }
        exec (.collect b) s = .next (answered u (.collect b) .ok (ticketData t x)) ∧
        ((∀ n, n ≠ t → (s.ticket n).state.isFinal = false) → u.finalWaiting = false)))

/-- The final transition of a live ticket (R135, R134), an entry that other tickets name or that is not release pending staying:
the ticket holds its outcome, leaves the list, and its entry's count falls by 1; the deck at which it was active has no active
ticket. A release pending entry without another live ticket is freed (R54, R55), also where the ticket was active at a deck. A
final ticket has no second end (R136). A halt or a removal reaches the deck scheduler (R164, R23): the active ticket fails at
once, or ends CANCELLED where a cancel is pending; while an exposure order of the deck is in flight the failure is held instead.
-/
def Obligations.FinalTransitionAndDeckFailure : Prop :=
  (∀ (s : State) (t : TicketNo) (o : TicketOutcome) (k : Slot),
     let x := s.ticket t
     let e := s.entry k
     let st : TicketState := match o with
       | .completed => .done
       | .cancelled => .cancelled
       | _ => .failed
     let u : State := { s with
       tickets := s.tickets.set t { x with
         state := st, outcome := some o, current := none, pathWait := false, cancelPending := false
         failedFrame := if st = .failed ∧ x.kind ≠ some .index then x.current else none }
       admission := s.admission.filter (· ≠ t)
       entries := s.entries.set k { e with ticketCount := e.ticketCount - 1 } }
     let idle (d : DeckId) : Sched := ⟨none, none, none, false, false, none, (s.sched d).request, none, false, none, none⟩
     (x.state.isLive = false → s.finalize t o = s) ∧
     (x.state.isLive = true → x.slot = some k → e.releasePending = false ∨ 1 < e.ticketCount →
       (s.activeAt t = none → s.finalize t o = u) ∧
       (∀ d, s.activeAt t = some d → s.finalize t o = { u with scheds := s.scheds.set d (idle d) })) ∧
     (x.state.isLive = true → x.slot = some k → e.releasePending = true → e.ticketCount = 1 →
       let freed : State := { u with
         entries := s.entries.set k
           { state := .free, deck := none, tag := none, width := none, frameCount := 0, extent := 0, lastSetpoint := none
             ticketCount := 0, stray := 0, correction := 0, complete := false, indexFull := false, interrupted := false
             releasePending := false }
         chains := s.chains.set k []
         freeCount := s.freeCount + e.frameCount }
       (s.activeAt t = none → s.finalize t o = freed) ∧
       (∀ d, s.activeAt t = some d → s.finalize t o = { freed with scheds := s.scheds.set d (idle d) }))) ∧
  (∀ (s : State) (d : DeckId) (t : TicketNo) (h : HeldOutcome), (s.sched d).active = some t →
     (s.orderFor d = false → (s.ticket t).cancelPending = false →
       s.deckFailed d h = s.finalize t (if h = .halted then .halted else .removed)) ∧
     (s.orderFor d = false → (s.ticket t).cancelPending = true → s.deckFailed d h = s.finalize t .cancelled) ∧
     (s.orderFor d = true → (s.ticket t).cancelPending = false → (s.sched d).held = none →
       s.deckFailed d h = { s with scheds := s.scheds.set d { s.sched d with held := some h } }) ∧
     (s.orderFor d = true → (s.ticket t).cancelPending = true ∨ (s.sched d).held ≠ none → s.deckFailed d h = s))

/-- Selection (R148): of the QUEUED tickets of an entry in the list, the one of the highest priority, and of equal priority the
one nearest the head. Redirect (R157, R154, R14): a ticket that names the deck's entry displaces one of lower priority in MOVING
that has no cancel pending and no failure held; it is then the active ticket and enters MOVING, where the lens is given a target
for a FETCH or RANGE of a record with a setpoint, and the shuttle of a deck under way takes the new target without coming to
rest; a deck in READY shuttles, or arrives at once (R155), and an unconfirmed arrival begins a search, also where the ticket has
searched before (log 36); the lens is given its target before the shuttle (log 14). The work on a chosen ticket, row by row of
the table of R149. INDEXING begins with the shuttle to the last record, or to position 0, and at its arrival, confirmed or not,
the index run is commanded, which ends at once where the film end already shows (R150, R152); FILM AT REST without a stop taken
acts as ARRIVAL there by the model's choice (log 7). -/
def Obligations.ChoiceByPriorityAndOrder : Prop :=
  (∀ (s : State) (k : Slot),
     let waits (u : TicketNo) : Prop := u ∈ s.admission ∧ (s.ticket u).state = .queued ∧ (s.ticket u).slot = some k
     (s.choose k = none ↔ ∀ u, ¬ waits u) ∧
     ∀ t, s.choose k = some t → waits t ∧ ∀ u, waits u → (s.ticket u).priority ≤ (s.ticket t).priority ∧
       ((s.ticket u).priority = (s.ticket t).priority → s.admission.idxOf t ≤ s.admission.idxOf u)) ∧
  (∀ (s : State) (t : TicketNo) (k : Slot) (d : DeckId), (s.ticket t).slot = some k → (s.entry k).deck = some d →
     let x := s.ticket t
     ((s.sched d).active = none → s.redirect t = s) ∧
     (∀ a, (s.sched d).active = some a →
       let y := s.ticket a
       let displaces : Prop := y.state = .moving ∧ y.cancelPending = false ∧ (s.sched d).held = none ∧
         y.priority < x.priority ∧ x.kind ≠ some .index ∧ x.current.getD 0 ≤ (s.entry k).frameCount
       let idle : Sched := ⟨some t, none, none, false, false, none, (s.sched d).request, none, false, none, none⟩
       let u : State := { s with
         tickets := (s.tickets.set a { y with state := .queued, pathWait := false }).set t { x with pathWait := false }
         scheds := s.scheds.set d idle }
       (¬ displaces → s.redirect t = s) ∧
       (displaces → s.redirect t = u.enterMoving d t))) ∧
  (∀ (s : State) (d : DeckId) (t : TicketNo) (k : Slot) (frame : Nat) (r : FrameRecord),
     (s.ticket t).slot = some k → (s.ticket t).current = some frame → s.record k frame = some r →
     (s.deck d).state = .shuttling →
     let x := s.ticket t
     let u : State := { s with
       tickets := s.tickets.set t { x with state := .moving }
       scheds := s.scheds.set d { s.sched d with step := some .shuttle } }
     let goes (v : State) : State := { v with
       decks := v.decks.set d { v.deck d with target := some r.position, stopping := false }
       poolDecks := v.poolDecks.set d { v.pool d with
         watched := some ⟨frame, (s.pool d).found == some frame⟩, found := none } }
     let optics : Prop := (x.kind = some .fetch ∨ x.kind = some .range) ∧ s.params.policy ≠ .off
     (¬ optics ∨ r.setpoint = none → s.enterMoving d t = goes u) ∧
     (∀ p, optics → r.setpoint = some p →
       let m := u.lensMove d p .scheduler
       (m.2 = none → s.enterMoving d t = goes m.1) ∧
       (∀ q, m.2 = some q → (s.sched d).active = some t → s.enterMoving d t =
         goes { m.1 with scheds := m.1.scheds.set d { m.1.sched d with notedLens := some q } }))) ∧
  (∀ (s : State) (d : DeckId) (t : TicketNo) (k : Slot) (frame : Nat) (r : FrameRecord),
     (s.ticket t).slot = some k → (s.ticket t).current = some frame → s.record k frame = some r → (s.deck d).state = .ready →
     let x := s.ticket t
     let u : State := { s with
       tickets := s.tickets.set t { x with state := .moving }
       scheds := s.scheds.set d { s.sched d with step := some .shuttle } }
     let goes (v : State) : Prop :=
       let go := v.shuttle d r.position (some frame)
       (go.2 = none → s.enterMoving d t = go.1) ∧
       (∀ a, go.2 = some a →
         (a.confirmed = true → x.kind = some .locate → s.enterMoving d t = go.1.finalize t .completed) ∧
         (a.confirmed = true → x.kind ≠ some .locate → s.enterMoving d t = go.1.enterFocusing d t) ∧
         (a.confirmed = false → s.enterMoving d t = State.searchFor { go.1 with
           tickets := s.tickets.set t { x with state := .searching }
           scheds := go.1.scheds.set d { go.1.sched d with step := some .search } } d r.position frame))
     let optics : Prop := (x.kind = some .fetch ∨ x.kind = some .range) ∧ s.params.policy ≠ .off
     (¬ optics ∨ r.setpoint = none → goes u) ∧
     (∀ p, optics → r.setpoint = some p →
       let m := u.lensMove d p .scheduler
       (m.2 = none → goes m.1) ∧
       (∀ q, m.2 = some q → (s.sched d).active = some t →
         goes { m.1 with scheds := m.1.scheds.set d { m.1.sched d with notedLens := some q } }))) ∧
  (∀ (s : State) (d : DeckId) (k : Slot) (t : TicketNo),
     let x := s.ticket t
     let e := s.entry k
     let idle : Sched := ⟨some t, none, none, false, false, none, (s.sched d).request, none, false, none, none⟩
     let u : State := { s with tickets := s.tickets.set t { x with pathWait := false }, scheds := s.scheds.set d idle }
     let v : State := { u with tickets := s.tickets.set t { x with pathWait := false, current := some e.frameCount } }
     let begins (w : State) : Prop := s.beginWork d k t = w
     let reached : Prop := ∃ n, x.first = some n ∧ n ≤ e.frameCount
     ((s.deck d).state = .ready → (s.sched d).active = none → s.orderFor d = false → s.entryOf d = some k →
       s.choose k = some t → s.deckAction d = some (s.beginWork d k t)) ∧
     (x.kind = some .index →
       (reached → begins (v.finalize t .completed)) ∧
       (¬ reached → e.complete = true → x.first = none → begins (u.finalize t .completed)) ∧
       (¬ reached → e.complete = true → x.first ≠ none → begins (u.finalize t .notFound)) ∧
       (¬ reached → e.complete = false → begins (v.enterIndexing d t k x.first))) ∧
     (∀ n, x.kind ≠ none → x.kind ≠ some .index → x.current = some n →
       (n ≤ e.frameCount → begins (u.enterMoving d t)) ∧
       (x.kind = some .fetch ∨ x.kind = some .range → e.frameCount < n →
         (e.complete = true → begins (u.finalize t .notFound)) ∧
         (e.complete = false → begins (u.enterIndexing d t k (some n)))))) ∧
  (∀ (s : State) (d : DeckId) (t : TicketNo) (k : Slot) (target : Option Nat),
     let u : State := { s with
       tickets := s.tickets.set t { s.ticket t with state := .indexing }
       scheds := s.scheds.set d { s.sched d with step := some .approach, indexTarget := target, targetReached := false } }
     let goes (x : State × Option Arrived) : Prop :=
       (x.2 = none → s.enterIndexing d t k target = x.1) ∧ (x.2 ≠ none → s.enterIndexing d t k target = x.1.startRun d)
     (∀ q, (s.chain k).getLast? = some q → goes (u.shuttle d q.position (some q.frame))) ∧
     (s.chain k = [] → goes (u.shuttle d 0 none))) ∧
  (∀ (s : State) (d : DeckId) (target : Nat), running s = true → (s.sched d).active ≠ none →
     (s.sched d).step = some .approach → (s.deck d).state = .shuttling → (s.deck d).motion = .moving →
     (s.deck d).stopping = false → (s.deck d).target = some target → (s.deck d).counter ≤ target + 4 →
     target ≤ (s.deck d).counter + 4 →
     let r := readyAs s d
     let u : State := { r with poolDecks := r.poolDecks.set d { r.pool d with watched := none } }
     exec (.arrival d) s = .next (u.startRun d).settle ∧ exec (.filmAtRest d) s = .next (u.startRun d).settle) ∧
  (∀ (s : State) (d : DeckId), (s.deck d).state = .ready →
     let c := s.sched d
     let runs (met : Bool) : State := { s with scheds := s.scheds.set d { c with step := some .run, filmEndMet := met } }
     ((s.sensors d).filmEnd = false → s.startRun d = runBegun (runs false) d) ∧
     (∀ t n, (s.sensors d).filmEnd = true → c.active = some t → s.entryOf d = some n →
       let u : State := { runs true with entries := s.entries.set n { s.entry n with complete := true } }
       let isIndex : Prop := (s.ticket t).kind = some .index
       let ends (w : State) : Prop := s.startRun d = w
       ((s.ticket t).cancelPending = true → ends (u.finalize t .cancelled)) ∧
       ((s.ticket t).cancelPending = false →
         (isIndex → c.indexTarget = none ∨ c.targetReached = true → ends (u.finalize t .completed)) ∧
         (¬ isIndex → c.targetReached = true → ends (u.enterMoving d t)) ∧
         (¬ isIndex ∨ c.indexTarget ≠ none → c.targetReached = false → ends (u.finalize t .notFound)))))

/-! ## Events at the decks -/

/-- Cartridge detection in EMPTY (R4, R5): a contact that changes starts the seating or the disagreement time afresh; the
seating time's end latches the kind and records SEATED; the disagreement time's end records SEAT_FAULT once. -/
def Obligations.CartridgeDetected : Prop :=
  ∀ (s : State) (d : DeckId), running s = true → (s.deck d).state = .empty →
    let k := s.deck d
    (∀ made : Bool,
      ((s.sensors d).seat1 ≠ made →
        let agree := made == (s.sensors d).seat2
        exec (.seatContactChange d .seat1 made) s = .next { s with
          deckPins := s.deckPins.set d { s.sensors d with seat1 := made }
          decks := s.decks.set d { k with
            seatFaultRecorded := if agree then false else k.seatFaultRecorded
            seating := if agree && made then some ⟨100, 0⟩ else none
            disagreement := if agree then none else some ⟨1000, 0⟩ } }) ∧
      ((s.sensors d).seat2 ≠ made →
        let agree := made == (s.sensors d).seat1
        exec (.seatContactChange d .seat2 made) s = .next { s with
          deckPins := s.deckPins.set d { s.sensors d with seat2 := made }
          decks := s.decks.set d { k with
            seatFaultRecorded := if agree then false else k.seatFaultRecorded
            seating := if agree && made then some ⟨100, 0⟩ else none
            disagreement := if agree then none else some ⟨1000, 0⟩ } })) ∧
    (k.seating.isSome = true → ∀ kind1 kind2 : Bool,
      exec (.seatingTimeEnd d kind1 kind2) s = .next { s with decks := s.decks.set d { k with
        state := .seated, seating := none, disagreement := none, events := { k.events with seated := true }
        kind := some (if kind2 then .unsupported else if kind1 then .mm35 else .mm16) } }) ∧
    (k.disagreement.isSome = true →
      exec (.seatFault d) s = .next { s with decks := s.decks.set d { k with
        disagreement := none, seatFaultRecorded := true
        events := if k.seatFaultRecorded then k.events else { k.events with seatFault := true } } })

/-- The removal of a cartridge from SEATED (R6): EMPTY, the kind dropped, the counter 0, REMOVED recorded, no entry and no
ticket affected, and detection begun as the contacts stand. -/
def Obligations.RemovalFromSeated : Prop :=
  ∀ (s : State) (d : DeckId) (c : Contact), running s = true → (s.deck d).state = .seated →
    (s.sensors d).contact c = true →
    let k := s.deck d
    let p := (s.sensors d).setContact c false
    exec (.seatContactChange d c false) s = .next { s with
      deckPins := s.deckPins.set d p
      decks := s.decks.set d { k with
        state := .empty, kind := none, counter := 0, anchored := false, events := { k.events with removed := true }
        seating := none
        disagreement := if p.seat1 = p.seat2 then none else some ⟨1000, 0⟩ } }

/-- The removal of a cartridge with film threaded (R7, R53) where no block works for the deck: all that a halt drops, with the
kind and the counter, REMOVED recorded, detection begun, and the tagged entry LISTED and INTERRUPTED, its QUEUED tickets in
AWAIT_ROLL again (R133). A contact that closes on a deck outside EMPTY changes its level alone. -/
def Obligations.RemovalWhileThreaded : Prop :=
  (∀ (s : State) (d : DeckId) (c : Contact), (s.deck d).state ≠ .empty → exec (.seatContactChange d c true) s =
    .next { s with deckPins := s.deckPins.set d ((s.sensors d).setContact c true) }) ∧
  ∀ (s : State) (d : DeckId) (c : Contact), running s = true →
    (s.deck d).state ≠ .empty → (s.deck d).state ≠ .seated → (s.sensors d).contact c = true →
    deckLeft s d = true → entryTagged s d = true →
    let p := (s.sensors d).setContact c false
    let k := s.deck d
    let h := haltedAs s d .runout
    let u : State := { h with
      deckPins := s.deckPins.set d p
      decks := s.decks.set d { h.deck d with
        state := .empty, kind := none, counter := 0, lastHalt := k.lastHalt, events := { k.events with removed := true }
        seating := none
        disagreement := if p.seat1 = p.seat2 then none else some ⟨1000, 0⟩ } }
    (s.entryOf d = none → exec (.seatContactChange d c false) s = .next u) ∧
    (∀ n, s.entryOf d = some n → exec (.seatContactChange d c false) s = .next { u with
      entries := s.entries.set n { s.entry n with state := .listed, deck := none, interrupted := true }
      tickets := s.tickets.map fun t =>
        if t.slot = some n ∧ t.state = .queued then { t with state := .awaitRoll } else t })

/-- One count of film travel (R1, R9, R10, R12, R29): the counter clamps at its bounds and the deck is then unanchored; the
leader travel rises while the leader is sought, and not from the reference mark on, by the model's choice (log 40); the film in
motion has travelled that way; a mark in progress counts on or is abandoned. At the leader limit the deck halts instead
(`EventsHaltDeck`). A deck with an entry in READY, SHUTTLING, INDEXING or SEARCHING, with no mark in progress after the count
(R40, R41, R42): the extent rises behind a run's film, also at the forward count that abandons a mark, by the model's choice
(log 41); where the counter has changed, or the count has abandoned a mark, records whose window now contains the counter join
the crossing set, those whose window it has left leave it, and one that leaves unmatched, neither excused nor in SEARCHING, has
a miss more. A count clamped at a bound changes no counter, and by itself leaves the set as it is. With a mark in progress the
set and the misses are held; a record whose window the count has left is then excused only in SEARCHING (log 10). -/
def Obligations.EncoderCountsTaken : Prop :=
  ∀ (s : State) (d : DeckId) (dir : Direction), running s = true →
    let k := s.deck d
    let m := s.mark d
    let seeks : Bool := (k.state == .threading && k.phase == some .advance && k.motion == .moving) ||
      (k.state == .identifying && k.reading.isNone)
    let leader : Nat := if dir = .forward ∧ seeks = true then min 60000 (k.leaderTravel + 1) else k.leaderTravel
    let k₁ : Deck := match dir with
      | .forward => if 2097151 ≤ k.counter then { k with counter := 2097151, anchored := false }
          else { k with counter := k.counter + 1 }
      | .backward => if k.counter = 0 then { k with anchored := false } else { k with counter := k.counter - 1 }
    let k' : Deck := { k₁ with leaderTravel := leader, travel := if k.motion = .moving then some dir else k.travel }
    let m' : Mark := { m with
      lastDirection := some dir
      inProgress := match m.inProgress with
        | some x => if x.direction = dir then some { x with travel := x.travel + 1 } else none
        | none => none }
    let counted : State := { s with decks := s.decks.set d k', marks := s.marks.set d m' }
    let does (t : State) : Prop := exec (.encoderCount d dir) s = .next t
    (k.state = .empty → does s) ∧
    (k.state ≠ .empty → s.power d = false → does { s with decks := s.decks.set d k' }) ∧
    (s.power d = true → k.state.matching = false → ¬ (seeks = true ∧ 60000 ≤ leader) → does counted) ∧
    (k.state.matching = true → s.entryOf d = none → does counted) ∧
    (∀ n, k.state.matching = true → s.entryOf d = some n →
      let set := (s.pool d).crossing
      let near (r : FrameRecord) : Bool := inWindow s r k'.counter
      let moves : Prop := k'.counter ≠ k.counter
      (m'.inProgress = none →
        let member (r : FrameRecord) : Option Crossing := set.find? fun x => x.frame == r.frame
        let missed (r : FrameRecord) : Bool :=
          !near r && (member r).any (fun x => !x.matched && !x.excused) && k.state != .searching
        let set' : List Crossing := (s.chain n).filterMap fun r =>
          if near r then some ⟨r.frame, (member r).any (·.matched), false⟩ else none
        let rises : Prop := dir = .forward ∧ k.state = .indexing ∧ k.motion ≠ .deferred ∧ (s.pool d).exhausted = false ∧
          (s.entry n).extent < k'.counter - 1
        let joined : State := { counted with
          chains := s.chains.set n ((s.chain n).map fun r => if missed r then missedAs r else r)
          poolDecks := s.poolDecks.set d { s.pool d with crossing := set' } }
        let raised (t : State) : State :=
          { t with entries := s.entries.set n { s.entry n with extent := k'.counter - 1 } }
        (moves ∨ m.inProgress ≠ none → (¬ rises → does joined) ∧ (rises → does (raised joined))) ∧
        (¬ moves → m.inProgress = none → (¬ rises → does counted) ∧ (rises → does (raised counted)))) ∧
      (m'.inProgress ≠ none → ¬ moves → does counted) ∧
      (m'.inProgress ≠ none → moves →
        let held (x : Crossing) : Crossing := match s.record n x.frame with
          | none => x
          | some r =>
            if near r then { x with excused := false }
            else if inWindow s r k.counter then { x with excused := k.state == .searching }
            else x
        does { counted with poolDecks := s.poolDecks.set d { s.pool d with crossing := set.map held } }))

/-- The events that halt a powered deck for which no block works (R9, R10, R18, R21, R22, R23): a reading that brings the
excursion counter to its limit, a drive fault, the film end in SHUTTLING or SEARCHING, and the leader travel limit: the encoder
count that brings the leader travel to 60,000, and the row LEADER TRAVEL LIMIT, which stands for the counts that remain to it,
taken together: that is the model's choice (log 6). -/
def Obligations.EventsHaltDeck : Prop :=
  ∀ (s : State) (d : DeckId), running s = true → s.power d = true → deckUnused s d = true →
    let k := s.deck d
    let b := s.params.bands.get d
    (∀ reading : BitVec 10, reading.toNat < b.low ∨ b.high < reading.toNat → b.limit ≤ min 15 (k.excursion + 1) →
      let u := haltedAs { s with decks := s.decks.set d { k with excursion := min 15 (k.excursion + 1) } } d
        (if b.high < reading.toNat then .tensionHigh else .tensionLow)
      exec (.tensionTrip d reading) s = .next u ∧ exec (.tensionReading d reading) s = .next u) ∧
    exec (.driveFault d true) s = .next (haltedAs
      { s with deckPins := s.deckPins.set d { s.sensors d with driveFault := true } } d .driveFault) ∧
    (k.state = .shuttling ∨ k.state = .searching → (s.sensors d).filmEnd = false →
      exec (.filmEndFires d) s = .next (haltedAs
        { s with deckPins := s.deckPins.set d { s.sensors d with filmEnd := true } } d .runout)) ∧
    ((k.state = .threading ∧ k.phase = some .advance ∧ k.motion = .moving) ∨ (k.state = .identifying ∧ k.reading = none) →
      59999 ≤ k.leaderTravel → exec (.encoderCount d .forward) s = .next (haltedAs { s with decks := s.decks.set d { k with
        counter := min 2097151 (k.counter + 1), leaderTravel := 60000 } } d .noLeader)) ∧
    (k.state = .threading → k.phase = some .advance → k.motion = .moving →
      exec (.leaderTravelLimit d) s = .next (haltedAs { s with decks := s.decks.set d { k with
        counter := min 2097151 (k.counter + (60000 - k.leaderTravel)), leaderTravel := 60000 } } d .noLeader)) ∧
    (k.state = .identifying → k.reading = none →
      exec (.leaderTravelLimit d) s = .next (haltedAs { s with decks := s.decks.set d { k with
        counter := min 2097151 (k.counter + (60000 - k.leaderTravel)), leaderTravel := 60000 } } d .noLeader))

/-- Tension readings that do not trip (R21), and levels of the drive fault input that do not halt (R22). By the model's choice
TENSION TRIP with a reading that does not trip is taken as the reading it is (log 7), and a reading with power off has no effect
(log 5). -/
def Obligations.TensionReadingsCounted : Prop :=
  ∀ (s : State) (d : DeckId) (reading : BitVec 10), running s = true →
    let k := s.deck d
    let b := s.params.bands.get d
    let inBand : Prop := b.low ≤ reading.toNat ∧ reading.toNat ≤ b.high
    let counted (n : Nat) : State := { s with decks := s.decks.set d { k with excursion := n } }
    let both (t : State) : Prop :=
      exec (.tensionReading d reading) s = .next t ∧ exec (.tensionTrip d reading) s = .next t
    (s.power d = false → both s) ∧
    (s.power d = true → inBand → both (counted 0)) ∧
    (s.power d = true → ¬ inBand → min 15 (k.excursion + 1) < b.limit → both (counted (min 15 (k.excursion + 1)))) ∧
    (∀ active : Bool, s.power d = false ∨ active = false → exec (.driveFault d active) s =
      .next { s with deckPins := s.deckPins.set d { s.sensors d with driveFault := active } })

/-- The film sensors (R18, R16, R9): a firing sets COMPLETE and stops the run in INDEXING, and has no effect but its level in
the states that ignore it; a sensor that shows the end already does not fire; the other two edges only set their level. That the
stop drops the watched record at once is the model's choice (log 43). -/
def Obligations.FilmSensorsTaken : Prop :=
  ∀ (s : State) (d : DeckId),
    let k := s.deck d
    let shows : State := { s with deckPins := s.deckPins.set d { s.sensors d with filmEnd := true } }
    ((s.sensors d).filmEnd = true → exec (.filmEndFires d) s = .next s) ∧
    ((s.sensors d).filmEnd = false → running s = true → k.state ≠ .indexing → k.state ≠ .shuttling → k.state ≠ .searching →
      exec (.filmEndFires d) s = .next shows) ∧
    ((s.sensors d).filmEnd = false → running s = true → k.state = .indexing → k.motion = .moving →
      let stopped : State := { shows with
        decks := s.decks.set d { k with runMetEnd := true, target := none, search := none, stopping := true }
        poolDecks := s.poolDecks.set d { s.pool d with watched := none, searchRecord := none }
        marks := s.marks.set d { s.mark d with searchReference := none, searchCandidate := none } }
      (s.entryOf d = none → exec (.filmEndFires d) s = .next stopped) ∧
      (∀ n, s.entryOf d = some n → exec (.filmEndFires d) s =
        .next { stopped with entries := s.entries.set n { s.entry n with complete := true } })) ∧
    ((s.sensors d).filmEnd = false → running s = true → k.state = .indexing → k.motion = .deferred → schedIdle s = true →
      let stopped : State := { shows with
        decks := s.decks.set d { k with
          state := .ready, target := none, stopping := false, search := none, motion := .still, runMetEnd := false
          travel := none }
        poolDecks := s.poolDecks.set d { s.pool d with
          watched := none, searchRecord := none, runExtent := none, exhausted := false }
        marks := s.marks.set d { s.mark d with searchReference := none, searchCandidate := none } }
      (s.entryOf d = none → exec (.filmEndFires d) s = .next stopped) ∧
      (∀ n, s.entryOf d = some n → exec (.filmEndFires d) s =
        .next { stopped with entries := s.entries.set n { s.entry n with complete := true } })) ∧
    exec (.filmEndCleared d) s = .next { s with deckPins := s.deckPins.set d { s.sensors d with filmEnd := false } } ∧
    exec (.filmInGateShowsFilm d) s = .next { s with deckPins := s.deckPins.set d { s.sensors d with filmInGate := true } }

/-- The film-in-gate sensor shows no film (R9, R20): a threading's rewind phase turns into its forward advance; a REMOUNT rewind
passes into threading; an UNMOUNT rewind ends with power off and the tagged entry released, its QUEUED tickets in AWAIT_ROLL
again (R53, R133); else only the level changes. Out of either rewind a deck that has taken no stop drives forward (R9, R20; log
37). -/
def Obligations.FilmInGateClearedEndsRewind : Prop :=
  ∀ (s : State) (d : DeckId), running s = true →
    let k := s.deck d
    let m := s.mark d
    let cleared : State := { s with deckPins := s.deckPins.set d { s.sensors d with filmInGate := false } }
    (k.motion ≠ .moving ∨ (k.state ≠ .threading ∧ k.state ≠ .rewinding) ∨ (k.state = .threading ∧ k.phase ≠ some .rewind) →
      exec (.filmInGateCleared d) s = .next cleared) ∧
    (k.motion = .moving → k.state = .threading → k.phase = some .rewind → exec (.filmInGateCleared d) s =
      .next { cleared with decks := s.decks.set d { k with phase := some .advance, leaderTravel := 0 } }) ∧
    (k.motion = .moving → k.state = .rewinding → k.purpose = some .remount → exec (.filmInGateCleared d) s =
      .next { cleared with decks := s.decks.set d { k with
        state := .threading, purpose := none, identification := some .remount, phase := some .advance
        leaderTravel := 0 } }) ∧
    (∀ t, exec (.filmInGateCleared d) s = .next t → k.motion = .moving → k.stopping = false →
      (k.state = .threading → k.phase = some .rewind → s.capstan d = .drive .backward ∧ t.capstan d = .drive .forward) ∧
      (k.state = .rewinding → k.purpose = some .remount →
        s.capstan d = .drive .backward ∧ t.capstan d = .drive .forward)) ∧
    (k.motion = .moving → k.state = .rewinding → k.purpose = some .unmount → deckLeft s d = true →
      entryTagged s d = true → exec (.filmInGateCleared d) s =
        .next (unmountedAs { cleared with
          decks := s.decks.set d { k with
            anchored := false, target := none, stopping := false, purpose := none, identification := none, search := none
            motion := .still, phase := none, reading := none, runMetEnd := false, travel := none }
          lenses := s.lenses.set d .unhomed
          marks := s.marks.set d { m with
            accepted := none, candidate := false, inProgress := none, lastDirection := none } } d))

/-- A shuttle command (R12, R14, R43): an arrival at once within the arrival band, else SHUTTLING, its motion deferred where
HOLD applies; in SHUTTLING a redirect, which defers nothing; elsewhere no effect. The capstan of a deck under way (R12, R13,
R14): it drives toward the target as the counter stands, and brakes where the film travels the other way, so that it may
reverse; that it brakes there, at the target and after a stop is how the model shows the output (log 37). The film comes to rest
in SHUTTLING (R13, R155): outside the band the approach goes on; inside it the deck is READY and the arrival reaches the
scheduler: a confirmed LOCATE is COMPLETED, an unconfirmed arrival begins a search, also where the ticket has searched before
(log 36). FILM AT REST without a stop taken acts as ARRIVAL by the model's choice (log 7). -/
def Obligations.ShuttleArrives : Prop :=
  (∀ (s : State) (d : DeckId) (target : Nat) (frame : Option Nat),
     let k := s.deck d
     let near : Prop := k.counter ≤ target + 4 ∧ target ≤ k.counter + 4
     let hold : Prop := s.pins.hold = true ∧ s.opa.path.selected = d
     let watch : Option Watched := frame.map fun n => ⟨n, (s.pool d).found == some n⟩
     let pool (w : Option Watched) : Pair PoolDeck := s.poolDecks.set d { s.pool d with watched := w, found := none }
     let sets (m : Motion) : State := { s with
       decks := s.decks.set d { k with state := .shuttling, target := some target, stopping := false, motion := m }
       poolDecks := pool watch }
     let seen : Prop := ∃ n, frame = some n ∧ ((s.pool d).found = some n ∨
       ∃ x ∈ (s.pool d).crossing, x.frame = n ∧ x.matched = true)
     (k.state = .ready → near → ∃ a : Arrived, s.shuttle d target frame = ({ s with poolDecks := pool none }, some a) ∧
       (a.confirmed = true ↔ seen)) ∧
     (k.state = .ready → ¬ near → hold → s.shuttle d target frame = (sets .deferred, none)) ∧
     (k.state = .ready → ¬ near → ¬ hold → s.shuttle d target frame = (sets .moving, none)) ∧
     (k.state = .shuttling → s.shuttle d target frame = (sets k.motion, none)) ∧
     (k.state ≠ .ready → k.state ≠ .shuttling → s.shuttle d target frame = (s, none))) ∧
  (∀ (s : State) (d : DeckId) (target : Nat), (s.deck d).state = .shuttling →
     let k := s.deck d
     (k.motion ≠ .moving → s.capstan d = .idle) ∧
     (k.motion = .moving → k.stopping = true → s.capstan d = .brake) ∧
     (k.motion = .moving → k.stopping = false → k.target = some target →
       (k.counter < target → k.travel ≠ some .backward → s.capstan d = .drive .forward) ∧
       (target < k.counter → k.travel ≠ some .forward → s.capstan d = .drive .backward) ∧
       (k.counter < target → k.travel = some .backward → s.capstan d = .brake) ∧
       (target < k.counter → k.travel = some .forward → s.capstan d = .brake) ∧
       (k.counter = target → s.capstan d = .brake))) ∧
  (∀ (s : State) (d : DeckId) (target : Nat), running s = true → (s.deck d).state = .shuttling →
     (s.deck d).motion = .moving → (s.deck d).stopping = false → (s.deck d).target = some target →
     let k := s.deck d
     let near : Prop := k.counter ≤ target + 4 ∧ target ≤ k.counter + 4
     let both (t : State) : Prop := exec (.arrival d) s = .next t ∧ exec (.filmAtRest d) s = .next t
     let r := readyAs s d
     let u : State := { r with poolDecks := r.poolDecks.set d { r.pool d with watched := none } }
     let confirmed : Prop := ∃ w, (s.pool d).watched = some w ∧
       (w.seen = true ∨ ∃ x ∈ (s.pool d).crossing, x.frame = w.frame ∧ x.matched = true)
     (¬ near → both { s with decks := s.decks.set d { k with travel := none } }) ∧
     (near → schedIdle s = true → both u) ∧
     (∀ t, near → (s.sched d).active = some t → (s.sched d).step = some .shuttle →
       (confirmed → (s.ticket t).kind = some .locate → both (u.finalize t .completed).settle) ∧
       (confirmed → (s.ticket t).kind ≠ some .locate → both (u.enterFocusing d t).settle) ∧
       (∀ n frame q, ¬ confirmed → (s.ticket t).slot = some n → (s.ticket t).current = some frame →
         s.record n frame = some q →
         both ({ u with
           tickets := s.tickets.set t { s.ticket t with state := .searching }
           scheds := s.scheds.set d { s.sched d with step := some .search } }.searchFor d q.position frame).settle)))

/-- A search command (R17, R44, R3) to a READY deck: the span is clamped, the deck is SEARCHING on leg 1, its motion deferred
where HOLD applies, the record is sought, and the found record is dropped. What the pool makes of the search candidate (R45), by
the search record's condition: where the search succeeds the record is the deck's found record, and the record, the extent, the
correction count, the counter and the anchored flag follow; where it fails the record has a miss more. The misses that the
correction of a VERIFIED record leaves to the other records go by the model's reading (log 10); they are said of chains numbered
as R65 numbers them. -/
def Obligations.SearchCommandAndChoice : Prop :=
  (∀ (s : State) (d : DeckId) (target frame : Nat),
     let k := s.deck d
     let hold : Prop := s.pins.hold = true ∧ s.opa.path.selected = d
     let u (m : Motion) : State := { s with
       decks := s.decks.set d { k with
         state := .searching, stopping := false, motion := m
         search := some ⟨((target - s.params.span : Nat) : Int), ((min (target + s.params.span) 2097151 : Nat) : Int),
           false⟩ }
       marks := s.marks.set d { s.mark d with searchReference := some (target : Int), searchCandidate := none }
       poolDecks := s.poolDecks.set d { s.pool d with searchRecord := some frame, found := none } }
     (k.state ≠ .ready → s.searchFor d target frame = s) ∧
     (k.state = .ready → hold → s.searchFor d target frame = u .deferred) ∧
     (k.state = .ready → ¬ hold → s.searchFor d target frame = u .moving)) ∧
  (∀ (s : State) (d : DeckId) (n : Slot) (frame : Nat) (r : FrameRecord), s.entryOf d = some n →
     (s.pool d).searchRecord = some frame → s.record n frame = some r →
     let e := s.entry n
     let u : State := { s with
       marks := s.marks.set d { s.mark d with searchReference := none, searchCandidate := none }
       poolDecks := s.poolDecks.set d { s.pool d with searchRecord := none } }
     let w (f : FrameRecord → FrameRecord) : State :=
       { u with chains := s.chains.set n ((s.chain n).map fun q => if q.frame = frame then f q else q) }
     let found (t : State) : State := { t with poolDecks := t.poolDecks.set d { t.pool d with found := some frame } }
     ((s.mark d).searchCandidate = none → s.searchChoice d = (w missedAs, none)) ∧
     (∀ p, (s.mark d).searchCandidate = some p →
       (r.condition = .damaged → s.searchChoice d = (found (w fun q => { q with missCount := 0 }), some r.position)) ∧
       (r.condition = .seen ∨ r.condition = .declared → orderOk (s.chain n) frame p = false →
         s.searchChoice d = (w fun q => missedAs { q with condition := .damaged }, none)) ∧
       (r.condition = .seen ∨ r.condition = .declared → orderOk (s.chain n) frame p = true →
         let moved := found (w fun q => { q with position := p, condition := .verified, missCount := 0 })
         (frame = e.frameCount ∧ e.extent < p →
           s.searchChoice d = ({ moved with entries := s.entries.set n { e with extent := p } }, some p)) ∧
         (¬ (frame = e.frameCount ∧ e.extent < p) → s.searchChoice d = (moved, some p))) ∧
       (r.condition = .verified →
         let delta : Int := (p : Int) - r.position
         let sum : Int := ((s.deck d).counter : Int) - delta
         let c : Nat := (max 0 (min 2097151 sum)).toNat
         let t := (s.searchChoice d).1
         (s.searchChoice d).2 = some r.position ∧
         (numberLaw s = true → t.chains = s.chains.set n (correctedChain s d n frame c)) ∧
         (t.deck d).counter = c ∧ ((t.deck d).anchored = true ↔ 0 ≤ sum ∧ sum ≤ 2097151) ∧
         (t.pool d).found = some frame ∧ (t.pool d).searchRecord = none ∧ (t.mark d).searchCandidate = none ∧
         (delta = 0 → t.entries = s.entries) ∧
         (delta ≠ 0 → t.entries = s.entries.set n { e with correction := min 65535 (e.correction + 1) }) ∧
         t.tickets = s.tickets ∧ t.opa = s.opa ∧ t.hlp = s.hlp ∧ t.rlp = s.rlp ∧ t.lenses = s.lenses ∧ t.scheds = s.scheds)))

/-- Film at rest after a stop (R15, R152): READY, with the motion's items dropped; the ticket in INDEXING ends CANCELLED where
its cancel is pending, closes in CLOSING, shuttles back in TRACK, and at the film end in RUN closes, completes to the end, or is
NOT_FOUND. The stage goes on after its track sweep (R153). Film at rest at the end of an identification (R10, R11, R52): the
catalogue resolves the reading, RESUMED where a REMOUNT agrees with the deck's entry, else with that entry, a tagged one,
released first; the outcome is written and MOUNTED recorded. In step TRACK at the film end the track sweep goes first also where
the target has been reached, by the model's choice (log 35). -/
def Obligations.FilmComesToRest : Prop :=
  (∀ (s : State) (d : DeckId), running s = true → (s.deck d).motion = .moving →
     let k := s.deck d
     let c := s.sched d
     let does (u : State) : Prop := exec (.filmAtRest d) s = .next u
     (k.state = .shuttling ∨ k.state = .indexing ∨ k.state = .searching → k.stopping = true →
       let filmEnd : Prop := k.state = .indexing ∧ k.runMetEnd = true
       (schedIdle s = true → does (readyAs s d)) ∧
       (∀ t, c.active = some t →
         let r := readyAs s d
         let c' : Sched := { c with filmEndMet := if k.state = .indexing ∧ k.runMetEnd = true then true else c.filmEndMet }
         let u : State := { r with scheds := s.scheds.set d c' }
         let isIndex : Prop := (s.ticket t).kind = some .index
         let closes : Prop :=
           (isIndex → does (u.finalize t .completed).settle) ∧ (¬ isIndex → does (u.enterMoving d t).settle)
         ((s.ticket t).cancelPending = true → does (u.finalize t .cancelled).settle) ∧
         ((s.ticket t).cancelPending = false →
           (c.step = some .closing → closes) ∧
           (c.step = some .run → filmEnd → c.targetReached = true → closes) ∧
           (c.step = some .run → filmEnd → c.targetReached = false →
             (isIndex ∧ c.indexTarget = none → does (u.finalize t .completed).settle) ∧
             (¬ (isIndex ∧ c.indexTarget = none) → does (u.finalize t .notFound).settle)) ∧
           (c.step = some .run → ¬ filmEnd → does u.settle) ∧
           (∀ tr, c.step = some .track → c.track = some tr → tr.running = false →
             let back := u.shuttle d tr.pos (some tr.frame)
             (back.2 = none → does back.1.settle) ∧
             (back.2 ≠ none → does (State.settle
               { back.1 with scheds := s.scheds.set d { c' with track := some { tr with arrived := true } } }))) ∧
           (c.step = some .track → c.track = none → does u.settle) ∧
           (c.step ≠ some .closing → c.step ≠ some .run → c.step ≠ some .track → does u.settle)))) ∧
     (∀ r, k.state = .identifying → k.reading = some r →
       let x := s.resolve d k.identification r
       does (State.rebuildCrossing { x.1 with decks := x.1.decks.set d { x.1.deck d with
         state := .ready, identification := none, stopping := false, motion := .still, reading := none, travel := none
         lastMount := some x.2, events := { (x.1.deck d).events with mounted := true } } } d).settle)) ∧
  (∀ (s : State) (d : DeckId) (r : Reading),
     let agrees (n : Slot) : Prop := match r with
       | .untagged => (s.entry n).tag = none
       | .tag t => (s.entry n).tag = some t
     s.resolve d (some .fresh) r = s.resolveFresh d r ∧
     (s.entryOf d = none → s.resolve d (some .remount) r = s.resolveFresh d r) ∧
     (∀ n, s.entryOf d = some n →
       (agrees n → s.resolve d (some .remount) r = (s, .resumed)) ∧
       (¬ agrees n → (s.entry n).tag.isSome = true → s.fseq.sweep.all (fun w => w.deck != d) = true →
         let released : State := { s with
           poolDecks := s.poolDecks.set d { s.pool d with crossing := [], watched := none, found := none, searchRecord := none }
           entries := s.entries.set n { s.entry n with state := .listed, deck := none }
           tickets := s.tickets.map fun t =>
             if t.slot = some n ∧ t.state = .queued then { t with state := .awaitRoll } else t }
         s.resolve d (some .remount) r = released.resolveFresh d r))) ∧
  (∀ (s : State) (d : DeckId) (t : TicketNo), (s.sched d).active = some t → (s.sched d).step = some .track →
     (s.sched d).track = none → (s.deck d).state = .ready → (s.ticket t).cancelPending = false → (s.sched d).held = none →
     let c := s.sched d
     let isIndex : Prop := (s.ticket t).kind = some .index
     (c.targetReached = true → (isIndex → s.continueStage d = some (s.finalize t .completed)) ∧
       (¬ isIndex → s.continueStage d = some (s.enterMoving d t))) ∧
     (c.targetReached = false → c.filmEndMet = true →
       (isIndex ∧ c.indexTarget = none → s.continueStage d = some (s.finalize t .completed)) ∧
       (¬ (isIndex ∧ c.indexTarget = none) → s.continueStage d = some (s.finalize t .notFound))) ∧
     (c.targetReached = false → c.filmEndMet = false → (s.sensors d).filmEnd = false →
       let u (m : Motion) : State := { s with
         scheds := s.scheds.set d { c with step := some .run }
         decks := s.decks.set d { s.deck d with state := .indexing, stopping := false, runMetEnd := false, motion := m }
         poolDecks := s.poolDecks.set d { s.pool d with
           runExtent := (s.entryOf d).map fun n => (s.entry n).extent, exhausted := false } }
       (s.pins.hold = true ∧ s.opa.path.selected = d → s.continueStage d = some (u .deferred)) ∧
       (¬ (s.pins.hold = true ∧ s.opa.path.selected = d) → s.continueStage d = some (u .moving))))

/-- The turn of a search, its completion at the high end, and the capstan in its legs (R17, R45, R156): a rest short of the high
end by more than the arrival band is no completion, by the model's choice (log 30); at the completion the deck is READY and the
pool chooses; a ticket in step SEARCH is LOST where the search failed, and else shuttles to the record, whose arrival is then
confirmed. SEARCH LOW END TURN turns the search at any counter, by the model's choice (log 38). Leg 1 drives backward above the
low end and forward at or below it, leg 2 forward, whichever way the film still travels; at the high end the capstan brakes (log
37). -/
def Obligations.SearchTurnsAndCompletes : Prop :=
  ∀ (s : State) (d : DeckId) (legs : SearchLegs), running s = true → (s.deck d).state = .searching →
    (s.deck d).motion = .moving → (s.deck d).search = some legs →
    let k := s.deck d
    let does (u : State) : Prop := exec (.searchCompletion d) s = .next u
    let atEnd : Prop := min legs.high 2097151 ≤ (k.counter : Int) + 4
    let short : State := { s with decks := s.decks.set d { k with travel := none } }
    let x := (readyAs s d).searchChoice d
    exec (.searchLowEndTurn d) s =
      .next { s with decks := s.decks.set d { k with search := some { legs with leg2 := true } } } ∧
    (k.stopping = false → legs.leg2 = false ∨ ¬ atEnd → does short) ∧
    (k.stopping = false → legs.leg2 = true → atEnd →
      (schedIdle s = true → does x.1) ∧
      (∀ t, (s.sched d).active = some t → (s.sched d).step = some .search →
        (x.2 = none → does (x.1.finalize t .lost).settle) ∧
        (∀ pos frame, x.2 = some pos → (s.pool d).searchRecord = some frame →
          let v : State := { x.1 with
            tickets := s.tickets.set t { s.ticket t with state := .moving }
            scheds := s.scheds.set d { s.sched d with step := some .shuttle } }
          let go := v.shuttle d pos (some frame)
          (go.2 = none → does go.1.settle) ∧
          (go.2 ≠ none → (s.ticket t).kind = some .locate → does (go.1.finalize t .completed).settle) ∧
          (go.2 ≠ none → (s.ticket t).kind ≠ some .locate → does (go.1.enterFocusing d t).settle)))) ∧
    (k.stopping = false →
      (legs.leg2 = false → legs.low < k.counter → s.capstan d = .drive .backward) ∧
      (legs.leg2 = false → (k.counter : Int) ≤ legs.low → s.capstan d = .drive .forward) ∧
      (legs.leg2 = true → (k.counter : Int) < legs.high → s.capstan d = .drive .forward) ∧
      (legs.leg2 = true → legs.high ≤ k.counter → s.capstan d = .brake))

/-- The resolution of a FRESH identification (R50, R51, R49), row by row. A transient entry released at the end of an UNMOUNT
rewind (R54): its live tickets but those whose end is held, in the order of the list, fail with UNLISTED, and it is freed, or,
where a ticket of it remains, LISTED with release pending. -/
def Obligations.EntriesMadeAndReleased : Prop :=
  (∀ (s : State) (d : DeckId),
     let width : Option Width := match (s.deck d).kind with
       | some .mm16 => some .mm16
       | some .mm35 => some .mm35
       | _ => none
     let full : Prop := ∀ n, (s.entry n).state ≠ .free
     let made (tag : Option Nat) : Entry :=
       { state := .mounted, deck := some d, tag := tag, width := width, frameCount := 0, extent := 0, lastSetpoint := none
         ticketCount := 0, stray := 0, correction := 0, complete := false, indexFull := false, interrupted := false
         releasePending := false }
     let holds (k : Slot) (t : Nat) : Prop := (s.entry k).tag = some t ∧ ∀ n, (s.entry n).tag = some t → n = k
     (full → s.resolveFresh d .untagged = (s, .catalogueFull)) ∧
     (∀ k, lowestFreeEntry s k = true → (s.resolveFresh d .untagged).2 = .transient ∧
       (s.resolveFresh d .untagged).1.entries = s.entries.set k (made none)) ∧
     (∀ t k, holds k t → (s.entry k).state = .mounted → s.resolveFresh d (.tag t) = (s, .duplicateTag)) ∧
     (∀ t k, holds k t → (s.entry k).state ≠ .mounted → (s.entry k).width ≠ width →
       s.resolveFresh d (.tag t) = (s, .widthMismatch)) ∧
     (∀ t k, holds k t → (s.entry k).state ≠ .mounted → (s.entry k).width = width →
       (s.resolveFresh d (.tag t)).2 = .known ∧
       (s.resolveFresh d (.tag t)).1.entries =
         s.entries.set k { s.entry k with state := .mounted, deck := some d, interrupted := false } ∧
       (s.resolveFresh d (.tag t)).1.tickets = s.tickets.map fun x =>
         if x.slot = some k ∧ x.state = .awaitRoll then { x with state := .queued } else x) ∧
     (∀ t, (∀ n, (s.entry n).tag ≠ some t) → full → s.resolveFresh d (.tag t) = (s, .catalogueFull)) ∧
     (∀ t k, (∀ n, (s.entry n).tag ≠ some t) → lowestFreeEntry s k = true →
       (s.resolveFresh d (.tag t)).2 = .newRoll ∧
       (s.resolveFresh d (.tag t)).1.entries = s.entries.set k (made (some t)))) ∧
  (∀ (s : State) (k : Slot), (s.entry k).tag = none →
     let u := (s.unlistedTickets k).foldl (fun s t => s.finalize t .unlisted) s
     (s.unlistedTickets k).Sublist s.admission ∧
     (∀ t, t ∈ s.unlistedTickets k ↔ t ∈ s.admission ∧ (s.ticket t).slot = some k ∧ (s.ticket t).state.isLive = true ∧
       ¬ (∃ d, s.activeAt t = some d ∧
         ((s.sched d).held ≠ none ∨ ((s.ticket t).cancelPending = true ∧ s.orderFor d = true)))) ∧
     ((u.entry k).ticketCount = 0 → s.releaseTransient k = { u with
       entries := u.entries.set k Entry.free
       chains := u.chains.set k []
       freeCount := u.freeCount + (u.entry k).frameCount }) ∧
     ((u.entry k).ticketCount ≠ 0 → s.releaseTransient k = { u with
       entries := u.entries.set k { u.entry k with state := .listed, deck := none, releasePending := true } }))

/-! ## Marks -/

/-- Samples of the mark sensor (R28), and opening edges (R29). By the model's choice MARK OPENING EDGE stands for two samples of
the new level (log 6) and opens a mark also where no level has been accepted yet (log 31), and with power off samples and edges
have no effect (log 5). -/
def Obligations.MarkSamplesAndOpening : Prop :=
  ∀ (s : State) (d : DeckId) (level : Bool), running s = true →
    let m := s.mark d
    let put (x : Mark) : State := { s with marks := s.marks.set d x }
    (s.power d = false → exec (.markSensorSample d level) s = .next s ∧ exec (.markOpeningEdge d) s = .next s ∧
      exec (.markClosingEdge d) s = .next s) ∧
    (s.power d = true →
      (m.accepted = none → exec (.markSensorSample d level) s = .next (put { m with accepted := some level })) ∧
      (m.accepted = some level → exec (.markSensorSample d level) s = .next (put { m with candidate := false })) ∧
      (m.accepted = some (!level) → m.candidate = false →
        exec (.markSensorSample d level) s = .next (put { m with candidate := true })) ∧
      (m.accepted = some (!level) → m.candidate = true → exec (.markSensorSample d level) s =
        exec (if level then .markOpeningEdge d else .markClosingEdge d) s) ∧
      (m.accepted ≠ some true → exec (.markOpeningEdge d) s = .next (put { m with
        accepted := some true, candidate := false
        inProgress := some ⟨m.lastDirection.getD .forward, 0, (s.deck d).counter⟩ })))

/-- The leader reading (R32, R33, R9, R10) of a mark met moving forward, with a width that classifies as `c`: the opening mark,
the digits, a fault, and the reference mark, from which the counter counts and at which the deck takes a stop. That overlength
and fault seen stand as they were at the reference mark is the model's choice (log 32). -/
def Obligations.LeaderMarksRead : Prop :=
  ∀ (s : State) (d : DeckId) (x : MarkInProgress), running s = true → (s.mark d).accepted ≠ some false →
    (s.mark d).inProgress = some x → x.direction = .forward →
    (s.deck d).state = .threading ∧ (s.deck d).phase = some .advance ∨ (s.deck d).state = .identifying →
    let m := s.mark d
    let k := s.deck d
    let closed : Mark := { m with accepted := some false, candidate := false, inProgress := none }
    let good : Mark := { closed with classified := m.classified + 1 }
    let does (k' : Deck) (m' : Mark) : Prop :=
      exec (.markClosingEdge d) s = .next { s with decks := s.decks.set d k', marks := s.marks.set d m' }
    let digit (b : Bool) : Mark :=
      if 20 ≤ m.digits.length then { good with overlength := true } else { good with digits := m.digits ++ [b] }
    let reading : Reading :=
      if m.digits.length = 20 ∧ m.overlength = false ∧ m.faultSeen = false then
        .tag (m.digits.foldl (fun n b => 2 * n + (if b then 1 else 0)) 0)
      else .untagged
    (m.leader = .seek → classify s.params x.travel = .mark .sectionMark →
      does { k with state := .identifying, phase := none, leaderTravel := 0 }
        { good with leader := .collect, digits := [] }) ∧
    (m.leader = .collect → classify s.params x.travel = .mark .minor → does k (digit false)) ∧
    (m.leader = .collect → classify s.params x.travel = .mark .major → does k (digit true)) ∧
    (m.leader = .collect → classify s.params x.travel = .fault →
      does k { closed with fault := m.fault + 1, faultSeen := true }) ∧
    (m.leader = .collect → classify s.params x.travel = .mark .sectionMark →
      does { k with counter := k.counter - x.opening, anchored := true, stopping := true, reading := some reading }
        { good with leader := .idle, digits := [] }) ∧
    (m.leader = .idle ∨ m.leader = .seek → classify s.params x.travel = .mark .minor → does k good)

/-- The effect of a match by class and condition (R35, R36, R37). A mark with no record within the window (R38, R39): a stray at
or below the extent, a new record beyond it in a run, or, where the pool is empty, INDEX_FULL with the extent lowered; elsewhere
it is ignored. The misses that the correction of a VERIFIED record leaves to the other records, held while a mark was in
progress and settled by the correction, go by the model's reading (log 10); they are said of chains numbered as R65 numbers
them. -/
def Obligations.MatchedAndUnmatchedMarksTaken : Prop :=
  (∀ (s : State) (d : DeckId) (n : Slot) (r : FrameRecord) (c : MarkClass) (p : Nat),
     let w (f : FrameRecord → FrameRecord) : State :=
       { s with chains := s.chains.set n ((s.chain n).map fun q => if q.frame = r.frame then f q else q) }
     let t := (s.matchRecord d n r c p).1
     let damaged : State := w fun q => { q with condition := .damaged }
     (c ≠ r.cls → t = damaged) ∧
     (c = r.cls → r.condition = .damaged → t = w fun q => { q with missCount := 0 }) ∧
     (c = r.cls → r.condition = .seen ∨ r.condition = .declared → orderOk (s.chain n) r.frame p = false → t = damaged) ∧
     (c = r.cls → r.condition = .seen ∨ r.condition = .declared → orderOk (s.chain n) r.frame p = true →
       let e := s.entry n
       let moved : State := w fun q => { q with position := p, condition := .verified, missCount := 0 }
       (r.frame = e.frameCount ∧ e.extent < p → t = { moved with entries := s.entries.set n { e with extent := p } }) ∧
       (¬ (r.frame = e.frameCount ∧ e.extent < p) → t = moved)) ∧
     (c = r.cls → r.condition = .verified →
       let sum : Int := (s.deck d).counter - ((p : Int) - r.position)
       (numberLaw s = true → s.entryOf d = some n → t.chains = s.chains.set n (correctedChain s d n r.frame (max 0 (min 2097151 sum)).toNat)) ∧
       (t.deck d).counter = (max 0 (min 2097151 sum)).toNat ∧
       ((t.deck d).anchored = true ↔ 0 ≤ sum ∧ sum ≤ 2097151) ∧
       (p = r.position → t.entries = s.entries) ∧
       (p ≠ r.position → t.entries = s.entries.set n { s.entry n with
         correction := min 65535 ((s.entry n).correction + 1) }) ∧
       t.tickets = s.tickets ∧ t.opa = s.opa ∧ t.hlp = s.hlp ∧ t.rlp = s.rlp ∧ t.lenses = s.lenses)) ∧
  (∀ (s : State) (d : DeckId) (n : Slot) (c : MarkClass) (p : Nat),
     let e := s.entry n
     let runs : Prop := (s.deck d).state = .indexing ∧ (s.pool d).exhausted = false
     let put (e' : Entry) : State := { s with entries := s.entries.set n e' }
     (p ≤ e.extent → s.unmatched d n c p = (put { e with stray := min 65535 (e.stray + 1) }, .none)) ∧
     (e.extent < p → ¬ runs → s.unmatched d n c p = (s, .none)) ∧
     (e.extent < p → runs → s.freeCount = 0 → s.unmatched d n c p =
       ({ put { e with indexFull := true
                       extent := max (((s.chain n).getLast?.map (·.position)).getD 0) ((s.pool d).runExtent.getD 0) } with
           poolDecks := s.poolDecks.set d { s.pool d with exhausted := true } }, .exhausted)) ∧
     (e.extent < p → runs → s.freeCount ≠ 0 →
       let h := hierarchy c (s.chain n).getLast?
       let t := (s.unmatched d n c p).1
       (s.unmatched d n c p).2 = .newRecord (e.frameCount + 1) p ∧ t.freeCount = s.freeCount - 1 ∧
       t.entries = s.entries.set n { e with frameCount := e.frameCount + 1, extent := p, indexFull := false } ∧
       t.chains = s.chains.set n (s.chain n ++ [{ slot := n, frame := e.frameCount + 1, position := p, cls := c
                                                  sectionNo := h.1, groupNo := h.2.1, indexNo := h.2.2, condition := .seen
                                                  withdrawn := false, missCount := 0, setpoint := none, source := none
                                                  figure := none, note := 0 }])))

/-- The width classes (R30) and the nearest record, of two equally near the one that stands earlier in the chain (R34). A
closing edge where no record can match (R29, R30, R31): with no mark in progress it is ignored; else the mark is counted by its
width, as the thresholds stand. A closing edge on a deck with an entry in READY, SHUTTLING, INDEXING or SEARCHING: the nearest
record within the window, if there is one, is matched and noted on its crossing and for the watch (R34, R43; one outside the
crossing set joins it: log 11), else the mark is unmatched (R38); in SEARCHING the mark is offered to the noting, after the
correction it made (R44; log 12); the crossing set is then brought up to date (R41, R42; log 10), and a new record or the
exhaustion of the pool is reported. What the scheduler makes of the report (R151, R39, R152): the INDEX ticket's current frame,
the target reached, the track call of R101, and the stop, given after that call (log 22); at the exhaustion the ticket fails
with POOL_FULL in whatever step of INDEXING (log 21), and the run is stopped. A stop drops the watched record at once, by the
model's choice (log 43). -/
def Obligations.MarksClassifiedAndCounted : Prop :=
  ((∀ (p : Params) (w : Nat), p.m1 < p.m2 → p.m2 < p.m3 →
     (classify p w = .noise ↔ w ≤ 1) ∧
     (classify p w = .mark .minor ↔ 2 ≤ w ∧ w ≤ p.m1) ∧
     (1 ≤ p.m1 → (classify p w = .mark .major ↔ p.m1 < w ∧ w ≤ p.m2)) ∧
     (1 ≤ p.m1 → (classify p w = .mark .sectionMark ↔ p.m2 < w ∧ w ≤ p.m3)) ∧
     (1 ≤ p.m1 → (classify p w = .fault ↔ p.m3 < w))) ∧
   ∀ (p : Nat) (chain : List FrameRecord), (nearest p chain = none ↔ chain = []) ∧
     ∀ r, nearest p chain = some r → ∃ before after, chain = before ++ r :: after ∧
       (∀ q ∈ before, distance p r.position < distance p q.position) ∧
       (∀ q ∈ after, distance p r.position ≤ distance p q.position)) ∧
  (∀ (s : State) (d : DeckId), running s = true → s.power d = true → (s.mark d).accepted ≠ some false →
     let m := s.mark d
     let p := s.params
     let put (x : Mark) : State := { s with marks := s.marks.set d x }
     let closed : Mark := { m with accepted := some false, candidate := false, inProgress := none }
     (m.inProgress = none → exec (.markClosingEdge d) s = .next (put closed)) ∧
     (∀ x, m.inProgress = some x → (s.deck d).state = .rewinding ∨ ((s.deck d).state = .ready ∧ s.entryOf d = none) →
       (x.travel ≤ 1 → exec (.markClosingEdge d) s = .next (put { closed with noise := m.noise + 1 })) ∧
       (2 ≤ x.travel → x.travel ≤ p.m3 →
         exec (.markClosingEdge d) s = .next (put { closed with classified := m.classified + 1 })) ∧
       (2 ≤ x.travel → p.m1 < x.travel → p.m2 < x.travel → p.m3 < x.travel →
         exec (.markClosingEdge d) s = .next (put { closed with fault := m.fault + 1 })))) ∧
  (∀ (s : State) (d : DeckId) (n : Slot) (x : MarkInProgress), running s = true → (s.deck d).state.matching = true →
     s.entryOf d = some n → (s.mark d).accepted ≠ some false → (s.mark d).inProgress = some x →
     let m : Mark := { s.mark d with accepted := some false, candidate := false, inProgress := none }
     let put (m' : Mark) : State := { s with marks := s.marks.set d m' }
     let does (u : State) : Prop := exec (.markClosingEdge d) s = .next u
     let searches : Prop := (s.deck d).state = .searching
     let p : Nat := match x.direction with
       | .forward => x.opening
       | .backward => (s.deck d).counter
     (classify s.params x.travel = .noise → does (crossedAs (put { m with noise := m.noise + 1 }) d n)) ∧
     (classify s.params x.travel = .fault → does (crossedAs (put { m with fault := m.fault + 1 }) d n)) ∧
     (∀ c, classify s.params x.travel = .mark c →
       let u := put { m with classified := m.classified + 1 }
       (∀ r, nearest p (s.chain n) = some r → inWindow s r p = true →
         let v := ((matchNoted u d r.frame).matchRecord d n r c p).1
         (¬ searches → does (crossedAs v d n)) ∧
         (searches → r.position ≤ 2097151 → does (crossedAs (v.noteSearch d n c
           (if c = r.cls ∧ r.condition = .verified then r.position else p) (some r.frame)) d n))) ∧
       ((∀ r, nearest p (s.chain n) = some r → inWindow s r p = false) →
         let v := u.unmatched d n c p
         let w := crossedAs v.1 d n
         (searches → does (crossedAs (v.1.noteSearch d n c p none) d n)) ∧
         (¬ searches → v.2 = .none → does w) ∧
         (¬ searches → v.2 = .exhausted → does (w.poolExhausted d).settle) ∧
         (∀ frame pos, ¬ searches → v.2 = .newRecord frame pos → does (w.recordReported d frame pos).settle)))) ∧
  (∀ (s : State) (d : DeckId) (n : Slot) (c : MarkClass) (p : Nat) (matched : Option Nat),
     ((s.pool d).searchRecord = none → s.noteSearch d n c p matched = s) ∧
     (∀ frame legs ref, (s.pool d).searchRecord = some frame → (s.deck d).search = some legs →
       (s.mark d).searchReference = some ref →
       let fits : Prop := (∃ r, s.record n frame = some r ∧ r.cls = c) ∧ legs.low ≤ p ∧ p ≤ legs.high ∧
         (matched = none ∨ matched = some frame)
       let nearer : Prop := ∀ q, (s.mark d).searchCandidate = some q → ((p : Int) - ref).natAbs < ((q : Int) - ref).natAbs
       (fits → nearer → s.noteSearch d n c p matched =
         { s with marks := s.marks.set d { s.mark d with searchCandidate := some p } }) ∧
       (¬ fits ∨ ¬ nearer → s.noteSearch d n c p matched = s))) ∧
  (∀ (s : State) (d : DeckId) (frame pos : Nat),
     let c := s.sched d
     let reported := s.recordReported d frame pos
     (c.active = none → reported = s) ∧
     (∀ t, c.active = some t →
       let x := s.ticket t
       let u : State := { s with
         tickets := s.tickets.set t { x with current := if x.kind = some .index then some frame else x.current } }
       let v : State := { u with scheds := s.scheds.set d { c with
         targetReached := true, step := if c.step = some .run then some .closing else c.step } }
       let w := v.callTrack d frame pos
       let closes : Prop := (c.step = some .run ∨ c.step = some .closing) ∧ (w.sched d).step = some .closing
       (x.state ≠ .indexing → reported = s) ∧
       (x.state = .indexing → c.indexTarget ≠ some frame → reported = u.callTrack d frame pos) ∧
       (x.state = .indexing → c.indexTarget = some frame → (closes → reported = w.stopRun d) ∧ (¬ closes → reported = w)) ∧
       (x.state = .indexing → x.cancelPending = false → s.poolExhausted d = (s.finalize t .poolFull).stopRun d) ∧
       (x.state ≠ .indexing ∨ x.cancelPending = true → s.poolExhausted d = s.stopRun d))) ∧
  (∀ (s : State) (d : DeckId), (s.deck d).state = .shuttling ∨ (s.deck d).state = .indexing ∨ (s.deck d).state = .searching →
     ((s.deck d).motion ≠ .deferred → s.stopRun d = stoppedAs s d) ∧
     ((s.deck d).motion = .deferred → s.stopRun d = (stoppedAs s d).runRested d false))

/-! ## Lenses, sweeps, the path and the head link -/

/-- A move command given to a lens (R86, R85). The arrival taken at once is the second part. The travel of a lens (R87, R88): a
step toward home, a step toward the target, home made by the stop or taken at the limit. Where an arrival is taken, the
scheduler, which here waits for none, is told. By the model's choice LENS ARRIVAL and LENS HOMING LIMIT stand for the steps that
remain (log 6), and leave a lens that does not travel as it is, as LENS STEP does (log 5). -/
def Obligations.LensCommandedAndTravels : Prop :=
  (∀ (s : State) (d : DeckId) (target : Int) (h : Holder),
     let p : Nat := (max 0 (min 4095 target)).toNat
     let t : LensTarget := ⟨p, h⟩
     let put (l : Lens) : State := { s with lenses := s.lenses.set d l }
     (s.power d = false → s.lensMove d target h = (s, none)) ∧
     (s.power d = true →
       (s.lens d = .unhomed → (s.sensors d).lensHome = false → s.lensMove d target h = (put (.homing t 0), none)) ∧
       (s.lens d = .unhomed → (s.sensors d).lensHome = true → p = 0 → s.lensMove d target h = (put (.idle 0), some 0)) ∧
       (s.lens d = .unhomed → (s.sensors d).lensHome = true → p ≠ 0 →
         s.lensMove d target h = (put (.moving 0 t), none)) ∧
       (∀ old n, s.lens d = .homing old n → s.lensMove d target h = (put (.homing t n), none)) ∧
       (∀ q, s.lens d = .idle q → q ≠ p → s.lensMove d target h = (put (.moving q t), none)) ∧
       (∀ q, s.lens d = .idle q → q = p → s.lensMove d target h = (put (.idle q), some q)) ∧
       (∀ q old, s.lens d = .moving q old → q ≠ p → s.lensMove d target h = (put (.moving q t), none)) ∧
       (∀ q old, s.lens d = .moving q old → q = p → s.lensMove d target h = (put (.idle q), some q)))) ∧
  (∀ (s : State) (d : DeckId) (t : LensTarget), running s = true →
     let put (l : Lens) : State := { s with lenses := s.lenses.set d l }
     let homed : State := { s with deckPins := s.deckPins.set d { s.sensors d with lensHome := true } }
     let atHome (u : State) : State := { u with lenses := s.lenses.set d (if t.pos = 0 then .idle 0 else .moving 0 t) }
     (∀ n, s.lens d = .homing t n → n + 1 < 4352 → exec (.lensStep d) s = .next (put (.homing t (n + 1)))) ∧
     (∀ q, s.lens d = .moving q t → q + 1 < t.pos → exec (.lensStep d) s = .next (put (.moving (q + 1) t))) ∧
     (∀ q, s.lens d = .moving q t → t.pos + 1 < q → exec (.lensStep d) s = .next (put (.moving (q - 1) t))) ∧
     (t.pos ≠ 0 → ∀ n, s.lens d = .homing t n → exec (.lensHomingLimit d) s = .next (atHome s) ∧
       exec (.lensHomeReached d true) s = .next (atHome homed) ∧
       (4352 ≤ n + 1 → exec (.lensStep d) s = .next (atHome s))) ∧
     (t.holder = .scheduler → schedIdle s = true →
       (∀ n, s.lens d = .homing t n → exec (.lensHomingLimit d) s = .next (atHome s) ∧
         exec (.lensHomeReached d true) s = .next (atHome homed)) ∧
       (∀ q, s.lens d = .moving q t → exec (.lensArrival d) s = .next (put (.idle t.pos)) ∧
         (q + 1 = t.pos ∨ q = t.pos + 1 → exec (.lensStep d) s = .next (put (.idle t.pos))))) ∧
     (s.lens d = .unhomed ∨ (∃ q, s.lens d = .idle q) → exec (.lensStep d) s = .next s ∧ exec (.lensArrival d) s = .next s ∧
       exec (.lensHomingLimit d) s = .next s ∧ exec (.lensHomeReached d true) s = .next homed) ∧
     exec (.lensHomeReached d false) s =
       .next { s with deckPins := s.deckPins.set d { s.sensors d with lensHome := false } })

/-- The focus decision (R100, R158): a FOCUS ticket is swept; under OFF the lens goes to the roll's last setpoint, else to the
frame's setpoint, and a frame without one is swept; a lens already there opens EXPOSING. A sweep starts when its ticket waits
for it and its deck holds tenure (R91, R159), about the centre of R92, with the first enabled step, and each step commands the
lens (R93); with READY low the ticket fails. The CAPTURE order (R161) is handed over in CAPTURE_WAIT with tenure; with READY low
it ends at once. A sweep's lens arrival and the end of its settle pause (R93, R114, R115): the arrival opens SETTLE for the
pause of the plan; at its end a TEST order with the next number is taken, in flight at once where no earlier order's bytes are
being sent (else it waits for its first byte: log 15). The ends of its order (R94): a figure is appended and the next enabled
step begins or the pass ends; REFUSED, the head timeout and the fall of READY abort the sweep. An abort (R98) is at once in LENS
and SETTLE, waits for the order in ORDER, and a second cause is not taken. The ticket a sweep serves ends by the abort's cause
(R160). -/
def Obligations.SweepStepOrdered : Prop :=
  (∀ (s : State) (w : Sweep), running s = true → s.fseq.sweep = some w →
     let sweep (u : State) (p : SweepPhase) : State :=
       { u with fseq := { s.fseq with sweep := some { w with phase := p } } }
     (∀ q t, w.phase = .lens → s.lens w.deck = .moving q t → t.holder = .sequencer → s.fseq.plan.pause ≠ 0 →
       exec (.lensArrival w.deck) s = .next
         (sweep { s with lenses := s.lenses.set w.deck (.idle t.pos) }
           (.settle t.pos (some ⟨s.fseq.plan.pause * 4, 0⟩))).settle) ∧
     (∀ pos timer, w.phase = .settle pos (some timer) → s.opa.holder = some w.deck → s.hlp.order = none →
       s.pins.ready = true →
       let request : OrderRequest := ⟨w.deck, .test, pos, w.slot, w.frame, w.tag⟩
       exec .settlePauseEnd s = .next (sweep { s with hlp := { s.hlp with
         order := some ⟨s.hlp.nextNumber, request, s.hlp.sending.isEmpty, none⟩
         nextNumber := s.hlp.nextNumber + 1
         sending := s.hlp.sending ++ [orderFrame s.hlp.nextNumber request] } } (.order pos)).settle)) ∧
  (∀ (s : State) (w : Sweep), s.fseq.sweep = some w →
     let aborts (cause : AbortCause) : State × Option SweepReport :=
       (State.jobEnd { s with fseq := { s.fseq with sweep := none } } w.deck, some ⟨w.deck, w.track, .aborted cause⟩)
     (∀ d cause, d ≠ w.deck → s.abortSweep d cause = (s, none)) ∧
     (∀ cause, w.phase = .lens ∨ (∃ pos timer, w.phase = .settle pos timer) → s.abortSweep w.deck cause = aborts cause) ∧
     (∀ pos cause, w.phase = .order pos → s.abortSweep w.deck cause =
       ({ s with fseq := { s.fseq with sweep := some { w with phase := .aborting cause } } }, none)) ∧
     (∀ first cause, w.phase = .aborting first →
       s.abortSweep w.deck cause = (s, none) ∧ ∀ e, s.testEnded e = aborts first) ∧
     (∀ pos, w.phase = .order pos →
       s.testEnded .refused = aborts .cameraRefused ∧ s.testEnded .timeout = aborts .cameraTimeout ∧
       s.testEnded .absent = aborts .cameraAbsent ∧
       ∀ value : BitVec 32,
         let w' : Sweep := { w with figures := w.figures ++ [⟨w.step, pos, value.toNat % 65536⟩] }
         let later (m : Nat) : Prop := m ∈ s.fseq.plan.enabledSteps ∧ w.step < m
         (∀ n, later n → (∀ m, later m → n ≤ m) → s.testEnded (.taken value) = s.beginStep w' n) ∧
         ((∀ m, ¬ later m) → s.testEnded (.taken value) =
           State.passEnded { s with fseq := { s.fseq with sweep := some w' } } w'))) ∧
  (∀ (s : State) (w : Sweep) (o : Order) (t : TicketNo) (pos : Nat) (value : BitVec 32), running s = true →
     s.fseq.sweep = some w → w.phase = .order pos → w.track = false → s.hlp.order = some o → o.started = true →
     o.request.kind = .test → (s.sched w.deck).active = some t → (s.sched w.deck).step = some .sweep →
     (s.sched w.deck).held = none → (s.ticket t).cancelPending = false →
     let ended (p : Pins) (h : Hlp) (c : TicketOutcome) : State :=
       ((State.jobEnd { s with
         pins := p, hlp := { h with order := none }, fseq := { s.fseq with sweep := none } } w.deck).finalize t c).settle
     (s.hlp.receiver = .hunt →
       exec (.headReport o.number 2 value (bodyCrc (o.number :: 2 :: bytes32 value))) s =
         .next (ended s.pins { s.hlp with receiver := .hunt, gapTimer := none } .cameraRefused)) ∧
     (o.timeout.isSome = true → exec .headTimeout s = .next (ended s.pins s.hlp .cameraTimeout)) ∧
     exec .readyFalls s = .next (ended { s.pins with ready := false } s.hlp .cameraAbsent)) ∧
  (∀ (s : State) (d : DeckId) (t : TicketNo) (k : Slot) (frame : Nat) (r : FrameRecord),
     (s.ticket t).slot = some k → (s.ticket t).current = some frame → s.record k frame = some r →
     let x := s.ticket t
     let c := s.sched d
     let put (v : State) (y : TicketState) (c' : Sched) : State :=
       { v with tickets := s.tickets.set t { x with state := y }, scheds := s.scheds.set d c' }
     let sweeps : Prop := s.enterFocusing d t = put s .focusing { c with step := some .sweepWait }
     let moves (p : Nat) : Prop :=
       let m := (put s .focusing { c with step := some .lensWait }).lensMove d p .scheduler
       (m.2 = none → s.enterFocusing d t = m.1) ∧
       (∀ q, m.2 = some q → c.active = some t →
         s.enterFocusing d t = put m.1 .exposing { c with step := some .captureWait, capturePos := some q })
     (x.kind = some .focus → sweeps) ∧
     (x.kind ≠ some .focus → s.params.policy = .off → moves ((s.entry k).lastSetpoint.getD 2048)) ∧
     (x.kind ≠ some .focus → s.params.policy ≠ .off →
       (r.setpoint = none → sweeps) ∧ (∀ p, r.setpoint = some p → moves p))) ∧
  (∀ (s : State) (d : DeckId) (t : TicketNo) (k : Slot) (frame : Nat), (s.sched d).active = some t →
     s.entryOf d = some k → (s.ticket t).current = some frame →
     let c := s.sched d
     let x := s.ticket t
     let working : State := { s with opa := { s.opa with job := true } }
     (c.step = some .sweepWait →
       (s.opa.holder ≠ some d → s.beginSweep d = none) ∧
       (s.opa.holder = some d → s.pins.ready = false → s.beginSweep d = some (s.finalize t .cameraAbsent)) ∧
       (s.opa.holder = some d → s.pins.ready = true → s.fseq.sweep ≠ none ∨ (s.deck d).state ≠ .ready →
         s.beginSweep d = none) ∧
       (s.opa.holder = some d → s.pins.ready = true → s.fseq.sweep = none → (s.deck d).state = .ready →
         s.beginSweep d = some (State.sweepReport? (State.startSweep
           { s with scheds := s.scheds.set d { c with step := some .sweep } } d k frame
           (decide (x.kind = some .focus)) false)))) ∧
     (∀ pos, c.step = some .captureWait → c.capturePos = some pos → x.slot = some k →
       let request : OrderRequest := ⟨d, .capture, pos, k, frame, (s.entry k).tag⟩
       let ended := working.jobEnd d
       (s.opa.holder ≠ some d ∨ s.hlp.order ≠ none → s.beginCapture d = none) ∧
       (s.opa.holder = some d → s.hlp.order = none → s.pins.ready = true → s.beginCapture d = some { working with
         scheds := s.scheds.set d { c with step := some .capture }
         hlp := { s.hlp with
           order := some ⟨s.hlp.nextNumber, request, s.hlp.sending.isEmpty, none⟩
           nextNumber := s.hlp.nextNumber + 1
           sending := s.hlp.sending ++ [orderFrame s.hlp.nextNumber request] } }) ∧
       (s.opa.holder = some d → s.hlp.order = none → s.pins.ready = false →
         (c.held = some .halted → s.beginCapture d = some (ended.finalize t .halted)) ∧
         (c.held = some .removed → s.beginCapture d = some (ended.finalize t .removed)) ∧
         (c.held = none → x.cancelPending = true → s.beginCapture d = some (ended.finalize t .cancelled)) ∧
         (c.held = none → x.cancelPending = false → s.beginCapture d = some (ended.finalize t .cameraAbsent))))) ∧
  (∀ (s : State) (d : DeckId) (k : Slot) (frame n : Nat) (forFocus track : Bool), s.opa.holder = some d →
     s.pins.ready = true → n ∈ s.fseq.plan.enabledSteps → (∀ m ∈ s.fseq.plan.enabledSteps, n ≤ m) →
     let last : Nat := (s.entry k).lastSetpoint.getD 2048
     let centre : Nat := match s.record k frame with
       | some r => r.setpoint.getD last
       | none => last
     s.startSweep d k frame forFocus track = State.beginStep { s with opa := { s.opa with job := true } }
       ⟨d, k, frame, (s.entry k).tag, forFocus, track, centre, 1, n, .lens, []⟩ n) ∧
  (∀ (s : State) (w : Sweep) (n : Nat) (st : PlanStep), s.fseq.plan.steps.toList[n]? = some st →
     let w' (f : SweepPhase) : Sweep := { w with step := n, phase := f }
     let sweep (u : State) (f : SweepPhase) : State := { u with fseq := { s.fseq with sweep := some (w' f) } }
     let m := (sweep s .lens).lensMove w.deck ((w.centre : Int) + st.offset) .sequencer
     (m.2 = none → s.beginStep w n = (m.1, none)) ∧
     (∀ pos, m.2 = some pos →
       (s.fseq.plan.pause ≠ 0 →
         s.beginStep w n = (sweep m.1 (.settle pos (some ⟨s.fseq.plan.pause * 4, 0⟩)), none)) ∧
       (s.fseq.plan.pause = 0 → s.beginStep w n = m.1.pauseEnded (w' .lens) pos)))

/-- The best step of a pass and the end of a pass (R95): a second pass about the position of a best step at either end of the
plan, or the completion; and the sweep write by the record it meets (R71). The completion of a sweep (R96, R97) at or above the
sharpness floor and below it: the result, the write, the lens command, and the sequencer idle. Track sweeps: one is called for
at frame 1 and every multiple of the interval under TRACK, skipped and counted where it cannot be, and else pending with the run
stopped (R101), the watched record dropped at once by the model's choice (log 43); it begins with tenure and its shuttle's
arrival, or is skipped for want of READY (R102, R153); its completion or a camera cause ends it, the camera cause with a count,
and the ticket goes on; a held failure or a pending cancel ends the ticket (R102, R139, R164). -/
def Obligations.SweepWriteAndCompletion : Prop :=
  ((∀ fs : List Figure, (bestFigure fs = none ↔ fs = []) ∧
     ∀ f, bestFigure fs = some f → ∃ before after, fs = before ++ f :: after ∧
       (∀ g ∈ before, g.figure < f.figure) ∧ (∀ g ∈ after, g.figure ≤ f.figure)) ∧
   (∀ p : Plan, List.Pairwise (· < ·) p.enabledSteps ∧
     ∀ n, n ∈ p.enabledSteps ↔ ∃ st, p.steps.toList[n]? = some st ∧ st.enabled = true) ∧
   (∀ (s : State) (w : Sweep) (best : Figure), bestFigure w.figures = some best →
     let steps := s.fseq.plan.enabledSteps
     let atEnd : Prop := best.step ∈ steps ∧ ((∀ m ∈ steps, best.step ≤ m) ∨ (∀ m ∈ steps, m ≤ best.step))
     let extended : Prop := s.fseq.plan.extension = true ∧ w.pass = 1 ∧ 2 ≤ steps.length ∧ atEnd
     (∀ n ∈ steps, (∀ m ∈ steps, n ≤ m) → extended →
       s.passEnded w = s.beginStep { w with pass := 2, centre := best.pos, figures := [] } n) ∧
     (¬ extended → s.passEnded w = s.completeSweep w best)) ∧
   ∀ (s : State) (w : Sweep) (setpoint figure : Nat),
     let write (r : FrameRecord) : FrameRecord :=
       if r.withdrawn = true ∨ (r.source = some .host ∧ w.forFocus = false) then r
       else { r with setpoint := some setpoint, source := some .sweep, figure := some figure }
     s.sweepWrite w setpoint figure = { s with
       chains := s.chains.set w.slot ((s.chain w.slot).map fun r => if r.frame = w.frame then write r else r)
       entries := s.entries.set w.slot { s.entry w.slot with lastSetpoint := some setpoint } }) ∧
  (∀ (s : State) (w : Sweep) (best : Figure),
     let x := s.completeSweep w best
     let good : Prop := s.params.floor ≤ best.figure
     let result (o : SweepOutcome) (p : Option Nat) : SweepResult :=
       ⟨w.deck, w.slot, w.frame, w.centre, w.pass, w.figures, best.step, o, p⟩
     x.1.fseq.sweep = none ∧ x.1.fseq.plan = s.fseq.plan ∧
     (good → x.1.fseq.result = some (result .good (some best.pos)) ∧
       x.1.chains = (s.sweepWrite w best.pos best.figure).chains ∧
       x.1.entries = (s.sweepWrite w best.pos best.figure).entries ∧
       x.1.lens w.deck = ((s.lensMove w.deck best.pos .scheduler).1.lens w.deck) ∧
       ∃ a, x.2 = some ⟨w.deck, w.track, .completed .good a⟩) ∧
     (¬ good → x.1.fseq.result = some (result .soft none) ∧ x.1.chains = s.chains ∧ x.1.entries = s.entries ∧
       x.1.lens w.deck = ((s.lensMove w.deck w.centre .scheduler).1.lens w.deck) ∧
       ∃ a, x.2 = some ⟨w.deck, w.track, .completed .soft a⟩)) ∧
  (∀ (s : State) (d : DeckId) (frame pos : Nat),
     let c := s.sched d
     let due : Prop := s.params.policy = .track ∧ (frame = 1 ∨ frame % s.params.trackInterval = 0)
     let barred : Prop := s.opa.holder = some d.other ∨ s.fseq.sweep ≠ none ∨ c.track ≠ none
     (¬ due → s.callTrack d frame pos = s) ∧
     (due → barred → s.callTrack d frame pos =
       { s with fseq := { s.fseq with skippedTrack := s.fseq.skippedTrack + 1 } }) ∧
     (due → ¬ barred → (s.deck d).motion ≠ .deferred → s.callTrack d frame pos = stoppedWhereMoving
       { s with scheds := s.scheds.set d { c with track := some ⟨frame, pos, false, false⟩, step := some .track } } d)) ∧
  (∀ (s : State) (d : DeckId) (t : TicketNo) (k : Slot) (tr : Track), (s.sched d).active = some t →
     s.entryOf d = some k → (s.sched d).track = some tr →
     let c := s.sched d
     let ends (n : BitVec 16) : State := { s with
       scheds := s.scheds.set d { c with track := none }, fseq := { s.fseq with skippedTrack := s.fseq.skippedTrack + n } }
     let begins : Prop := tr.running = false ∧ tr.arrived = true ∧ s.opa.holder = some d ∧ (s.deck d).state = .ready ∧
       (s.ticket t).cancelPending = false
     (¬ begins → s.beginTrack d = none) ∧
     (begins → s.pins.ready = false → s.beginTrack d = some (ends 1)) ∧
     (begins → s.pins.ready = true → s.fseq.sweep = none → s.beginTrack d = some (State.sweepReport?
       (State.startSweep { s with scheds := s.scheds.set d { c with track := some { tr with running := true } } } d k
         tr.frame false true))) ∧
     (tr.running = true →
       let reported (e : SweepEnd) : State := s.sweepReported ⟨d, true, e⟩
       (∀ e, c.held = some .halted → reported e = s.finalize t .halted) ∧
       (∀ e, c.held = some .removed → reported e = s.finalize t .removed) ∧
       (∀ e, c.held = none → (s.ticket t).cancelPending = true → reported e = s.finalize t .cancelled) ∧
       (c.held = none → (s.ticket t).cancelPending = false →
         (∀ o a, reported (.completed o a) = ends 0) ∧
         (∀ cause ∈ [AbortCause.cameraRefused, .cameraTimeout, .cameraAbsent], reported (.aborted cause) = ends 1) ∧
         (∀ cause ∈ [AbortCause.cancel, .halt, .removal, .release], reported (.aborted cause) = ends 0))))

/-- The path (R107, R109, R112): a made limit input ends the move toward its gate, where a deck that requests is granted, and
the other deck's pending track sweep is then skipped (R102). A move that times out is a FAULT; both flags are lowered, and the
deck whose flag stood, A before B (log 29), has its pending track sweep skipped, or its ticket fail with PATH_FAULT and its
shuttle or search stopped (R165), the watched record dropped at once by the model's choice (log 43). With no such move a level
changes, and the scheduler acts. -/
def Obligations.PathMovesEnd : Prop :=
  ∀ (s : State) (g : DeckId), running s = true →
    let limits (b : Bool) : State := { s with pins := { s.pins with limits := s.pins.limits.set g b } }
    exec (.pathLimitReached g false) s = .next (limits false) ∧
    (s.opa.path ≠ .moving g ∨ s.opa.moveTimer = none →
      exec (.pathLimitReached g true) s = .next (limits true).settle) ∧
    (∀ tm, s.opa.path = .moving g → s.opa.moveTimer = some tm → s.opa.holder = none →
      (schedIdle s = true → exec (.pathLimitReached g true) s =
        .next { limits true with opa := { s.opa with path := .atGate g, moveTimer := none, wanted := none } }) ∧
      (s.opa.requests.get g = true → s.opa.wanted = none →
        let granted : State := { limits true with opa := { s.opa with
          path := .atGate g, moveTimer := none, holder := some g, jobCount := 0, closing := false, job := false } }
        ((s.sched g.other).track.all (·.running) = true →
          exec (.pathLimitReached g true) s = .next granted.settle) ∧
        ((s.sched g.other).track.any (fun tr => !tr.running) = true →
          exec (.pathLimitReached g true) s = .next (State.settle { granted with
            scheds := s.scheds.set g.other { s.sched g.other with track := none }
            fseq := { s.fseq with skippedTrack := s.fseq.skippedTrack + 1 } })))) ∧
    (∀ tm, s.opa.path = .moving g → s.opa.moveTimer = some tm →
      let faulted : State := { s with opa := { s.opa with
        path := .fault g, moveTimer := none, requests := ⟨false, false⟩, faultFirst := none } }
      let fails (u : State) (d : DeckId) : State :=
        if s.opa.requests.get d then
          let c := u.sched d
          let v : State := { u with scheds := u.scheds.set d { c with request := false } }
          match c.active, c.track with
          | none, _ => v
          | some _, some _ =>
            { v with
              scheds := u.scheds.set d { c with request := false, track := none }
              fseq := { u.fseq with skippedTrack := u.fseq.skippedTrack + 1 } }
          | some t, none =>
            if (u.deck d).state = .indexing then v.finalize t .pathFault
            else stoppedWhereMoving (v.finalize t .pathFault) d
        else u
      (schedIdle s = true → exec .pathMoveTimeout s = .next faulted) ∧
      exec .pathMoveTimeout s = .next (fails (fails faulted .a) .b).settle)

/-- The decision of R109 while there is no holder, row by row. The decision of R111 at a job's end (R110): the holder keeps
tenure while it requests and the other deck does not, or the tenure limit is not reached; closing, and a withdrawn request,
release it. That a deck released as closing may be granted again at once, where it still requests, is the model's choice (log
42). A request is raised and withdrawn (R108, R109), and tenure closed (R113). A decision is carried out: the grant, with the
other deck's pending track sweep skipped (R102), the move wanted, and its beginning, which waits for HOLD and for an order, and
which the made limit input ends at once (R107). -/
def Obligations.ArbitrationAndTenureDecided : Prop :=
  (∀ (o : Opa) (limited : Option DeckId) (x : DeckId),
     let mine : Prop := o.requests.get x = true
     let others : Prop := o.requests.get x.other = true
     (o.path = .atGate x →
       (mine → o.wanted ≠ some x.other → limited ≠ some x → o.decide limited = .grant x) ∧
       (others → ¬ mine ∨ limited = some x ∨ o.wanted = some x.other → o.decide limited = .want x.other) ∧
       (¬ mine → ¬ others → o.decide limited = .clear)) ∧
     (o.path = .moving x → o.decide limited = .keep) ∧
     (∀ g, o.path = .fault g → o.wanted = none → o.faultFirst = some x → mine → o.decide limited = .want x) ∧
     (∀ g w, o.path = .fault g → o.wanted = some w → o.decide limited = .keep)) ∧
  (∀ (s : State) (d : DeckId), s.opa.holder = some d → s.opa.job = true →
     let n := min 32 (s.opa.jobCount + 1)
     let u : State := { s with opa := { s.opa with job := false, jobCount := n } }
     let free : State := { u with opa := { u.opa with holder := none, closing := false, job := false } }
     let mine : Prop := s.opa.requests.get d = true
     let others : Prop := s.opa.requests.get d.other = true
     (s.opa.closing = true ∨ ¬ mine → s.jobEnd d = free.arbitrateNow none) ∧
     (s.opa.closing = false → mine → ¬ others ∨ n < s.params.tenureLimit → s.jobEnd d = u) ∧
     (s.opa.closing = false → mine → others → s.params.tenureLimit ≤ n → s.jobEnd d = free.arbitrateNow (some d))) ∧
  (∀ (s : State) (d : DeckId),
     let o := s.opa
     let asks : Prop := o.requests.get d = true
     let put (o' : Opa) : State := { s with opa := o' }
     let first : Option DeckId := match o.path, o.faultFirst with
       | .fault _, none => some d
       | _, x => x
     let lowered : Opa := { o with
       requests := o.requests.set d false
       faultFirst := if o.faultFirst = some d then (if o.requests.get d.other then some d.other else none) else o.faultFirst }
     let claim : Option DeckId := match o.path with
       | .moving _ => o.wanted
       | .atGate _ | .fault _ => if o.wanted = some d then none else o.wanted
     let released (o' : Opa) : State := State.arbitrateNow (put { o' with holder := none, closing := false, job := false }) none
     (asks → s.raise d = s) ∧
     (¬ asks → s.raise d = State.arbitrateNow (put { o with requests := o.requests.set d true, faultFirst := first }) none) ∧
     (¬ asks → s.withdraw d = s) ∧
     (asks → o.holder = some d → o.job = true → s.withdraw d = put lowered) ∧
     (asks → o.holder = some d → o.job = false → s.withdraw d = released lowered) ∧
     (asks → o.holder ≠ some d → s.withdraw d = State.arbitrateNow (put { lowered with wanted := claim }) none) ∧
     (o.holder ≠ some d → s.closeTenure d = s) ∧
     (o.holder = some d → o.job = true → s.closeTenure d = put { o with closing := true }) ∧
     (o.holder = some d → o.job = false → s.closeTenure d = released o)) ∧
  (∀ (s : State) (limited : Option DeckId),
     let o := s.opa
     let does (u : State) : Prop := s.arbitrateNow limited = u
     let put (o' : Opa) : State := { s with opa := o' }
     let granted (o' : Opa) (x : DeckId) : State :=
       let c := s.sched x.other
       let u := put { o' with holder := some x, jobCount := 0, closing := false, job := false, wanted := none }
       if c.track.any (fun tr => !tr.running) then
         { u with
           scheds := s.scheds.set x.other { c with track := none }
           fseq := { s.fseq with skippedTrack := s.fseq.skippedTrack + 1 } }
       else u
     let moving (g : DeckId) : Opa :=
       { o with path := .moving g, wanted := none, faultFirst := none, moveTimer := some ⟨4000, 0⟩ }
     let set (g : DeckId) : Opa := { o with path := .atGate g, wanted := none, faultFirst := none, moveTimer := none }
     let free : Prop := s.hlp.order = none ∧ s.pins.hold = false
     let made (g : DeckId) : Prop := s.pins.limits.get g = true
     (o.holder ≠ none → does s) ∧
     (∀ x, o.holder = none → o.decide limited = .grant x → does (granted o x)) ∧
     (o.holder = none → o.decide limited = .clear → does (put { o with wanted := none })) ∧
     (o.holder = none → o.decide limited = .keep → o.wanted = none → does s) ∧
     (∀ g, o.holder = none → o.decide limited = .want g ∨ (o.decide limited = .keep ∧ o.wanted = some g) →
       (¬ free → does (put { o with wanted := some g })) ∧
       (free → ¬ made g → does (put (moving g))) ∧
       (free → made g → o.requests.get g = true → does (granted (set g) g)) ∧
       (free → made g → o.requests.get g = false → o.requests.get g.other = false → does (put (set g))) ∧
       (free → made g → o.requests.get g = false → o.requests.get g.other = true → ¬ made g.other →
         does (put (moving g.other))) ∧
       (free → made g → o.requests.get g = false → o.requests.get g.other = true → made g.other →
         does (granted (set g.other) g.other))))

/-- The head link's bytes (R115, R116): the last byte of an order starts its timeout, and the first byte of a waiting order
follows it, from when that order is in flight; one that comes in flight while READY is low ends at once (log 15). A report's
bytes are taken one by one; a gap or a broken byte inside a report makes it bad, and neither has an effect in HUNT (log 5). A
whole report (R116, R190) received by a hunting port: bad with a wrong CRC or an outcome that is neither TAKEN nor REFUSED,
stale where it names no order in flight. -/
def Obligations.HeadLinkReportsTaken : Prop :=
  (∀ s : State, running s = true →
     let h := s.hlp
     let put (x : Hlp) : State := { s with hlp := x }
     let bad : Hlp := { h with receiver := .hunt, gapTimer := none, bad := h.bad + 1 }
     let goes (r : ReportReceiver) : Hlp := { h with receiver := r, gapTimer := some ⟨10, 0⟩ }
     (∀ frame o, h.sending = [frame] → h.order = some o → o.started = true → o.timeout = none →
       exec .orderLastByteSent s = .next (put
         { h with sending := [], order := some { o with timeout := some ⟨s.params.headTimeout * 2, 0⟩ } })) ∧
     (∀ frame next o, h.sending = [frame, next] → h.order = some o → o.started = false →
       let u := put { h with sending := [next], order := some { o with started := true } }
       (s.pins.ready = true → exec .orderLastByteSent s = .next u) ∧
       (s.pins.ready = false → exec .orderLastByteSent s = .next (u.endOrder { o with started := true } .absent).settle)) ∧
     (∀ frame rest, h.sending = frame :: rest → h.order = none ∨ (2 ≤ rest.length ∧ s.pins.ready = true) →
       exec .orderLastByteSent s = .next (put { h with sending := rest })) ∧
     (h.receiver ≠ .hunt → exec .reportGap s = .next (put bad) ∧ exec .headBrokenByte s = .next (put bad)) ∧
     (h.receiver = .hunt → exec .reportGap s = .next s ∧ exec .headBrokenByte s = .next s) ∧
     (∀ b : Byte,
       (h.receiver = .hunt → b ≠ 0x1E → exec (.reportByteReceived b) s = .next s) ∧
       (h.receiver = .hunt → b = 0x1E → exec (.reportByteReceived b) s = .next (put (goes .length))) ∧
       (h.receiver = .length → b = 6 → exec (.reportByteReceived b) s = .next (put (goes (.body [])))) ∧
       (h.receiver = .length → b ≠ 6 → exec (.reportByteReceived b) s = .next (put bad)) ∧
       (∀ got, h.receiver = .body got → got.length < 5 →
         exec (.reportByteReceived b) s = .next (put (goes (.body (got ++ [b]))))) ∧
       (∀ got, h.receiver = .body got → got.length = 5 →
         exec (.reportByteReceived b) s = .next (put (goes (.check (got ++ [b]) none)))) ∧
       (∀ body, h.receiver = .check body none →
         exec (.reportByteReceived b) s = .next (put (goes (.check body (some b))))) ∧
       (∀ body high, h.receiver = .check body (some high) → high ++ b ≠ bodyCrc body →
         exec (.reportByteReceived b) s = .next (put bad)))) ∧
  (∀ (s : State) (number outcome : Byte) (value : BitVec 32) (crc : Half), running s = true → s.hlp.receiver = .hunt →
     let h := s.hlp
     let good : Half := bodyCrc (number :: outcome :: bytes32 value)
     let named : Prop := outcome = 1 ∨ outcome = 2
     (crc ≠ good ∨ ¬ named → exec (.headReport number outcome value crc) s =
       .next { s with hlp := { h with gapTimer := none, bad := h.bad + 1 } }) ∧
     (crc = good → named → h.order = none ∨ (∃ o, h.order = some o ∧ (o.number ≠ number ∨ o.started = false)) →
       exec (.headReport number outcome value crc) s =
         .next { s with hlp := { h with gapTimer := none, stale := h.stale + 1 } }))

/-- The end of the CAPTURE order of a FETCH or RANGE ticket (R117, R162, R127, R134, R163). A TAKEN report counts the capture
whatever the ticket's standing; the job ends; then a held failure comes first, then a pending cancel, then the end itself: a
FETCH is completed by a TAKEN report, a RANGE goes on to the next frame that is not withdrawn, QUEUED again, or is completed
beyond its last; REFUSED, the head timeout and the fall of READY fail it. -/
def Obligations.CaptureEndsFetch : Prop :=
  ∀ (s : State) (o : Order) (d : DeckId) (t : TicketNo) (value : BitVec 32), running s = true →
    s.hlp.order = some o → o.request.kind = .capture → o.request.deck = d → o.started = true → (s.sched d).active = some t →
    let x := s.ticket t
    let c := s.sched d
    let ended : State := { s with hlp := { s.hlp with order := none } }
    let heard : State := { s with hlp := { s.hlp with order := none, receiver := .hunt, gapTimer := none } }
    let x' : Ticket := { x with
      captured := min 16384 (x.captured + 1), lastId := some value
      firstId := if x.firstId.isSome then x.firstId else some value
      soft := if c.softFrame then min 16384 (x.soft + 1) else x.soft }
    let counted : State := State.jobEnd { heard with tickets := s.tickets.set t x' } d
    let crc (outcome : Byte) : Half := bodyCrc (o.number :: outcome :: bytes32 value)
    let taken (u : State) : Prop := s.hlp.receiver = .hunt → exec (.headReport o.number 1 value (crc 1)) s = .next u.settle
    let failures (refused timeout absent : TicketOutcome) : Prop :=
      (s.hlp.receiver = .hunt → exec (.headReport o.number 2 value (crc 2)) s =
        .next ((heard.jobEnd d).finalize t refused).settle) ∧
      (o.timeout.isSome = true → exec .headTimeout s = .next ((ended.jobEnd d).finalize t timeout).settle) ∧
      (s.fseq.sweep = none → exec .readyFalls s = .next
        ((State.jobEnd { ended with pins := { s.pins with ready := false } } d).finalize t absent).settle)
    let all (e : TicketOutcome) : Prop := taken (counted.finalize t e) ∧ failures e e e
    (c.held = some .halted → all .halted) ∧ (c.held = some .removed → all .removed) ∧
    (c.held = none → x.cancelPending = true → all .cancelled) ∧
    (c.held = none → x.cancelPending = false →
      failures .cameraRefused .cameraTimeout .cameraAbsent ∧
      (x.kind = some .fetch → taken (counted.finalize t .completed)) ∧
      (∀ k frame last n, x.kind = some .range → x.slot = some k → x.current = some frame → x.last = some last →
        let skips (m : Nat) : Prop := m ≤ last ∧ ∃ r, s.record k m = some r ∧ r.withdrawn = true
        frame < n → (∀ m, frame < m → m < n → skips m) → ¬ skips n →
        let y : Ticket := { x' with current := some n, skipped := min 16384 (x.skipped + (n - frame - 1)) }
        let at' (y : Ticket) (c' : Sched) : State :=
          { counted with tickets := s.tickets.set t y, scheds := counted.scheds.set d c' }
        let c' := counted.sched d
        (last < n → taken ((at' y { c' with softFrame := false, capturePos := none }).finalize t .completed)) ∧
        (n ≤ last → taken (at' { y with state := .queued, pathWait := false }
          ⟨none, none, none, false, false, none, c'.request, none, false, none, none⟩))))

/-- HOLD and READY (R120, R121, R3, R107, R118): an assertion of HOLD over film in motion at the selected gate is counted, and
one that stands already is no event (log 5). With tenure held, or the path set at a gate with nothing requested, the release
begins the deferred motion of a deck, be it a shuttle, an index run, a search, a threading or a rewind, and the scheduler acts;
a wanted move begins, from MOVING after a reset, from a set gate or from FAULT, unless an order is in flight (R107). A fall of
READY with no order and no sweep to end changes its level, and the scheduler acts; its rise changes its level alone. -/
def Obligations.HoldAndReadyTaken : Prop :=
  ∀ s : State, running s = true →
    let hold (b : Bool) : State := { s with pins := { s.pins with hold := b } }
    let released (u : State) : Prop := exec .holdReleased s = .next u
    let still : Prop := s.opa.holder ≠ none ∨
      (s.opa.requests = ⟨false, false⟩ ∧ s.opa.wanted = none ∧ ∃ g, s.opa.path = .atGate g)
    (s.pins.hold = true → exec .holdAsserted s = .next s) ∧
    (s.pins.hold = false → (s.deck s.opa.path.selected).motion = .moving → exec .holdAsserted s =
      .next { hold true with hlp := { s.hlp with holdConflict := s.hlp.holdConflict + 1 } }) ∧
    (s.pins.hold = false → (s.deck s.opa.path.selected).motion ≠ .moving → exec .holdAsserted s = .next (hold true)) ∧
    ((∀ d, (s.deck d).motion ≠ .deferred) → still →
      released (hold false).settle ∧ (schedIdle s = true → released (hold false))) ∧
    (∀ d, still → (s.deck d).motion = .deferred → (s.deck d.other).motion ≠ .deferred →
      let k := s.deck d
      let film := (s.sensors d).filmInGate
      let moves (k' : Deck) : State := { hold false with decks := s.decks.set d { k' with motion := .moving } }
      let begins (u : State) : Prop := released u.settle ∧ (schedIdle s = true → released u)
      (k.state = .shuttling ∨ k.state = .indexing ∨ k.state = .searching → begins (moves k)) ∧
      (k.state = .threading → film = true → begins (moves { k with phase := some .rewind })) ∧
      (k.state = .threading → film = false → begins (moves { k with phase := some .advance, leaderTravel := 0 })) ∧
      (k.state = .rewinding → film = true → begins (moves k)) ∧
      (k.state = .rewinding → film = false → s.fseq.sweep.all (fun w => w.deck != d) = true →
        ∃ v, exec (.filmInGateCleared d) (moves k) = .next v ∧ released v.settle)) ∧
    (∀ g, schedIdle s = true → (∀ d, (s.deck d).motion ≠ .deferred) → s.opa.holder = none → s.opa.path = .moving g →
      s.opa.wanted = some g → s.hlp.order = none → s.pins.limits.get g = false →
      released { hold false with opa := { s.opa with
        wanted := none, faultFirst := none, moveTimer := some ⟨4000, 0⟩ } }) ∧
    (∀ g, (∀ d, (s.deck d).motion ≠ .deferred) → s.opa.holder = none → s.opa.wanted = some g →
      (s.opa.path = .atGate g.other ∧ s.opa.requests.get g = true) ∨ (∃ x, s.opa.path = .fault x) →
      let begun (p : PathState) (tm : Option Timer) : Opa :=
        { s.opa with path := p, wanted := none, faultFirst := none, moveTimer := tm }
      let granted : State := { hold false with opa := { begun (.atGate g) none with
        holder := some g, jobCount := 0, closing := false, job := false } }
      let waiting : Bool := (s.sched g.other).track.any fun tr => !tr.running
      (s.hlp.order ≠ none → released (hold false).settle) ∧
      (s.hlp.order = none → s.pins.limits.get g = false →
        released (State.settle { hold false with opa := begun (.moving g) (some ⟨4000, 0⟩) })) ∧
      (s.hlp.order = none → s.pins.limits.get g = true → s.opa.requests.get g = true →
        (waiting = false → released granted.settle) ∧
        (waiting = true → released (State.settle { granted with
          scheds := s.scheds.set g.other { s.sched g.other with track := none }
          fseq := { s.fseq with skippedTrack := s.fseq.skippedTrack + 1 } })))) ∧
    exec .readyRises s = .next { s with pins := { s.pins with ready := true } } ∧
    (s.hlp.order = none → s.fseq.sweep = none →
      exec .readyFalls s = .next (State.settle { s with pins := { s.pins with ready := false } }))

/-! ## What every step keeps -/

/-- A message waits only while another is processed (R172), and a tenure holder exists only while the path is set to its gate
(R106): every step keeps both. -/
def Obligations.LinkAndHolderLawsKept : Prop :=
  ∀ s t : State, step s = .next t →
    (waitingLaw s = true → waitingLaw t = true) ∧ (holderLaw s = true → holderLaw t = true)

/-- A lens is UNHOMED (R89) and a deck unanchored (R1, R2) while the deck's power is off: every step keeps both. -/
def Obligations.PowerLawsKept : Prop :=
  ∀ s t : State, step s = .next t → lensLaw s = true → anchorLaw s = true → lensLaw t = true ∧ anchorLaw t = true

/-- Free records and frame counts make 16,384 (R64), and each entry's records are numbered from 1 to its frame count (R65). -/
def Obligations.RecordLawsKept : Prop :=
  ∀ s t : State, step s = .next t → recordLaw s = true → numberLaw s = true → recordLaw t = true ∧ numberLaw t = true

/-- The laws hold right after reset. -/
def Obligations.LawsHoldAtReset : Prop :=
  waitingLaw State.reset = true ∧ lensLaw State.reset = true ∧ anchorLaw State.reset = true ∧
  holderLaw State.reset = true ∧ recordLaw State.reset = true ∧ numberLaw State.reset = true

end
end

