-- ==== Sys2Proof/Laws/State.lean ====
section
/-! SUPPORT. One lemma per share of the state and per update of it, so that no later proof unfolds a record update. -/

namespace Sys2Proof

/-! ## Pairs -/

@[simp] theorem Pair.get_set_self {α : Type} (p : Pair α) (d : DeckId) (x : α) : (p.set d x).get d = x := by cases d <;> rfl
@[simp] theorem Pair.get_set_other {α : Type} (p : Pair α) (d : DeckId) (x : α) : (p.set d x).get d.other = p.get d.other := by
  cases d <;> rfl
theorem Pair.get_set {α : Type} (p : Pair α) (d e : DeckId) (x : α) : (p.set d x).get e = if e = d then x else p.get e := by
  cases d <;> cases e <;> rfl
theorem Pair.get_set_of_ne {α : Type} (p : Pair α) {d e : DeckId} (x : α) (h : e ≠ d) : (p.set d x).get e = p.get e := by
  rw [Pair.get_set, if_neg h]
@[simp] theorem Pair.set_get {α : Type} (p : Pair α) (d : DeckId) : p.set d (p.get d) = p := by cases d <;> rfl
@[simp] theorem Pair.set_set {α : Type} (p : Pair α) (d : DeckId) (x y : α) : (p.set d x).set d y = p.set d y := by
  cases d <;> rfl
theorem Pair.ext_get {α : Type} {p q : Pair α} (h : ∀ d, p.get d = q.get d) : p = q := by
  cases p; cases q; simpa [Pair.get] using And.intro (h .a) (h .b)
@[simp] theorem DeckId.other_other (d : DeckId) : d.other.other = d := by cases d <;> rfl
@[simp] theorem DeckId.other_ne (d : DeckId) : d.other ≠ d := by cases d <;> decide
@[simp] theorem DeckId.ne_other (d : DeckId) : d ≠ d.other := by cases d <;> decide
theorem DeckId.eq_other_of_ne {d e : DeckId} (h : e ≠ d) : e = d.other := by cases d <;> cases e <;> simp_all [DeckId.other]

namespace Machine.State

/-! ## setDeck -/

@[simp] theorem pins_setDeck (s : State) (d : DeckId) (x : Deck) : (s.setDeck d x).pins = s.pins := rfl
@[simp] theorem deckPins_setDeck (s : State) (d : DeckId) (x : Deck) : (s.setDeck d x).deckPins = s.deckPins := rfl
@[simp] theorem rate_setDeck (s : State) (d : DeckId) (x : Deck) : (s.setDeck d x).rate = s.rate := rfl
@[simp] theorem params_setDeck (s : State) (d : DeckId) (x : Deck) : (s.setDeck d x).params = s.params := rfl
@[simp] theorem rlp_setDeck (s : State) (d : DeckId) (x : Deck) : (s.setDeck d x).rlp = s.rlp := rfl
@[simp] theorem entries_setDeck (s : State) (d : DeckId) (x : Deck) : (s.setDeck d x).entries = s.entries := rfl
@[simp] theorem chains_setDeck (s : State) (d : DeckId) (x : Deck) : (s.setDeck d x).chains = s.chains := rfl
@[simp] theorem freeCount_setDeck (s : State) (d : DeckId) (x : Deck) : (s.setDeck d x).freeCount = s.freeCount := rfl
@[simp] theorem poolDecks_setDeck (s : State) (d : DeckId) (x : Deck) : (s.setDeck d x).poolDecks = s.poolDecks := rfl
@[simp] theorem marks_setDeck (s : State) (d : DeckId) (x : Deck) : (s.setDeck d x).marks = s.marks := rfl
@[simp] theorem lenses_setDeck (s : State) (d : DeckId) (x : Deck) : (s.setDeck d x).lenses = s.lenses := rfl
@[simp] theorem fseq_setDeck (s : State) (d : DeckId) (x : Deck) : (s.setDeck d x).fseq = s.fseq := rfl
@[simp] theorem opa_setDeck (s : State) (d : DeckId) (x : Deck) : (s.setDeck d x).opa = s.opa := rfl
@[simp] theorem hlp_setDeck (s : State) (d : DeckId) (x : Deck) : (s.setDeck d x).hlp = s.hlp := rfl
@[simp] theorem tickets_setDeck (s : State) (d : DeckId) (x : Deck) : (s.setDeck d x).tickets = s.tickets := rfl
@[simp] theorem admission_setDeck (s : State) (d : DeckId) (x : Deck) : (s.setDeck d x).admission = s.admission := rfl
@[simp] theorem scheds_setDeck (s : State) (d : DeckId) (x : Deck) : (s.setDeck d x).scheds = s.scheds := rfl
@[simp] theorem pending_setDeck (s : State) (d : DeckId) (x : Deck) : (s.setDeck d x).pending = s.pending := rfl
@[simp] theorem deck_setDeck_self (s : State) (d : DeckId) (x : Deck) : (s.setDeck d x).deck d = x := Pair.get_set_self _ d x
@[simp] theorem deck_setDeck_other (s : State) (d : DeckId) (x : Deck) : (s.setDeck d x).deck d.other = s.deck d.other :=
  Pair.get_set_other _ d x
theorem deck_setDeck (s : State) (d e : DeckId) (x : Deck) : (s.setDeck d x).deck e = if e = d then x else s.deck e :=
  Pair.get_set _ d e x
@[simp] theorem setDeck_self (s : State) (d : DeckId) : s.setDeck d (s.deck d) = s := by
  simp [setDeck, deck]
@[simp] theorem setDeck_setDeck (s : State) (d : DeckId) (x y : Deck) : (s.setDeck d x).setDeck d y = s.setDeck d y := by
  simp [setDeck]
@[simp] theorem mark_setDeck (s : State) (d e : DeckId) (x : Deck) : (s.setDeck d x).mark e = s.mark e := rfl
@[simp] theorem lens_setDeck (s : State) (d e : DeckId) (x : Deck) : (s.setDeck d x).lens e = s.lens e := rfl
@[simp] theorem pool_setDeck (s : State) (d e : DeckId) (x : Deck) : (s.setDeck d x).pool e = s.pool e := rfl
@[simp] theorem sched_setDeck (s : State) (d e : DeckId) (x : Deck) : (s.setDeck d x).sched e = s.sched e := rfl
@[simp] theorem sensors_setDeck (s : State) (d e : DeckId) (x : Deck) : (s.setDeck d x).sensors e = s.sensors e := rfl
@[simp] theorem entry_setDeck (s : State) (d : DeckId) (x : Deck) (k : Slot) : (s.setDeck d x).entry k = s.entry k := rfl
@[simp] theorem chain_setDeck (s : State) (d : DeckId) (x : Deck) (k : Slot) : (s.setDeck d x).chain k = s.chain k := rfl
@[simp] theorem ticket_setDeck (s : State) (d : DeckId) (x : Deck) (k : TicketNo) : (s.setDeck d x).ticket k = s.ticket k := rfl

/-! ## setMark -/

@[simp] theorem pins_setMark (s : State) (d : DeckId) (x : Mark) : (s.setMark d x).pins = s.pins := rfl
@[simp] theorem deckPins_setMark (s : State) (d : DeckId) (x : Mark) : (s.setMark d x).deckPins = s.deckPins := rfl
@[simp] theorem rate_setMark (s : State) (d : DeckId) (x : Mark) : (s.setMark d x).rate = s.rate := rfl
@[simp] theorem params_setMark (s : State) (d : DeckId) (x : Mark) : (s.setMark d x).params = s.params := rfl
@[simp] theorem rlp_setMark (s : State) (d : DeckId) (x : Mark) : (s.setMark d x).rlp = s.rlp := rfl
@[simp] theorem entries_setMark (s : State) (d : DeckId) (x : Mark) : (s.setMark d x).entries = s.entries := rfl
@[simp] theorem chains_setMark (s : State) (d : DeckId) (x : Mark) : (s.setMark d x).chains = s.chains := rfl
@[simp] theorem freeCount_setMark (s : State) (d : DeckId) (x : Mark) : (s.setMark d x).freeCount = s.freeCount := rfl
@[simp] theorem poolDecks_setMark (s : State) (d : DeckId) (x : Mark) : (s.setMark d x).poolDecks = s.poolDecks := rfl
@[simp] theorem decks_setMark (s : State) (d : DeckId) (x : Mark) : (s.setMark d x).decks = s.decks := rfl
@[simp] theorem lenses_setMark (s : State) (d : DeckId) (x : Mark) : (s.setMark d x).lenses = s.lenses := rfl
@[simp] theorem fseq_setMark (s : State) (d : DeckId) (x : Mark) : (s.setMark d x).fseq = s.fseq := rfl
@[simp] theorem opa_setMark (s : State) (d : DeckId) (x : Mark) : (s.setMark d x).opa = s.opa := rfl
@[simp] theorem hlp_setMark (s : State) (d : DeckId) (x : Mark) : (s.setMark d x).hlp = s.hlp := rfl
@[simp] theorem tickets_setMark (s : State) (d : DeckId) (x : Mark) : (s.setMark d x).tickets = s.tickets := rfl
@[simp] theorem admission_setMark (s : State) (d : DeckId) (x : Mark) : (s.setMark d x).admission = s.admission := rfl
@[simp] theorem scheds_setMark (s : State) (d : DeckId) (x : Mark) : (s.setMark d x).scheds = s.scheds := rfl
@[simp] theorem pending_setMark (s : State) (d : DeckId) (x : Mark) : (s.setMark d x).pending = s.pending := rfl
@[simp] theorem mark_setMark_self (s : State) (d : DeckId) (x : Mark) : (s.setMark d x).mark d = x := Pair.get_set_self _ d x
@[simp] theorem mark_setMark_other (s : State) (d : DeckId) (x : Mark) : (s.setMark d x).mark d.other = s.mark d.other :=
  Pair.get_set_other _ d x
theorem mark_setMark (s : State) (d e : DeckId) (x : Mark) : (s.setMark d x).mark e = if e = d then x else s.mark e :=
  Pair.get_set _ d e x
@[simp] theorem setMark_self (s : State) (d : DeckId) : s.setMark d (s.mark d) = s := by
  simp [setMark, mark]
@[simp] theorem setMark_setMark (s : State) (d : DeckId) (x y : Mark) : (s.setMark d x).setMark d y = s.setMark d y := by
  simp [setMark]
@[simp] theorem deck_setMark (s : State) (d e : DeckId) (x : Mark) : (s.setMark d x).deck e = s.deck e := rfl
@[simp] theorem lens_setMark (s : State) (d e : DeckId) (x : Mark) : (s.setMark d x).lens e = s.lens e := rfl
@[simp] theorem pool_setMark (s : State) (d e : DeckId) (x : Mark) : (s.setMark d x).pool e = s.pool e := rfl
@[simp] theorem sched_setMark (s : State) (d e : DeckId) (x : Mark) : (s.setMark d x).sched e = s.sched e := rfl
@[simp] theorem sensors_setMark (s : State) (d e : DeckId) (x : Mark) : (s.setMark d x).sensors e = s.sensors e := rfl
@[simp] theorem entry_setMark (s : State) (d : DeckId) (x : Mark) (k : Slot) : (s.setMark d x).entry k = s.entry k := rfl
@[simp] theorem chain_setMark (s : State) (d : DeckId) (x : Mark) (k : Slot) : (s.setMark d x).chain k = s.chain k := rfl
@[simp] theorem ticket_setMark (s : State) (d : DeckId) (x : Mark) (k : TicketNo) : (s.setMark d x).ticket k = s.ticket k := rfl

/-! ## setLens -/

@[simp] theorem pins_setLens (s : State) (d : DeckId) (x : Lens) : (s.setLens d x).pins = s.pins := rfl
@[simp] theorem deckPins_setLens (s : State) (d : DeckId) (x : Lens) : (s.setLens d x).deckPins = s.deckPins := rfl
@[simp] theorem rate_setLens (s : State) (d : DeckId) (x : Lens) : (s.setLens d x).rate = s.rate := rfl
@[simp] theorem params_setLens (s : State) (d : DeckId) (x : Lens) : (s.setLens d x).params = s.params := rfl
@[simp] theorem rlp_setLens (s : State) (d : DeckId) (x : Lens) : (s.setLens d x).rlp = s.rlp := rfl
@[simp] theorem entries_setLens (s : State) (d : DeckId) (x : Lens) : (s.setLens d x).entries = s.entries := rfl
@[simp] theorem chains_setLens (s : State) (d : DeckId) (x : Lens) : (s.setLens d x).chains = s.chains := rfl
@[simp] theorem freeCount_setLens (s : State) (d : DeckId) (x : Lens) : (s.setLens d x).freeCount = s.freeCount := rfl
@[simp] theorem poolDecks_setLens (s : State) (d : DeckId) (x : Lens) : (s.setLens d x).poolDecks = s.poolDecks := rfl
@[simp] theorem decks_setLens (s : State) (d : DeckId) (x : Lens) : (s.setLens d x).decks = s.decks := rfl
@[simp] theorem marks_setLens (s : State) (d : DeckId) (x : Lens) : (s.setLens d x).marks = s.marks := rfl
@[simp] theorem fseq_setLens (s : State) (d : DeckId) (x : Lens) : (s.setLens d x).fseq = s.fseq := rfl
@[simp] theorem opa_setLens (s : State) (d : DeckId) (x : Lens) : (s.setLens d x).opa = s.opa := rfl
@[simp] theorem hlp_setLens (s : State) (d : DeckId) (x : Lens) : (s.setLens d x).hlp = s.hlp := rfl
@[simp] theorem tickets_setLens (s : State) (d : DeckId) (x : Lens) : (s.setLens d x).tickets = s.tickets := rfl
@[simp] theorem admission_setLens (s : State) (d : DeckId) (x : Lens) : (s.setLens d x).admission = s.admission := rfl
@[simp] theorem scheds_setLens (s : State) (d : DeckId) (x : Lens) : (s.setLens d x).scheds = s.scheds := rfl
@[simp] theorem pending_setLens (s : State) (d : DeckId) (x : Lens) : (s.setLens d x).pending = s.pending := rfl
@[simp] theorem lens_setLens_self (s : State) (d : DeckId) (x : Lens) : (s.setLens d x).lens d = x := Pair.get_set_self _ d x
@[simp] theorem lens_setLens_other (s : State) (d : DeckId) (x : Lens) : (s.setLens d x).lens d.other = s.lens d.other :=
  Pair.get_set_other _ d x
theorem lens_setLens (s : State) (d e : DeckId) (x : Lens) : (s.setLens d x).lens e = if e = d then x else s.lens e :=
  Pair.get_set _ d e x
@[simp] theorem setLens_self (s : State) (d : DeckId) : s.setLens d (s.lens d) = s := by
  simp [setLens, lens]
@[simp] theorem setLens_setLens (s : State) (d : DeckId) (x y : Lens) : (s.setLens d x).setLens d y = s.setLens d y := by
  simp [setLens]
@[simp] theorem deck_setLens (s : State) (d e : DeckId) (x : Lens) : (s.setLens d x).deck e = s.deck e := rfl
@[simp] theorem mark_setLens (s : State) (d e : DeckId) (x : Lens) : (s.setLens d x).mark e = s.mark e := rfl
@[simp] theorem pool_setLens (s : State) (d e : DeckId) (x : Lens) : (s.setLens d x).pool e = s.pool e := rfl
@[simp] theorem sched_setLens (s : State) (d e : DeckId) (x : Lens) : (s.setLens d x).sched e = s.sched e := rfl
@[simp] theorem sensors_setLens (s : State) (d e : DeckId) (x : Lens) : (s.setLens d x).sensors e = s.sensors e := rfl
@[simp] theorem entry_setLens (s : State) (d : DeckId) (x : Lens) (k : Slot) : (s.setLens d x).entry k = s.entry k := rfl
@[simp] theorem chain_setLens (s : State) (d : DeckId) (x : Lens) (k : Slot) : (s.setLens d x).chain k = s.chain k := rfl
@[simp] theorem ticket_setLens (s : State) (d : DeckId) (x : Lens) (k : TicketNo) : (s.setLens d x).ticket k = s.ticket k := rfl

/-! ## setPool -/

@[simp] theorem pins_setPool (s : State) (d : DeckId) (x : PoolDeck) : (s.setPool d x).pins = s.pins := rfl
@[simp] theorem deckPins_setPool (s : State) (d : DeckId) (x : PoolDeck) : (s.setPool d x).deckPins = s.deckPins := rfl
@[simp] theorem rate_setPool (s : State) (d : DeckId) (x : PoolDeck) : (s.setPool d x).rate = s.rate := rfl
@[simp] theorem params_setPool (s : State) (d : DeckId) (x : PoolDeck) : (s.setPool d x).params = s.params := rfl
@[simp] theorem rlp_setPool (s : State) (d : DeckId) (x : PoolDeck) : (s.setPool d x).rlp = s.rlp := rfl
@[simp] theorem entries_setPool (s : State) (d : DeckId) (x : PoolDeck) : (s.setPool d x).entries = s.entries := rfl
@[simp] theorem chains_setPool (s : State) (d : DeckId) (x : PoolDeck) : (s.setPool d x).chains = s.chains := rfl
@[simp] theorem freeCount_setPool (s : State) (d : DeckId) (x : PoolDeck) : (s.setPool d x).freeCount = s.freeCount := rfl
@[simp] theorem decks_setPool (s : State) (d : DeckId) (x : PoolDeck) : (s.setPool d x).decks = s.decks := rfl
@[simp] theorem marks_setPool (s : State) (d : DeckId) (x : PoolDeck) : (s.setPool d x).marks = s.marks := rfl
@[simp] theorem lenses_setPool (s : State) (d : DeckId) (x : PoolDeck) : (s.setPool d x).lenses = s.lenses := rfl
@[simp] theorem fseq_setPool (s : State) (d : DeckId) (x : PoolDeck) : (s.setPool d x).fseq = s.fseq := rfl
@[simp] theorem opa_setPool (s : State) (d : DeckId) (x : PoolDeck) : (s.setPool d x).opa = s.opa := rfl
@[simp] theorem hlp_setPool (s : State) (d : DeckId) (x : PoolDeck) : (s.setPool d x).hlp = s.hlp := rfl
@[simp] theorem tickets_setPool (s : State) (d : DeckId) (x : PoolDeck) : (s.setPool d x).tickets = s.tickets := rfl
@[simp] theorem admission_setPool (s : State) (d : DeckId) (x : PoolDeck) : (s.setPool d x).admission = s.admission := rfl
@[simp] theorem scheds_setPool (s : State) (d : DeckId) (x : PoolDeck) : (s.setPool d x).scheds = s.scheds := rfl
@[simp] theorem pending_setPool (s : State) (d : DeckId) (x : PoolDeck) : (s.setPool d x).pending = s.pending := rfl
@[simp] theorem pool_setPool_self (s : State) (d : DeckId) (x : PoolDeck) : (s.setPool d x).pool d = x := Pair.get_set_self _ d x
@[simp] theorem pool_setPool_other (s : State) (d : DeckId) (x : PoolDeck) : (s.setPool d x).pool d.other = s.pool d.other :=
  Pair.get_set_other _ d x
theorem pool_setPool (s : State) (d e : DeckId) (x : PoolDeck) : (s.setPool d x).pool e = if e = d then x else s.pool e :=
  Pair.get_set _ d e x
@[simp] theorem setPool_self (s : State) (d : DeckId) : s.setPool d (s.pool d) = s := by
  simp [setPool, pool]
@[simp] theorem setPool_setPool (s : State) (d : DeckId) (x y : PoolDeck) : (s.setPool d x).setPool d y = s.setPool d y := by
  simp [setPool]
@[simp] theorem deck_setPool (s : State) (d e : DeckId) (x : PoolDeck) : (s.setPool d x).deck e = s.deck e := rfl
@[simp] theorem mark_setPool (s : State) (d e : DeckId) (x : PoolDeck) : (s.setPool d x).mark e = s.mark e := rfl
@[simp] theorem lens_setPool (s : State) (d e : DeckId) (x : PoolDeck) : (s.setPool d x).lens e = s.lens e := rfl
@[simp] theorem sched_setPool (s : State) (d e : DeckId) (x : PoolDeck) : (s.setPool d x).sched e = s.sched e := rfl
@[simp] theorem sensors_setPool (s : State) (d e : DeckId) (x : PoolDeck) : (s.setPool d x).sensors e = s.sensors e := rfl
@[simp] theorem entry_setPool (s : State) (d : DeckId) (x : PoolDeck) (k : Slot) : (s.setPool d x).entry k = s.entry k := rfl
@[simp] theorem chain_setPool (s : State) (d : DeckId) (x : PoolDeck) (k : Slot) : (s.setPool d x).chain k = s.chain k := rfl
@[simp] theorem ticket_setPool (s : State) (d : DeckId) (x : PoolDeck) (k : TicketNo) : (s.setPool d x).ticket k = s.ticket k := rfl

/-! ## setSched -/

@[simp] theorem pins_setSched (s : State) (d : DeckId) (x : Sched) : (s.setSched d x).pins = s.pins := rfl
@[simp] theorem deckPins_setSched (s : State) (d : DeckId) (x : Sched) : (s.setSched d x).deckPins = s.deckPins := rfl
@[simp] theorem rate_setSched (s : State) (d : DeckId) (x : Sched) : (s.setSched d x).rate = s.rate := rfl
@[simp] theorem params_setSched (s : State) (d : DeckId) (x : Sched) : (s.setSched d x).params = s.params := rfl
@[simp] theorem rlp_setSched (s : State) (d : DeckId) (x : Sched) : (s.setSched d x).rlp = s.rlp := rfl
@[simp] theorem entries_setSched (s : State) (d : DeckId) (x : Sched) : (s.setSched d x).entries = s.entries := rfl
@[simp] theorem chains_setSched (s : State) (d : DeckId) (x : Sched) : (s.setSched d x).chains = s.chains := rfl
@[simp] theorem freeCount_setSched (s : State) (d : DeckId) (x : Sched) : (s.setSched d x).freeCount = s.freeCount := rfl
@[simp] theorem poolDecks_setSched (s : State) (d : DeckId) (x : Sched) : (s.setSched d x).poolDecks = s.poolDecks := rfl
@[simp] theorem decks_setSched (s : State) (d : DeckId) (x : Sched) : (s.setSched d x).decks = s.decks := rfl
@[simp] theorem marks_setSched (s : State) (d : DeckId) (x : Sched) : (s.setSched d x).marks = s.marks := rfl
@[simp] theorem lenses_setSched (s : State) (d : DeckId) (x : Sched) : (s.setSched d x).lenses = s.lenses := rfl
@[simp] theorem fseq_setSched (s : State) (d : DeckId) (x : Sched) : (s.setSched d x).fseq = s.fseq := rfl
@[simp] theorem opa_setSched (s : State) (d : DeckId) (x : Sched) : (s.setSched d x).opa = s.opa := rfl
@[simp] theorem hlp_setSched (s : State) (d : DeckId) (x : Sched) : (s.setSched d x).hlp = s.hlp := rfl
@[simp] theorem tickets_setSched (s : State) (d : DeckId) (x : Sched) : (s.setSched d x).tickets = s.tickets := rfl
@[simp] theorem admission_setSched (s : State) (d : DeckId) (x : Sched) : (s.setSched d x).admission = s.admission := rfl
@[simp] theorem pending_setSched (s : State) (d : DeckId) (x : Sched) : (s.setSched d x).pending = s.pending := rfl
@[simp] theorem sched_setSched_self (s : State) (d : DeckId) (x : Sched) : (s.setSched d x).sched d = x := Pair.get_set_self _ d x
@[simp] theorem sched_setSched_other (s : State) (d : DeckId) (x : Sched) : (s.setSched d x).sched d.other = s.sched d.other :=
  Pair.get_set_other _ d x
theorem sched_setSched (s : State) (d e : DeckId) (x : Sched) : (s.setSched d x).sched e = if e = d then x else s.sched e :=
  Pair.get_set _ d e x
@[simp] theorem setSched_self (s : State) (d : DeckId) : s.setSched d (s.sched d) = s := by
  simp [setSched, sched]
@[simp] theorem setSched_setSched (s : State) (d : DeckId) (x y : Sched) : (s.setSched d x).setSched d y = s.setSched d y := by
  simp [setSched]
@[simp] theorem deck_setSched (s : State) (d e : DeckId) (x : Sched) : (s.setSched d x).deck e = s.deck e := rfl
@[simp] theorem mark_setSched (s : State) (d e : DeckId) (x : Sched) : (s.setSched d x).mark e = s.mark e := rfl
@[simp] theorem lens_setSched (s : State) (d e : DeckId) (x : Sched) : (s.setSched d x).lens e = s.lens e := rfl
@[simp] theorem pool_setSched (s : State) (d e : DeckId) (x : Sched) : (s.setSched d x).pool e = s.pool e := rfl
@[simp] theorem sensors_setSched (s : State) (d e : DeckId) (x : Sched) : (s.setSched d x).sensors e = s.sensors e := rfl
@[simp] theorem entry_setSched (s : State) (d : DeckId) (x : Sched) (k : Slot) : (s.setSched d x).entry k = s.entry k := rfl
@[simp] theorem chain_setSched (s : State) (d : DeckId) (x : Sched) (k : Slot) : (s.setSched d x).chain k = s.chain k := rfl
@[simp] theorem ticket_setSched (s : State) (d : DeckId) (x : Sched) (k : TicketNo) : (s.setSched d x).ticket k = s.ticket k := rfl

/-! ## setSensors -/

@[simp] theorem pins_setSensors (s : State) (d : DeckId) (x : DeckPins) : (s.setSensors d x).pins = s.pins := rfl
@[simp] theorem rate_setSensors (s : State) (d : DeckId) (x : DeckPins) : (s.setSensors d x).rate = s.rate := rfl
@[simp] theorem params_setSensors (s : State) (d : DeckId) (x : DeckPins) : (s.setSensors d x).params = s.params := rfl
@[simp] theorem rlp_setSensors (s : State) (d : DeckId) (x : DeckPins) : (s.setSensors d x).rlp = s.rlp := rfl
@[simp] theorem entries_setSensors (s : State) (d : DeckId) (x : DeckPins) : (s.setSensors d x).entries = s.entries := rfl
@[simp] theorem chains_setSensors (s : State) (d : DeckId) (x : DeckPins) : (s.setSensors d x).chains = s.chains := rfl
@[simp] theorem freeCount_setSensors (s : State) (d : DeckId) (x : DeckPins) : (s.setSensors d x).freeCount = s.freeCount := rfl
@[simp] theorem poolDecks_setSensors (s : State) (d : DeckId) (x : DeckPins) : (s.setSensors d x).poolDecks = s.poolDecks := rfl
@[simp] theorem decks_setSensors (s : State) (d : DeckId) (x : DeckPins) : (s.setSensors d x).decks = s.decks := rfl
@[simp] theorem marks_setSensors (s : State) (d : DeckId) (x : DeckPins) : (s.setSensors d x).marks = s.marks := rfl
@[simp] theorem lenses_setSensors (s : State) (d : DeckId) (x : DeckPins) : (s.setSensors d x).lenses = s.lenses := rfl
@[simp] theorem fseq_setSensors (s : State) (d : DeckId) (x : DeckPins) : (s.setSensors d x).fseq = s.fseq := rfl
@[simp] theorem opa_setSensors (s : State) (d : DeckId) (x : DeckPins) : (s.setSensors d x).opa = s.opa := rfl
@[simp] theorem hlp_setSensors (s : State) (d : DeckId) (x : DeckPins) : (s.setSensors d x).hlp = s.hlp := rfl
@[simp] theorem tickets_setSensors (s : State) (d : DeckId) (x : DeckPins) : (s.setSensors d x).tickets = s.tickets := rfl
@[simp] theorem admission_setSensors (s : State) (d : DeckId) (x : DeckPins) : (s.setSensors d x).admission = s.admission := rfl
@[simp] theorem scheds_setSensors (s : State) (d : DeckId) (x : DeckPins) : (s.setSensors d x).scheds = s.scheds := rfl
@[simp] theorem pending_setSensors (s : State) (d : DeckId) (x : DeckPins) : (s.setSensors d x).pending = s.pending := rfl
@[simp] theorem sensors_setSensors_self (s : State) (d : DeckId) (x : DeckPins) : (s.setSensors d x).sensors d = x := Pair.get_set_self _ d x
@[simp] theorem sensors_setSensors_other (s : State) (d : DeckId) (x : DeckPins) : (s.setSensors d x).sensors d.other = s.sensors d.other :=
  Pair.get_set_other _ d x
theorem sensors_setSensors (s : State) (d e : DeckId) (x : DeckPins) : (s.setSensors d x).sensors e = if e = d then x else s.sensors e :=
  Pair.get_set _ d e x
@[simp] theorem setSensors_self (s : State) (d : DeckId) : s.setSensors d (s.sensors d) = s := by
  simp [setSensors, sensors]
@[simp] theorem setSensors_setSensors (s : State) (d : DeckId) (x y : DeckPins) : (s.setSensors d x).setSensors d y = s.setSensors d y := by
  simp [setSensors]
@[simp] theorem deck_setSensors (s : State) (d e : DeckId) (x : DeckPins) : (s.setSensors d x).deck e = s.deck e := rfl
@[simp] theorem mark_setSensors (s : State) (d e : DeckId) (x : DeckPins) : (s.setSensors d x).mark e = s.mark e := rfl
@[simp] theorem lens_setSensors (s : State) (d e : DeckId) (x : DeckPins) : (s.setSensors d x).lens e = s.lens e := rfl
@[simp] theorem pool_setSensors (s : State) (d e : DeckId) (x : DeckPins) : (s.setSensors d x).pool e = s.pool e := rfl
@[simp] theorem sched_setSensors (s : State) (d e : DeckId) (x : DeckPins) : (s.setSensors d x).sched e = s.sched e := rfl
@[simp] theorem entry_setSensors (s : State) (d : DeckId) (x : DeckPins) (k : Slot) : (s.setSensors d x).entry k = s.entry k := rfl
@[simp] theorem chain_setSensors (s : State) (d : DeckId) (x : DeckPins) (k : Slot) : (s.setSensors d x).chain k = s.chain k := rfl
@[simp] theorem ticket_setSensors (s : State) (d : DeckId) (x : DeckPins) (k : TicketNo) : (s.setSensors d x).ticket k = s.ticket k := rfl

/-! ## setEntry -/

@[simp] theorem pins_setEntry (s : State) (k : Slot) (x : Entry) : (s.setEntry k x).pins = s.pins := rfl
@[simp] theorem deckPins_setEntry (s : State) (k : Slot) (x : Entry) : (s.setEntry k x).deckPins = s.deckPins := rfl
@[simp] theorem rate_setEntry (s : State) (k : Slot) (x : Entry) : (s.setEntry k x).rate = s.rate := rfl
@[simp] theorem params_setEntry (s : State) (k : Slot) (x : Entry) : (s.setEntry k x).params = s.params := rfl
@[simp] theorem rlp_setEntry (s : State) (k : Slot) (x : Entry) : (s.setEntry k x).rlp = s.rlp := rfl
@[simp] theorem chains_setEntry (s : State) (k : Slot) (x : Entry) : (s.setEntry k x).chains = s.chains := rfl
@[simp] theorem freeCount_setEntry (s : State) (k : Slot) (x : Entry) : (s.setEntry k x).freeCount = s.freeCount := rfl
@[simp] theorem poolDecks_setEntry (s : State) (k : Slot) (x : Entry) : (s.setEntry k x).poolDecks = s.poolDecks := rfl
@[simp] theorem decks_setEntry (s : State) (k : Slot) (x : Entry) : (s.setEntry k x).decks = s.decks := rfl
@[simp] theorem marks_setEntry (s : State) (k : Slot) (x : Entry) : (s.setEntry k x).marks = s.marks := rfl
@[simp] theorem lenses_setEntry (s : State) (k : Slot) (x : Entry) : (s.setEntry k x).lenses = s.lenses := rfl
@[simp] theorem fseq_setEntry (s : State) (k : Slot) (x : Entry) : (s.setEntry k x).fseq = s.fseq := rfl
@[simp] theorem opa_setEntry (s : State) (k : Slot) (x : Entry) : (s.setEntry k x).opa = s.opa := rfl
@[simp] theorem hlp_setEntry (s : State) (k : Slot) (x : Entry) : (s.setEntry k x).hlp = s.hlp := rfl
@[simp] theorem tickets_setEntry (s : State) (k : Slot) (x : Entry) : (s.setEntry k x).tickets = s.tickets := rfl
@[simp] theorem admission_setEntry (s : State) (k : Slot) (x : Entry) : (s.setEntry k x).admission = s.admission := rfl
@[simp] theorem scheds_setEntry (s : State) (k : Slot) (x : Entry) : (s.setEntry k x).scheds = s.scheds := rfl
@[simp] theorem pending_setEntry (s : State) (k : Slot) (x : Entry) : (s.setEntry k x).pending = s.pending := rfl
theorem entry_setEntry (s : State) (k j : Slot) (x : Entry) : (s.setEntry k x).entry j = if j = k then x else s.entry j := by
  simp only [entry, setEntry, Fin.getElem_fin, Vector.getElem_set, Fin.val_inj, eq_comm]
@[simp] theorem entry_setEntry_self (s : State) (k : Slot) (x : Entry) : (s.setEntry k x).entry k = x := by simp [entry_setEntry]
theorem entry_setEntry_of_ne (s : State) {k j : Slot} (x : Entry) (h : j ≠ k) : (s.setEntry k x).entry j = s.entry j := by
  simp [entry_setEntry, h]
@[simp] theorem deck_setEntry (s : State) (k : Slot) (x : Entry) (d : DeckId) : (s.setEntry k x).deck d = s.deck d := rfl
@[simp] theorem mark_setEntry (s : State) (k : Slot) (x : Entry) (d : DeckId) : (s.setEntry k x).mark d = s.mark d := rfl
@[simp] theorem lens_setEntry (s : State) (k : Slot) (x : Entry) (d : DeckId) : (s.setEntry k x).lens d = s.lens d := rfl
@[simp] theorem pool_setEntry (s : State) (k : Slot) (x : Entry) (d : DeckId) : (s.setEntry k x).pool d = s.pool d := rfl
@[simp] theorem sched_setEntry (s : State) (k : Slot) (x : Entry) (d : DeckId) : (s.setEntry k x).sched d = s.sched d := rfl
@[simp] theorem sensors_setEntry (s : State) (k : Slot) (x : Entry) (d : DeckId) : (s.setEntry k x).sensors d = s.sensors d := rfl
@[simp] theorem chain_setEntry (s : State) (k : Slot) (x : Entry) (j : Slot) : (s.setEntry k x).chain j = s.chain j := rfl
@[simp] theorem ticket_setEntry (s : State) (k : Slot) (x : Entry) (j : TicketNo) : (s.setEntry k x).ticket j = s.ticket j := rfl

/-! ## setChain -/

@[simp] theorem pins_setChain (s : State) (k : Slot) (x : List FrameRecord) : (s.setChain k x).pins = s.pins := rfl
@[simp] theorem deckPins_setChain (s : State) (k : Slot) (x : List FrameRecord) : (s.setChain k x).deckPins = s.deckPins := rfl
@[simp] theorem rate_setChain (s : State) (k : Slot) (x : List FrameRecord) : (s.setChain k x).rate = s.rate := rfl
@[simp] theorem params_setChain (s : State) (k : Slot) (x : List FrameRecord) : (s.setChain k x).params = s.params := rfl
@[simp] theorem rlp_setChain (s : State) (k : Slot) (x : List FrameRecord) : (s.setChain k x).rlp = s.rlp := rfl
@[simp] theorem entries_setChain (s : State) (k : Slot) (x : List FrameRecord) : (s.setChain k x).entries = s.entries := rfl
@[simp] theorem freeCount_setChain (s : State) (k : Slot) (x : List FrameRecord) : (s.setChain k x).freeCount = s.freeCount := rfl
@[simp] theorem poolDecks_setChain (s : State) (k : Slot) (x : List FrameRecord) : (s.setChain k x).poolDecks = s.poolDecks := rfl
@[simp] theorem decks_setChain (s : State) (k : Slot) (x : List FrameRecord) : (s.setChain k x).decks = s.decks := rfl
@[simp] theorem marks_setChain (s : State) (k : Slot) (x : List FrameRecord) : (s.setChain k x).marks = s.marks := rfl
@[simp] theorem lenses_setChain (s : State) (k : Slot) (x : List FrameRecord) : (s.setChain k x).lenses = s.lenses := rfl
@[simp] theorem fseq_setChain (s : State) (k : Slot) (x : List FrameRecord) : (s.setChain k x).fseq = s.fseq := rfl
@[simp] theorem opa_setChain (s : State) (k : Slot) (x : List FrameRecord) : (s.setChain k x).opa = s.opa := rfl
@[simp] theorem hlp_setChain (s : State) (k : Slot) (x : List FrameRecord) : (s.setChain k x).hlp = s.hlp := rfl
@[simp] theorem tickets_setChain (s : State) (k : Slot) (x : List FrameRecord) : (s.setChain k x).tickets = s.tickets := rfl
@[simp] theorem admission_setChain (s : State) (k : Slot) (x : List FrameRecord) : (s.setChain k x).admission = s.admission := rfl
@[simp] theorem scheds_setChain (s : State) (k : Slot) (x : List FrameRecord) : (s.setChain k x).scheds = s.scheds := rfl
@[simp] theorem pending_setChain (s : State) (k : Slot) (x : List FrameRecord) : (s.setChain k x).pending = s.pending := rfl
theorem chain_setChain (s : State) (k j : Slot) (x : List FrameRecord) : (s.setChain k x).chain j = if j = k then x else s.chain j := by
  simp only [chain, setChain, Fin.getElem_fin, Vector.getElem_set, Fin.val_inj, eq_comm]
@[simp] theorem chain_setChain_self (s : State) (k : Slot) (x : List FrameRecord) : (s.setChain k x).chain k = x := by simp [chain_setChain]
theorem chain_setChain_of_ne (s : State) {k j : Slot} (x : List FrameRecord) (h : j ≠ k) : (s.setChain k x).chain j = s.chain j := by
  simp [chain_setChain, h]
@[simp] theorem deck_setChain (s : State) (k : Slot) (x : List FrameRecord) (d : DeckId) : (s.setChain k x).deck d = s.deck d := rfl
@[simp] theorem mark_setChain (s : State) (k : Slot) (x : List FrameRecord) (d : DeckId) : (s.setChain k x).mark d = s.mark d := rfl
@[simp] theorem lens_setChain (s : State) (k : Slot) (x : List FrameRecord) (d : DeckId) : (s.setChain k x).lens d = s.lens d := rfl
@[simp] theorem pool_setChain (s : State) (k : Slot) (x : List FrameRecord) (d : DeckId) : (s.setChain k x).pool d = s.pool d := rfl
@[simp] theorem sched_setChain (s : State) (k : Slot) (x : List FrameRecord) (d : DeckId) : (s.setChain k x).sched d = s.sched d := rfl
@[simp] theorem sensors_setChain (s : State) (k : Slot) (x : List FrameRecord) (d : DeckId) : (s.setChain k x).sensors d = s.sensors d := rfl
@[simp] theorem entry_setChain (s : State) (k : Slot) (x : List FrameRecord) (j : Slot) : (s.setChain k x).entry j = s.entry j := rfl
@[simp] theorem ticket_setChain (s : State) (k : Slot) (x : List FrameRecord) (j : TicketNo) : (s.setChain k x).ticket j = s.ticket j := rfl

/-! ## setTicket -/

@[simp] theorem pins_setTicket (s : State) (k : TicketNo) (x : Ticket) : (s.setTicket k x).pins = s.pins := rfl
@[simp] theorem deckPins_setTicket (s : State) (k : TicketNo) (x : Ticket) : (s.setTicket k x).deckPins = s.deckPins := rfl
@[simp] theorem rate_setTicket (s : State) (k : TicketNo) (x : Ticket) : (s.setTicket k x).rate = s.rate := rfl
@[simp] theorem params_setTicket (s : State) (k : TicketNo) (x : Ticket) : (s.setTicket k x).params = s.params := rfl
@[simp] theorem rlp_setTicket (s : State) (k : TicketNo) (x : Ticket) : (s.setTicket k x).rlp = s.rlp := rfl
@[simp] theorem entries_setTicket (s : State) (k : TicketNo) (x : Ticket) : (s.setTicket k x).entries = s.entries := rfl
@[simp] theorem chains_setTicket (s : State) (k : TicketNo) (x : Ticket) : (s.setTicket k x).chains = s.chains := rfl
@[simp] theorem freeCount_setTicket (s : State) (k : TicketNo) (x : Ticket) : (s.setTicket k x).freeCount = s.freeCount := rfl
@[simp] theorem poolDecks_setTicket (s : State) (k : TicketNo) (x : Ticket) : (s.setTicket k x).poolDecks = s.poolDecks := rfl
@[simp] theorem decks_setTicket (s : State) (k : TicketNo) (x : Ticket) : (s.setTicket k x).decks = s.decks := rfl
@[simp] theorem marks_setTicket (s : State) (k : TicketNo) (x : Ticket) : (s.setTicket k x).marks = s.marks := rfl
@[simp] theorem lenses_setTicket (s : State) (k : TicketNo) (x : Ticket) : (s.setTicket k x).lenses = s.lenses := rfl
@[simp] theorem fseq_setTicket (s : State) (k : TicketNo) (x : Ticket) : (s.setTicket k x).fseq = s.fseq := rfl
@[simp] theorem opa_setTicket (s : State) (k : TicketNo) (x : Ticket) : (s.setTicket k x).opa = s.opa := rfl
@[simp] theorem hlp_setTicket (s : State) (k : TicketNo) (x : Ticket) : (s.setTicket k x).hlp = s.hlp := rfl
@[simp] theorem admission_setTicket (s : State) (k : TicketNo) (x : Ticket) : (s.setTicket k x).admission = s.admission := rfl
@[simp] theorem scheds_setTicket (s : State) (k : TicketNo) (x : Ticket) : (s.setTicket k x).scheds = s.scheds := rfl
@[simp] theorem pending_setTicket (s : State) (k : TicketNo) (x : Ticket) : (s.setTicket k x).pending = s.pending := rfl
theorem ticket_setTicket (s : State) (k j : TicketNo) (x : Ticket) : (s.setTicket k x).ticket j = if j = k then x else s.ticket j := by
  simp only [ticket, setTicket, Fin.getElem_fin, Vector.getElem_set, Fin.val_inj, eq_comm]
@[simp] theorem ticket_setTicket_self (s : State) (k : TicketNo) (x : Ticket) : (s.setTicket k x).ticket k = x := by simp [ticket_setTicket]
theorem ticket_setTicket_of_ne (s : State) {k j : TicketNo} (x : Ticket) (h : j ≠ k) : (s.setTicket k x).ticket j = s.ticket j := by
  simp [ticket_setTicket, h]
@[simp] theorem deck_setTicket (s : State) (k : TicketNo) (x : Ticket) (d : DeckId) : (s.setTicket k x).deck d = s.deck d := rfl
@[simp] theorem mark_setTicket (s : State) (k : TicketNo) (x : Ticket) (d : DeckId) : (s.setTicket k x).mark d = s.mark d := rfl
@[simp] theorem lens_setTicket (s : State) (k : TicketNo) (x : Ticket) (d : DeckId) : (s.setTicket k x).lens d = s.lens d := rfl
@[simp] theorem pool_setTicket (s : State) (k : TicketNo) (x : Ticket) (d : DeckId) : (s.setTicket k x).pool d = s.pool d := rfl
@[simp] theorem sched_setTicket (s : State) (k : TicketNo) (x : Ticket) (d : DeckId) : (s.setTicket k x).sched d = s.sched d := rfl
@[simp] theorem sensors_setTicket (s : State) (k : TicketNo) (x : Ticket) (d : DeckId) : (s.setTicket k x).sensors d = s.sensors d := rfl
@[simp] theorem entry_setTicket (s : State) (k : TicketNo) (x : Ticket) (j : Slot) : (s.setTicket k x).entry j = s.entry j := rfl
@[simp] theorem chain_setTicket (s : State) (k : TicketNo) (x : Ticket) (j : Slot) : (s.setTicket k x).chain j = s.chain j := rfl

end Machine.State

end Sys2Proof
end

