-- ==== Sys2Proof/Laws/Inner.lean ====
section
/-! SUPPORT. What the blocks behind the links can do to the state, said once: `Inner s t` says that `t` comes from `s` by
updates of the decks, mark readers, lenses, pool, catalogue, sequencer, arbiter, head link, tickets and scheduler alone. Every
operation of theirs is such a chain of updates, so a law that the updates keep holds after every operation. -/

namespace Sys2Proof.Machine

/-- The updates of the tenure holder and the path that the arbiter makes (R106, R107, R109, R111): holder and path stay; the
holder is dropped; a path without a holder moves; a path that is at no gate changes; a deck at its own gate is granted. -/
inductive Opa.Moves : Opa → Opa → Prop where
  | keep {o p : Opa} (h : p.holder = o.holder) (g : p.path = o.path) : Moves o p
  | drop {o p : Opa} (h : p.holder = none) (g : p.path = o.path) : Moves o p
  | free {o p : Opa} (h : o.holder = none) (g : p.holder = none) : Moves o p
  | ends {o p : Opa} (h : ∀ d, o.path ≠ .atGate d) (g : p.holder = o.holder) : Moves o p
  | grant {o p : Opa} (d : DeckId) (h : o.path = .atGate d) (g : p.path = .atGate d) (k : p.holder = some d) : Moves o p

/-- Chains of the updates that the blocks behind the links make. -/
inductive Inner (s : State) : State → Prop where
  | refl : Inner s s
  | deck {t : State} (h : Inner s t) (d : DeckId) (x : Deck) : Inner s (t.setDeck d x)
  | mark {t : State} (h : Inner s t) (d : DeckId) (x : Mark) : Inner s (t.setMark d x)
  | lens {t : State} (h : Inner s t) (d : DeckId) (x : Lens) : Inner s (t.setLens d x)
  | pool {t : State} (h : Inner s t) (d : DeckId) (x : PoolDeck) : Inner s (t.setPool d x)
  | sched {t : State} (h : Inner s t) (d : DeckId) (x : Sched) : Inner s (t.setSched d x)
  | scheds {t : State} (h : Inner s t) (x : Pair Sched) : Inner s { t with scheds := x }
  | ticket {t : State} (h : Inner s t) (n : TicketNo) (x : Ticket) : Inner s (t.setTicket n x)
  | tickets {t : State} (h : Inner s t) (x : Vector Ticket 16) : Inner s { t with tickets := x }
  | admission {t : State} (h : Inner s t) (x : List TicketNo) : Inner s { t with admission := x }
  | fseq {t : State} (h : Inner s t) (x : Fseq) (g : x.plan = t.fseq.plan) : Inner s { t with fseq := x }
  | hlp {t : State} (h : Inner s t) (x : Hlp) : Inner s { t with hlp := x }
  | opa {t : State} (h : Inner s t) (x : Opa) (g : Opa.Moves t.opa x) : Inner s { t with opa := x }
  | entry {t : State} (h : Inner s t) (k : Slot) (x : Entry) (g : x.frameCount = (t.entry k).frameCount)
      (i : x.state = .free → (t.entry k).state = .free) : Inner s (t.setEntry k x)
  | created {t : State} (h : Inner s t) (k : Slot) (x : Entry) (g : (t.entry k).state = .free) (i : x.frameCount = 0) :
      Inner s (t.setEntry k x)
  | freed {t : State} (h : Inner s t) (k : Slot) : Inner s (t.freeEntry k)
  | record {t : State} (h : Inner s t) (k : Slot) (f : FrameRecord → FrameRecord) (g : ∀ r, (f r).frame = r.frame) :
      Inner s (t.setChain k ((t.chain k).map f))
  | appended {t : State} (h : Inner s t) (k : Slot) (p : Nat) (c : MarkClass) (cond : Condition) (sp : Option Nat)
      (g : t.freeCount ≠ 0) : Inner s (t.append k p c cond sp)

theorem Inner.trans {s t u : State} (h : Inner s t) (g : Inner t u) : Inner s u := by
  induction g with
  | refl => exact h
  | deck _ d x ih => exact ih.deck d x
  | mark _ d x ih => exact ih.mark d x
  | lens _ d x ih => exact ih.lens d x
  | pool _ d x ih => exact ih.pool d x
  | sched _ d x ih => exact ih.sched d x
  | scheds _ x ih => exact ih.scheds x
  | ticket _ n x ih => exact ih.ticket n x
  | tickets _ x ih => exact ih.tickets x
  | admission _ x ih => exact ih.admission x
  | fseq _ x g ih => exact ih.fseq x g
  | hlp _ x ih => exact ih.hlp x
  | opa _ x g ih => exact ih.opa x g
  | entry _ k x g i ih => exact ih.entry k x g i
  | created _ k x g i ih => exact ih.created k x g i
  | freed _ k ih => exact ih.freed k
  | record _ k f g ih => exact ih.record k f g
  | appended _ k p c cond sp g ih => exact ih.appended k p c cond sp g

/-! ## The arbiter -/

theorem Inner.grant {s₀ s : State} (h : Inner s₀ s) {d : DeckId} (g : s.opa.path = .atGate d) : Inner s₀ (s.grant d) := by
  have h₁ : Inner s₀ { s with opa := { s.opa with holder := some d, jobCount := 0, closing := false, job := false, wanted := none } } :=
    h.opa _ (.grant d g g rfl)
  unfold State.grant
  dsimp only
  split
  · split
    · exact h₁
    · exact (h₁.sched _ _).fseq _ rfl
  · exact h₁

theorem Inner.beginMove {s₀ s : State} (h : Inner s₀ s) (g : DeckId) (i : s.opa.holder = none) : Inner s₀ (s.beginMove g) :=
  h.opa _ (.free i i)

theorem Inner.endMove {s₀ s : State} (h : Inner s₀ s) (g : DeckId) (i : s.opa.path = .moving g) : Inner s₀ (s.endMove g) :=
  h.opa _ (.ends (by simp [i]) rfl)

/-- A decision to grant is made only for the deck whose gate the path is set to (R109). -/
theorem Opa.decide_grant {o : Opa} {limited : Option DeckId} {d : DeckId} (h : o.decide limited = .grant d) :
    o.path = .atGate d := by
  unfold Opa.decide at h
  (repeat' split at h) <;> simp_all

theorem Inner.apply {s₀ s : State} (h : Inner s₀ s) (limited : Option DeckId) :
    Inner s₀ (s.apply (s.opa.decide limited)) := by
  cases hd : s.opa.decide limited with
  | grant d => exact h.grant (Opa.decide_grant hd)
  | want g => exact h.opa _ (.keep rfl rfl)
  | clear => exact h.opa _ (.keep rfl rfl)
  | keep => exact h

/-- A grant leaves no move wanted; every other decision leaves the holder. -/
theorem State.apply_wanted {s : State} (limited : Option DeckId) {g : DeckId} (i : s.opa.holder = none)
    (w : (s.apply (s.opa.decide limited)).opa.wanted = some g) : (s.apply (s.opa.decide limited)).opa.holder = none := by
  cases hd : s.opa.decide limited with
  | grant d =>
    rw [hd] at w
    simp only [State.apply, State.grant] at w
    (repeat' split at w) <;> simp at w
  | want g => exact i
  | clear => exact i
  | keep => exact i

theorem Inner.arbitrate (n : Nat) : ∀ {s₀ s : State} (_ : Inner s₀ s) (limited : Option DeckId),
    Inner s₀ (State.arbitrate n limited s) := by
  induction n with
  | zero => intro s₀ s h limited; exact h
  | succ n ih =>
    intro s₀ s h limited
    simp only [State.arbitrate]
    split
    · exact h
    · rename_i hn
      have hn : s.opa.holder = none := by simpa using hn
      have ha := h.apply limited
      split
      · rename_i g hw
        have hh := State.apply_wanted limited hn hw
        split
        · split
          · exact ih ((ha.beginMove g hh).endMove g rfl) none
          · exact ha.beginMove g hh
        · exact ha
      · exact ha

theorem Inner.arbitrateNow {s₀ s : State} (h : Inner s₀ s) (limited : Option DeckId) : Inner s₀ (s.arbitrateNow limited) :=
  Inner.arbitrate 4 h limited

theorem Inner.releaseTenure {s₀ s : State} (h : Inner s₀ s) (limited : Option DeckId) :
    Inner s₀ (s.releaseTenure limited) := by
  refine Inner.arbitrateNow (h.opa _ ?_) limited
  exact .drop rfl rfl

theorem Inner.decideTenure {s₀ s : State} (h : Inner s₀ s) (d : DeckId) : Inner s₀ (s.decideTenure d) := by
  unfold State.decideTenure
  (repeat' split) <;> first | exact h | exact h.releaseTenure _

theorem Inner.raise {s₀ s : State} (h : Inner s₀ s) (d : DeckId) : Inner s₀ (s.raise d) := by
  unfold State.raise
  split
  · exact h
  · refine Inner.arbitrateNow (h.opa _ ?_) none
    exact .keep rfl rfl

theorem Inner.withdraw {s₀ s : State} (h : Inner s₀ s) (d : DeckId) : Inner s₀ (s.withdraw d) := by
  have h₁ : Inner s₀ { s with opa := s.opa.lower d } := h.opa _ (.keep rfl rfl)
  unfold State.withdraw
  dsimp only
  (repeat' split) <;> first | exact h | exact h₁ | exact h₁.decideTenure d | skip
  refine Inner.arbitrateNow (h₁.opa _ ?_) none
  unfold Opa.dropWanted
  (repeat' split) <;> exact .keep rfl rfl

theorem Inner.jobBegin {s₀ s : State} (h : Inner s₀ s) (d : DeckId) : Inner s₀ (s.jobBegin d) := by
  unfold State.jobBegin
  split
  · exact h.opa _ (.keep rfl rfl)
  · exact h

theorem Inner.jobEnd {s₀ s : State} (h : Inner s₀ s) (d : DeckId) : Inner s₀ (s.jobEnd d) := by
  unfold State.jobEnd
  split
  · refine Inner.decideTenure (h.opa _ ?_) d
    exact .keep rfl rfl
  · exact h

theorem Inner.closeTenure {s₀ s : State} (h : Inner s₀ s) (d : DeckId) : Inner s₀ (s.closeTenure d) := by
  have h₁ : Inner s₀ { s with opa := { s.opa with closing := true } } := h.opa _ (.keep rfl rfl)
  unfold State.closeTenure
  dsimp only
  (repeat' split) <;> first | exact h | exact h₁ | exact h₁.decideTenure d

theorem Inner.limitMade {s₀ s : State} (h : Inner s₀ s) (g : DeckId) : Inner s₀ (s.limitMade g) := by
  unfold State.limitMade
  split
  · rename_i i
    exact (h.endMove g i.1).arbitrateNow none
  · exact h

theorem Inner.enterFault {s₀ s : State} (h : Inner s₀ s) : Inner s₀ s.enterFault.1 := by
  unfold State.enterFault
  split
  · rename_i g t i j
    exact h.opa _ (.ends (by simp [i]) rfl)
  · exact h

/-! ## Head link, lens and focus sequencer -/

theorem Inner.handOver {s₀ s : State} (h : Inner s₀ s) (r : OrderRequest) :
    Inner s₀ (s.handOver r).1 := by
  unfold State.handOver
  try dsimp only
  (repeat' split) <;> solve_by_elim (maxDepth := 30) [Inner.hlp]

theorem Inner.clearOrder {s₀ s : State} (h : Inner s₀ s)  :
    Inner s₀ (s.clearOrder) := by
  unfold State.clearOrder
  try dsimp only
  solve_by_elim (maxDepth := 30) [Inner.hlp]

theorem Inner.lensMove {s₀ s : State} (h : Inner s₀ s) (d : DeckId) (target : Int) (h : Holder) :
    Inner s₀ (s.lensMove d target h).1 := by
  unfold State.lensMove
  try dsimp only
  solve_by_elim (maxDepth := 30) [Inner.lens]

theorem Inner.setSweep {s₀ s : State} (h : Inner s₀ s) (w : Option Sweep) :
    Inner s₀ (s.setSweep w) := by
  unfold State.setSweep
  try dsimp only
  solve_by_elim (maxDepth := 30) [Inner.fseq]

theorem Inner.endAbort {s₀ s : State} (h : Inner s₀ s) (w : Sweep) (cause : AbortCause) :
    Inner s₀ (s.endAbort w cause).1 := by
  unfold State.endAbort
  try dsimp only
  solve_by_elim (maxDepth := 30) [Inner.jobEnd, Inner.setSweep]

theorem Inner.pauseEnded {s₀ s : State} (h : Inner s₀ s) (w : Sweep) (pos : Nat) :
    Inner s₀ (s.pauseEnded w pos).1 := by
  unfold State.pauseEnded
  try dsimp only
  (repeat' split) <;> solve_by_elim (maxDepth := 30) [Inner.endAbort, Inner.handOver, Inner.setSweep]

theorem Inner.stepArrived {s₀ s : State} (h : Inner s₀ s) (w : Sweep) (pos : Nat) :
    Inner s₀ (s.stepArrived w pos).1 := by
  unfold State.stepArrived
  try dsimp only
  (repeat' split) <;> solve_by_elim (maxDepth := 30) [Inner.pauseEnded, Inner.setSweep]

theorem Inner.beginStep {s₀ s : State} (h : Inner s₀ s) (w : Sweep) (n : Nat) :
    Inner s₀ (s.beginStep w n).1 := by
  unfold State.beginStep
  try dsimp only
  (repeat' split) <;> solve_by_elim (maxDepth := 30) [Inner.lensMove, Inner.setSweep, Inner.stepArrived]

/-- A record of a frame changed, its number kept. -/
theorem Inner.setRecord {s₀ s : State} (h : Inner s₀ s) (k : Slot) (frame : Nat) (f : FrameRecord → FrameRecord)
    (g : ∀ r, (f r).frame = r.frame) : Inner s₀ (s.setRecord k frame f) := by
  refine h.record k _ fun r => ?_
  split
  · exact g r
  · rfl

@[simp] theorem FrameRecord.sweepWrite_frame (r : FrameRecord) (p q : Nat) (b : Bool) :
    (r.sweepWrite p q b).frame = r.frame := by
  unfold FrameRecord.sweepWrite
  (repeat' split) <;> rfl

/-- An entry changed in fields that leave its frame count and state. -/
theorem Inner.entryKeep {s₀ s : State} (h : Inner s₀ s) (k : Slot) (x : Entry) (g : x.frameCount = (s.entry k).frameCount)
    (i : x.state = (s.entry k).state) : Inner s₀ (s.setEntry k x) := h.entry k x g fun e => i ▸ e

theorem Inner.sweepWrite {s₀ s : State} (h : Inner s₀ s) (w : Sweep) (setpoint figure : Nat) :
    Inner s₀ (s.sweepWrite w setpoint figure) :=
  (h.setRecord _ _ _ fun r => r.sweepWrite_frame _ _ _).entryKeep _ _ rfl rfl

theorem Inner.completeSweep {s₀ s : State} (h : Inner s₀ s) (w : Sweep) (best : Figure) :
    Inner s₀ (s.completeSweep w best).1 := by
  unfold State.completeSweep
  try dsimp only
  (repeat' split) <;> solve_by_elim (maxDepth := 30) [Inner.jobEnd, Inner.lensMove, Inner.setSweep, Inner.sweepWrite, Inner.fseq]

theorem Inner.passEnded {s₀ s : State} (h : Inner s₀ s) (w : Sweep) :
    Inner s₀ (s.passEnded w).1 := by
  unfold State.passEnded
  try dsimp only
  (repeat' split) <;> solve_by_elim (maxDepth := 30) [Inner.beginStep, Inner.completeSweep, Inner.endAbort]

theorem Inner.testEnded {s₀ s : State} (h : Inner s₀ s) (e : OrderEnd) :
    Inner s₀ (s.testEnded e).1 := by
  unfold State.testEnded
  try dsimp only
  (repeat' split) <;> solve_by_elim (maxDepth := 30) [Inner.beginStep, Inner.endAbort, Inner.passEnded, Inner.setSweep]

theorem Inner.abortSweep {s₀ s : State} (h : Inner s₀ s) (d : DeckId) (cause : AbortCause) :
    Inner s₀ (s.abortSweep d cause).1 := by
  unfold State.abortSweep
  try dsimp only
  (repeat' split) <;> solve_by_elim (maxDepth := 30) [Inner.endAbort, Inner.setSweep]

theorem Inner.startSweep {s₀ s : State} (h : Inner s₀ s) (d : DeckId) (k : Slot) (frame : Nat) (forFocus track : Bool) :
    Inner s₀ (s.startSweep d k frame forFocus track).1 := by
  unfold State.startSweep
  try dsimp only
  (repeat' split) <;> solve_by_elim (maxDepth := 30) [Inner.abortSweep, Inner.beginStep, Inner.jobBegin]

theorem Inner.rebuildCrossing {s₀ s : State} (h : Inner s₀ s) (d : DeckId) :
    Inner s₀ (s.rebuildCrossing d) := by
  unfold State.rebuildCrossing
  try dsimp only
  (repeat' split) <;> solve_by_elim (maxDepth := 30) [Inner.pool]

@[simp] theorem FrameRecord.miss_frame (r : FrameRecord) : r.miss.frame = r.frame := rfl

theorem Inner.updateCrossing {s₀ s : State} (h : Inner s₀ s) (d : DeckId) :
    Inner s₀ (s.updateCrossing d) := by
  unfold State.updateCrossing
  dsimp only
  (repeat' split) <;> first | exact h | exact h.pool _ _ | skip
  refine Inner.record (h.pool _ _) _ _ fun r => ?_
  split <;> rfl

theorem Inner.holdCrossing {s₀ s : State} (h : Inner s₀ s) (d : DeckId) (old : Nat) (excuse : Bool) :
    Inner s₀ (s.holdCrossing d old excuse) := by
  unfold State.holdCrossing
  dsimp only
  (repeat' split) <;> first | exact h | exact h.pool _ _

theorem Inner.slip {s₀ s : State} (h : Inner s₀ s) (d : DeckId) (δ : Int) :
    Inner s₀ (s.slip d δ) := by
  unfold State.slip
  try dsimp only
  (repeat' split) <;> solve_by_elim (maxDepth := 30) [Inner.deck, Inner.mark, Inner.updateCrossing, Inner.holdCrossing]

theorem Inner.correctBy {s₀ s : State} (h : Inner s₀ s) (d : DeckId) (k : Slot) (frame : Nat) (delta : Int) :
    Inner s₀ (s.correctBy d k frame delta) := by
  unfold State.correctBy
  dsimp only
  refine Inner.slip ?_ d _
  have h₁ := h.setRecord k frame (fun r => { r with missCount := 0 }) fun _ => rfl
  split
  · exact h₁.entryKeep _ _ rfl rfl
  · exact h₁

theorem Inner.moveRecord {s₀ s : State} (h : Inner s₀ s) (k : Slot) (frame p : Nat) : Inner s₀ (s.moveRecord k frame p) := by
  unfold State.moveRecord
  dsimp only
  have h₁ := h.setRecord k frame (fun r => { r with position := p, condition := .verified, missCount := 0 }) fun _ => rfl
  split
  · exact h₁.entryKeep _ _ rfl rfl
  · exact h₁

theorem Inner.damage {s₀ s : State} (h : Inner s₀ s) (k : Slot) (frame : Nat) : Inner s₀ (s.damage k frame) :=
  h.setRecord k frame _ fun _ => rfl

theorem Inner.matchRecord {s₀ s : State} (h : Inner s₀ s) (d : DeckId) (k : Slot) (r : FrameRecord) (c : MarkClass)
    (p : Nat) : Inner s₀ (s.matchRecord d k r c p).1 := by
  unfold State.matchRecord
  dsimp only
  (repeat' split) <;> first
    | exact h.damage _ _
    | exact h.correctBy _ _ _ _
    | exact h.moveRecord _ _ _
    | exact h.setRecord _ _ _ fun _ => rfl

theorem Inner.unmatched {s₀ s : State} (h : Inner s₀ s) (d : DeckId) (k : Slot) (c : MarkClass) (p : Nat) :
    Inner s₀ (s.unmatched d k c p).1 := by
  unfold State.unmatched
  dsimp only
  split
  · exact h.entryKeep _ _ rfl rfl
  · split
    · split
      · refine Inner.pool (h.entryKeep _ _ ?_ ?_) _ _ <;> rfl
      · rename_i hf
        refine Inner.pool (Inner.entryKeep (h.appended k p c .seen none hf) _ _ ?_ ?_) _ _ <;> rfl
    · exact h

theorem Inner.noteSearch {s₀ s : State} (h : Inner s₀ s) (d : DeckId) (k : Slot) (c : MarkClass) (p : Nat) (matched : Option Nat) :
    Inner s₀ (s.noteSearch d k c p matched) := by
  unfold State.noteSearch
  try dsimp only
  (repeat' split) <;> solve_by_elim (maxDepth := 30) [Inner.mark]

theorem Inner.matchMark {s₀ s : State} (h : Inner s₀ s) (d : DeckId) (k : Slot) (c : MarkClass) (p : Nat) :
    Inner s₀ (s.matchMark d k c p).1 := by
  unfold State.matchMark
  try dsimp only
  (repeat' split) <;> solve_by_elim (maxDepth := 30) [Inner.matchRecord, Inner.noteSearch, Inner.pool, Inner.unmatched]

theorem Inner.failSearch {s₀ s : State} (h : Inner s₀ s) (k : Slot) (frame : Nat) : Inner s₀ (s.failSearch k frame) :=
  h.setRecord k frame _ fun _ => rfl

theorem Inner.searchChoice {s₀ s : State} (h : Inner s₀ s) (d : DeckId) : Inner s₀ (s.searchChoice d).1 := by
  have h₁ := (h.mark d (s.mark d).dropSearch).pool d { s.pool d with searchRecord := none }
  unfold State.searchChoice
  dsimp only
  (repeat' split) <;> first
    | exact h₁
    | exact Inner.failSearch h₁ _ _
    | exact Inner.pool (Inner.correctBy h₁ _ _ _ _) _ _
    | exact Inner.pool (Inner.moveRecord h₁ _ _ _) _ _
    | (refine Inner.pool (Inner.setRecord h₁ _ _ _ ?_) _ _; exact fun _ => rfl)
    | exact Inner.failSearch (Inner.damage h₁ _ _) _ _

theorem Inner.uncount {s₀ s : State} (h : Inner s₀ s) (k : Slot) : Inner s₀ (s.uncount k) := by
  have h₁ := h.entryKeep k { s.entry k with ticketCount := (s.entry k).ticketCount - 1 } rfl rfl
  unfold State.uncount
  dsimp only
  split
  · exact h₁.freed k
  · exact h₁

theorem Inner.finalize {s₀ s : State} (h : Inner s₀ s) (t : TicketNo) (o : TicketOutcome) :
    Inner s₀ (s.finalize t o) := by
  unfold State.finalize
  try dsimp only
  (repeat' split) <;> solve_by_elim (maxDepth := 30) [Inner.sched, Inner.ticket, Inner.uncount, Inner.admission]

theorem Inner.mapTickets {s₀ s : State} (h : Inner s₀ s) (f : Ticket → Ticket) : Inner s₀ (s.mapTickets f) := h.tickets _

theorem Inner.wakeTickets {s₀ s : State} (h : Inner s₀ s) (k : Slot) :
    Inner s₀ (s.wakeTickets k) := by
  unfold State.wakeTickets
  try dsimp only
  (repeat' split) <;> solve_by_elim (maxDepth := 30) [Inner.mapTickets]

theorem Inner.parkTickets {s₀ s : State} (h : Inner s₀ s) (k : Slot) :
    Inner s₀ (s.parkTickets k) := by
  unfold State.parkTickets
  try dsimp only
  (repeat' split) <;> solve_by_elim (maxDepth := 30) [Inner.mapTickets]

theorem Inner.takeAdmission {s₀ s : State} (h : Inner s₀ s) (a : Admission) (t : TicketNo) :
    Inner s₀ (s.takeAdmission a t) := by
  refine Inner.admission (Inner.entryKeep (h.ticket t _) _ _ ?_ ?_) _
  · rfl
  · rfl

theorem Inner.bind {s₀ s : State} (h : Inner s₀ s) (k : Slot) (d : DeckId) : Inner s₀ (s.bind k d) := by
  refine Inner.rebuildCrossing (Inner.wakeTickets (h.entry k _ ?_ ?_) k) d
  · rfl
  · intro e; cases e

theorem Inner.releaseTagged {s₀ s : State} (h : Inner s₀ s) (k : Slot) (removal : Bool) :
    Inner s₀ (s.releaseTagged k removal) := by
  refine Inner.parkTickets (h.entry k _ ?_ ?_) k
  · rfl
  · intro e; cases e

theorem Inner.finalizeAll {s₀ s : State} (h : Inner s₀ s) (o : TicketOutcome) (ts : List TicketNo) :
    Inner s₀ (ts.foldl (fun s t => s.finalize t o) s) := by
  induction ts generalizing s with
  | nil => exact h
  | cons t ts ih => exact ih (h.finalize t o)

theorem Inner.releaseTransient {s₀ s : State} (h : Inner s₀ s) (k : Slot) : Inner s₀ (s.releaseTransient k) := by
  have h₁ := h.finalizeAll .unlisted (s.unlistedTickets k)
  unfold State.releaseTransient
  dsimp only
  split
  · exact h₁.freed k
  · refine h₁.entry k _ ?_ ?_
    · rfl
    · intro e; cases e

theorem Inner.releaseEntry {s₀ s : State} (h : Inner s₀ s) (k : Slot) (d : DeckId) (removal : Bool) :
    Inner s₀ (s.releaseEntry k d removal) := by
  unfold State.releaseEntry
  try dsimp only
  (repeat' split) <;> solve_by_elim (maxDepth := 30) [Inner.releaseTagged, Inner.releaseTransient, Inner.pool]

theorem Inner.releaseDeck {s₀ s : State} (h : Inner s₀ s) (d : DeckId) :
    Inner s₀ (s.releaseDeck d) := by
  unfold State.releaseDeck
  try dsimp only
  (repeat' split) <;> solve_by_elim (maxDepth := 30) [Inner.abortSweep, Inner.releaseEntry]

/-- A new entry is made only in a FREE slot (R51). -/
theorem Inner.createEntry {s₀ s : State} (h : Inner s₀ s) (k : Slot) (d : DeckId) (tag : Option Nat)
    (g : (s.entry k).state = .free) : Inner s₀ (s.createEntry k d tag) :=
  Inner.bind (h.created k _ g rfl) k d

theorem State.freeSlot_free {s : State} {k : Slot} (h : s.freeSlot = some k) : (s.entry k).state = .free := by
  have := List.find?_some h
  simpa using this

theorem Inner.resolveFresh {s₀ s : State} (h : Inner s₀ s) (d : DeckId) (r : Reading) : Inner s₀ (s.resolveFresh d r).1 := by
  unfold State.resolveFresh
  (repeat' split) <;> first
    | exact h
    | exact h.bind _ _
    | exact h.createEntry _ _ _ (State.freeSlot_free (by assumption))

theorem Inner.resolve {s₀ s : State} (h : Inner s₀ s) (d : DeckId) (i : Option Identification) (r : Reading) :
    Inner s₀ (s.resolve d i r).1 := by
  unfold State.resolve
  try dsimp only
  (repeat' split) <;> solve_by_elim (maxDepth := 30) [Inner.releaseDeck, Inner.resolveFresh]

theorem Inner.modDeck {s₀ s : State} (h : Inner s₀ s) (d : DeckId) (f : Deck → Deck) :
    Inner s₀ (s.modDeck d f) := by
  unfold State.modDeck
  try dsimp only
  solve_by_elim (maxDepth := 30) [Inner.deck]

theorem Inner.powerOff {s₀ s : State} (h : Inner s₀ s) (d : DeckId) :
    Inner s₀ (s.powerOff d) := by
  unfold State.powerOff
  try dsimp only
  solve_by_elim (maxDepth := 30) [Inner.modDeck, Inner.lens, Inner.mark]

theorem Inner.dropLeader {s₀ s : State} (h : Inner s₀ s) (d : DeckId) :
    Inner s₀ (s.dropLeader d) := by
  unfold State.dropLeader
  try dsimp only
  (repeat' split) <;> solve_by_elim (maxDepth := 30) [Inner.mark]

theorem Inner.dropShares {s₀ s : State} (h : Inner s₀ s) (d : DeckId) :
    Inner s₀ (s.dropShares d) := by
  unfold State.dropShares
  try dsimp only
  solve_by_elim (maxDepth := 30) [Inner.mark, Inner.pool]

theorem Inner.rewindEnd {s₀ s : State} (h : Inner s₀ s) (d : DeckId) :
    Inner s₀ (s.rewindEnd d) := by
  unfold State.rewindEnd
  try dsimp only
  (repeat' split) <;> solve_by_elim (maxDepth := 30) [Inner.modDeck, Inner.powerOff, Inner.releaseDeck]

theorem Inner.motionBegins {s₀ s : State} (h : Inner s₀ s) (d : DeckId) :
    Inner s₀ (s.motionBegins d) := by
  unfold State.motionBegins
  try dsimp only
  (repeat' split) <;> solve_by_elim (maxDepth := 30) [Inner.modDeck, Inner.rewindEnd]

theorem Inner.beginMotion {s₀ s : State} (h : Inner s₀ s) (d : DeckId) :
    Inner s₀ (s.beginMotion d) := by
  unfold State.beginMotion
  try dsimp only
  (repeat' split) <;> solve_by_elim (maxDepth := 30) [Inner.modDeck, Inner.motionBegins]

theorem Inner.answerArrival {s₀ s : State} (h : Inner s₀ s) (d : DeckId) :
    Inner s₀ (s.answerArrival d).1 := by
  unfold State.answerArrival
  try dsimp only
  solve_by_elim (maxDepth := 30) [Inner.pool]

theorem Inner.shuttle {s₀ s : State} (h : Inner s₀ s) (d : DeckId) (target : Nat) (frame : Option Nat) :
    Inner s₀ (s.shuttle d target frame).1 := by
  unfold State.shuttle
  try dsimp only
  (repeat' split) <;> solve_by_elim (maxDepth := 30) [Inner.answerArrival, Inner.beginMotion, Inner.modDeck, Inner.pool]

theorem Inner.toReady {s₀ s : State} (h : Inner s₀ s) (d : DeckId) :
    Inner s₀ (s.toReady d) := by
  unfold State.toReady
  try dsimp only
  solve_by_elim (maxDepth := 30) [Inner.modDeck, Inner.pool]

theorem Inner.stop {s₀ s : State} (h : Inner s₀ s) (d : DeckId) :
    Inner s₀ (s.stop d).1 := by
  unfold State.stop
  try dsimp only
  (repeat' split) <;> solve_by_elim (maxDepth := 30) [Inner.modDeck, Inner.mark, Inner.pool, Inner.toReady]

theorem Inner.setComplete {s₀ s : State} (h : Inner s₀ s) (d : DeckId) : Inner s₀ (s.setComplete d) := by
  unfold State.setComplete
  split
  · exact h.entryKeep _ _ rfl rfl
  · exact h

theorem Inner.indexRun {s₀ s : State} (h : Inner s₀ s) (d : DeckId) :
    Inner s₀ (s.indexRun d).1 := by
  unfold State.indexRun
  try dsimp only
  (repeat' split) <;> solve_by_elim (maxDepth := 30) [Inner.beginMotion, Inner.modDeck, Inner.setComplete, Inner.pool]

theorem Inner.searchFor {s₀ s : State} (h : Inner s₀ s) (d : DeckId) (target frame : Nat) :
    Inner s₀ (s.searchFor d target frame) := by
  unfold State.searchFor
  try dsimp only
  (repeat' split) <;> solve_by_elim (maxDepth := 30) [Inner.beginMotion, Inner.modDeck, Inner.mark, Inner.pool]

theorem Inner.restInPlace {s₀ s : State} (h : Inner s₀ s) (d : DeckId) : Inner s₀ (s.restInPlace d) := h.modDeck d _

theorem Inner.rest {s₀ s : State} (h : Inner s₀ s) (d : DeckId) :
    Inner s₀ (s.rest d).1 := by
  unfold State.rest
  try dsimp only
  (repeat' split) <;> solve_by_elim (maxDepth := 30) [Inner.answerArrival, Inner.toReady, Inner.restInPlace]

theorem Inner.identify {s₀ s : State} (h : Inner s₀ s) (d : DeckId) (r : Reading) :
    Inner s₀ (s.identify d r) := by
  unfold State.identify
  try dsimp only
  solve_by_elim (maxDepth := 30) [Inner.modDeck, Inner.rebuildCrossing, Inner.resolve]

theorem Inner.modSched {s₀ s : State} (h : Inner s₀ s) (d : DeckId) (f : Sched → Sched) :
    Inner s₀ (s.modSched d f) := by
  unfold State.modSched
  try dsimp only
  solve_by_elim (maxDepth := 30) [Inner.sched]

theorem Inner.modTicket {s₀ s : State} (h : Inner s₀ s) (t : TicketNo) (f : Ticket → Ticket) :
    Inner s₀ (s.modTicket t f) := by
  unfold State.modTicket
  try dsimp only
  solve_by_elim (maxDepth := 30) [Inner.ticket]

theorem Inner.stage {s₀ s : State} (h : Inner s₀ s) (t : TicketNo) (x : TicketState) :
    Inner s₀ (s.stage t x) := by
  unfold State.stage
  try dsimp only
  solve_by_elim (maxDepth := 30) [Inner.modTicket]

theorem Inner.skipTrack {s₀ s : State} (h : Inner s₀ s) (d : DeckId) :
    Inner s₀ (s.skipTrack d) := by
  unfold State.skipTrack
  try dsimp only
  solve_by_elim (maxDepth := 30) [Inner.modSched, Inner.fseq]

theorem Inner.enterExposing {s₀ s : State} (h : Inner s₀ s) (d : DeckId) (t : TicketNo) (pos : Nat) :
    Inner s₀ (s.enterExposing d t pos) := by
  unfold State.enterExposing
  try dsimp only
  solve_by_elim (maxDepth := 30) [Inner.modSched, Inner.stage]

theorem Inner.schedLens {s₀ s : State} (h : Inner s₀ s) (d : DeckId) (pos : Nat) :
    Inner s₀ (s.schedLens d pos) := by
  unfold State.schedLens
  try dsimp only
  (repeat' split) <;> solve_by_elim (maxDepth := 30) [Inner.enterExposing, Inner.modSched, Inner.shuttle]

theorem Inner.schedMove {s₀ s : State} (h : Inner s₀ s) (d : DeckId) (target : Nat) :
    Inner s₀ (s.schedMove d target) := by
  unfold State.schedMove
  try dsimp only
  (repeat' split) <;> solve_by_elim (maxDepth := 30) [Inner.lensMove, Inner.schedLens]

theorem Inner.enterFocusing {s₀ s : State} (h : Inner s₀ s) (d : DeckId) (t : TicketNo) :
    Inner s₀ (s.enterFocusing d t) := by
  unfold State.enterFocusing
  try dsimp only
  (repeat' split) <;> solve_by_elim (maxDepth := 30) [Inner.modSched, Inner.schedMove, Inner.stage]

theorem Inner.movingArrived {s₀ s : State} (h : Inner s₀ s) (d : DeckId) (t : TicketNo) (a : Arrived) :
    Inner s₀ (s.movingArrived d t a) := by
  unfold State.movingArrived
  try dsimp only
  (repeat' split) <;> solve_by_elim (maxDepth := 30) [Inner.enterFocusing, Inner.finalize, Inner.modSched, Inner.searchFor, Inner.stage]

theorem Inner.shuttleTo {s₀ s : State} (h : Inner s₀ s) (d : DeckId) (t : TicketNo) (pos frame : Nat) :
    Inner s₀ (s.shuttleTo d t pos frame) := by
  unfold State.shuttleTo
  try dsimp only
  (repeat' split) <;> solve_by_elim (maxDepth := 30) [Inner.movingArrived, Inner.shuttle]

theorem Inner.enterMoving {s₀ s : State} (h : Inner s₀ s) (d : DeckId) (t : TicketNo) :
    Inner s₀ (s.enterMoving d t) := by
  unfold State.enterMoving
  try dsimp only
  (repeat' split) <;> solve_by_elim (maxDepth := 30) [Inner.modSched, Inner.schedMove, Inner.shuttle, Inner.shuttleTo, Inner.stage]

theorem Inner.searchEnded {s₀ s : State} (h : Inner s₀ s) (d : DeckId) :
    Inner s₀ (s.searchEnded d) := by
  unfold State.searchEnded
  try dsimp only
  (repeat' split) <;> solve_by_elim (maxDepth := 30) [Inner.finalize, Inner.modSched, Inner.searchChoice, Inner.shuttle, Inner.shuttleTo, Inner.stage]

theorem Inner.closeIndexing {s₀ s : State} (h : Inner s₀ s) (d : DeckId) (t : TicketNo) :
    Inner s₀ (s.closeIndexing d t) := by
  unfold State.closeIndexing
  try dsimp only
  (repeat' split) <;> solve_by_elim (maxDepth := 30) [Inner.enterMoving, Inner.finalize]

theorem Inner.filmEndOutcome {s₀ s : State} (h : Inner s₀ s) (d : DeckId) (t : TicketNo) :
    Inner s₀ (s.filmEndOutcome d t) := by
  unfold State.filmEndOutcome
  try dsimp only
  (repeat' split) <;> solve_by_elim (maxDepth := 30) [Inner.closeIndexing, Inner.finalize]

theorem Inner.trackShuttle {s₀ s : State} (h : Inner s₀ s) (d : DeckId) (tr : Track) :
    Inner s₀ (s.trackShuttle d tr) := by
  unfold State.trackShuttle
  try dsimp only
  (repeat' split) <;> solve_by_elim (maxDepth := 30) [Inner.modSched, Inner.shuttle]

theorem Inner.runRested {s₀ s : State} (h : Inner s₀ s) (d : DeckId) (atEnd : Bool) :
    Inner s₀ (s.runRested d atEnd) := by
  unfold State.runRested
  try dsimp only
  (repeat' split) <;> solve_by_elim (maxDepth := 30) [Inner.closeIndexing, Inner.filmEndOutcome, Inner.finalize, Inner.modSched, Inner.trackShuttle]

theorem Inner.startRun {s₀ s : State} (h : Inner s₀ s) (d : DeckId) :
    Inner s₀ (s.startRun d) := by
  unfold State.startRun
  try dsimp only
  (repeat' split) <;> solve_by_elim (maxDepth := 30) [Inner.indexRun, Inner.modSched, Inner.runRested]

theorem Inner.enterIndexing {s₀ s : State} (h : Inner s₀ s) (d : DeckId) (t : TicketNo) (k : Slot) (target : Option Nat) :
    Inner s₀ (s.enterIndexing d t k target) := by
  unfold State.enterIndexing
  try dsimp only
  (repeat' split) <;> solve_by_elim (maxDepth := 30) [Inner.modSched, Inner.shuttle, Inner.stage, Inner.startRun]

theorem Inner.stopRun {s₀ s : State} (h : Inner s₀ s) (d : DeckId) :
    Inner s₀ (s.stopRun d) := by
  unfold State.stopRun
  try dsimp only
  (repeat' split) <;> solve_by_elim (maxDepth := 30) [Inner.runRested, Inner.stop]

theorem Inner.callTrack {s₀ s : State} (h : Inner s₀ s) (d : DeckId) (frame pos : Nat) :
    Inner s₀ (s.callTrack d frame pos) := by
  unfold State.callTrack
  try dsimp only
  (repeat' split) <;> solve_by_elim (maxDepth := 30) [Inner.modSched, Inner.stopRun, Inner.fseq]

theorem Inner.recordReported {s₀ s : State} (h : Inner s₀ s) (d : DeckId) (frame pos : Nat) :
    Inner s₀ (s.recordReported d frame pos) := by
  unfold State.recordReported
  try dsimp only
  (repeat' split) <;> solve_by_elim (maxDepth := 30) [Inner.callTrack, Inner.modSched, Inner.modTicket, Inner.stopRun]

theorem Inner.poolExhausted {s₀ s : State} (h : Inner s₀ s) (d : DeckId) :
    Inner s₀ (s.poolExhausted d) := by
  unfold State.poolExhausted
  try dsimp only
  (repeat' split) <;> solve_by_elim (maxDepth := 30) [Inner.finalize, Inner.stopRun]

theorem Inner.deckArrived {s₀ s : State} (h : Inner s₀ s) (d : DeckId) (a : Arrived) :
    Inner s₀ (s.deckArrived d a) := by
  unfold State.deckArrived
  try dsimp only
  (repeat' split) <;> solve_by_elim (maxDepth := 30) [Inner.modSched, Inner.movingArrived, Inner.shuttle, Inner.startRun]

theorem Inner.rested {s₀ s : State} (h : Inner s₀ s) (d : DeckId) (a0 : RestReport) :
    Inner s₀ (s.rested d a0) := by
  unfold State.rested
  try dsimp only
  (repeat' split) <;> solve_by_elim (maxDepth := 30) [Inner.deckArrived, Inner.identify, Inner.runRested, Inner.searchEnded]

theorem Inner.endTicket {s₀ s : State} (h : Inner s₀ s) (d : DeckId) (t : TicketNo) (o : TicketOutcome) :
    Inner s₀ (s.endTicket d t o) := by
  unfold State.endTicket
  try dsimp only
  (repeat' split) <;> solve_by_elim (maxDepth := 30) [Inner.finalize]

theorem Inner.trackEnded {s₀ s : State} (h : Inner s₀ s) (d : DeckId) (t : TicketNo) (e : SweepEnd) :
    Inner s₀ (s.trackEnded d t e) := by
  unfold State.trackEnded
  try dsimp only
  (repeat' split) <;> solve_by_elim (maxDepth := 30) [Inner.endTicket, Inner.modSched, Inner.skipTrack]

theorem Inner.sweepFinished {s₀ s : State} (h : Inner s₀ s) (d : DeckId) (t : TicketNo) (e : SweepEnd) :
    Inner s₀ (s.sweepFinished d t e) := by
  unfold State.sweepFinished
  try dsimp only
  (repeat' split) <;> solve_by_elim (maxDepth := 30) [Inner.endTicket, Inner.modSched, Inner.schedLens]

theorem Inner.sweepReported {s₀ s : State} (h : Inner s₀ s) (r : SweepReport) :
    Inner s₀ (s.sweepReported r) := by
  unfold State.sweepReported
  try dsimp only
  (repeat' split) <;> solve_by_elim (maxDepth := 30) [Inner.sweepFinished, Inner.trackEnded]

theorem Inner.sweepReport? {s₀ : State} {x : State × Option SweepReport} (h : Inner s₀ x.1) :
    Inner s₀ (State.sweepReport? x) := by
  unfold State.sweepReport?
  split
  · exact h.sweepReported _
  · exact h

theorem Inner.frameBoundary {s₀ s : State} (h : Inner s₀ s) (d : DeckId) (t : TicketNo) :
    Inner s₀ (s.frameBoundary d t) := by
  unfold State.frameBoundary
  try dsimp only
  (repeat' split) <;> solve_by_elim (maxDepth := 30) [Inner.finalize, Inner.modSched, Inner.modTicket]

theorem Inner.captureEnded {s₀ s : State} (h : Inner s₀ s) (d : DeckId) (e : OrderEnd) :
    Inner s₀ (s.captureEnded d e) := by
  unfold State.captureEnded
  try dsimp only
  (repeat' split) <;> solve_by_elim (maxDepth := 30) [Inner.endTicket, Inner.frameBoundary, Inner.jobEnd, Inner.modTicket]

theorem Inner.activate {s₀ s : State} (h : Inner s₀ s) (d : DeckId) (t : TicketNo) :
    Inner s₀ (s.activate d t) := by
  unfold State.activate
  try dsimp only
  solve_by_elim (maxDepth := 30) [Inner.modSched, Inner.modTicket]

theorem Inner.beginWork {s₀ s : State} (h : Inner s₀ s) (d : DeckId) (k : Slot) (t : TicketNo) :
    Inner s₀ (s.beginWork d k t) := by
  unfold State.beginWork
  try dsimp only
  (repeat' split) <;> solve_by_elim (maxDepth := 30) [Inner.activate, Inner.enterIndexing, Inner.enterMoving, Inner.finalize, Inner.modTicket]

theorem Inner.updateRequest {s₀ s : State} (h : Inner s₀ s) (d : DeckId) :
    Inner s₀ (s.updateRequest d) := by
  unfold State.updateRequest
  try dsimp only
  (repeat' split) <;> solve_by_elim (maxDepth := 30) [Inner.modSched, Inner.raise, Inner.withdraw]

theorem Inner.showPathWait {s₀ s : State} (h : Inner s₀ s) (d : DeckId) :
    Inner s₀ (s.showPathWait d) := by
  unfold State.showPathWait
  try dsimp only
  (repeat' split) <;> solve_by_elim (maxDepth := 30) [Inner.modTicket]

theorem Inner.beginTrack {s₀ s t : State} (h : Inner s₀ s) (d : DeckId) (e : s.beginTrack d = some t) : Inner s₀ t := by
  unfold State.beginTrack at e
  (repeat' split at e) <;> cases e
  · exact Inner.sweepReport? (Inner.startSweep (h.modSched d _) _ _ _ _ _)
  · exact h.skipTrack d

theorem Inner.continueStage {s₀ s t : State} (h : Inner s₀ s) (d : DeckId) (e : s.continueStage d = some t) :
    Inner s₀ t := by
  unfold State.continueStage at e
  try dsimp only at e
  (repeat' split at e) <;> first | cases e | skip
  all_goals solve_by_elim (maxDepth := 30) [Inner.closeIndexing, Inner.filmEndOutcome, Inner.startRun]

theorem Inner.beginSweep {s₀ s t : State} (h : Inner s₀ s) (d : DeckId) (e : s.beginSweep d = some t) : Inner s₀ t := by
  unfold State.beginSweep at e
  (repeat' split at e) <;> cases e
  · exact Inner.sweepReport? (Inner.startSweep (h.modSched d _) _ _ _ _ _)
  · exact h.finalize _ _

theorem Inner.beginCapture {s₀ s t : State} (h : Inner s₀ s) (d : DeckId) (e : s.beginCapture d = some t) :
    Inner s₀ t := by
  unfold State.beginCapture at e
  try dsimp only at e
  (repeat' split at e) <;> first | cases e | skip
  all_goals solve_by_elim (maxDepth := 30) [Inner.captureEnded, Inner.handOver, Inner.jobBegin, Inner.modSched]

theorem Inner.deckAction {s₀ s t : State} (h : Inner s₀ s) (d : DeckId) (e : s.deckAction d = some t) : Inner s₀ t := by
  unfold State.deckAction at e
  split at e
  · cases e
    exact h.beginWork _ _ _
  · simp only [Option.orElse_eq_or, Option.or_eq_some_iff] at e
    rcases e with e | ⟨_, e | ⟨_, e | ⟨_, e⟩⟩⟩
    · exact h.continueStage d e
    · exact h.beginTrack d e
    · exact h.beginSweep d e
    · exact h.beginCapture d e

theorem Inner.requestAction {s₀ s t : State} (h : Inner s₀ s) (d : DeckId) (e : s.requestAction d = some t) :
    Inner s₀ t := by
  unfold State.requestAction at e
  try dsimp only at e
  (repeat' split at e) <;> first | cases e | skip
  all_goals solve_by_elim (maxDepth := 30) [Inner.updateRequest]

theorem Inner.nextAction {s₀ s t : State} (h : Inner s₀ s) (e : s.nextAction = some t) : Inner s₀ t := by
  unfold State.nextAction at e
  simp only [Option.orElse_eq_or, Option.or_eq_some_iff] at e
  rcases e with e | ⟨_, e | ⟨_, e | ⟨_, e⟩⟩⟩
  · exact h.deckAction .a e
  · exact h.deckAction .b e
  · exact h.requestAction .a e
  · exact h.requestAction .b e

theorem Inner.settleSteps (n : Nat) : ∀ {s₀ s : State} (_ : Inner s₀ s), Inner s₀ (State.settleSteps n s) := by
  induction n with
  | zero => intro s₀ s h; exact h
  | succ n ih =>
    intro s₀ s h
    simp only [State.settleSteps]
    split
    · exact ih (h.nextAction (by assumption))
    · exact h

theorem Inner.settle {s₀ s : State} (h : Inner s₀ s) : Inner s₀ s.settle := by
  have h₁ := (Inner.settleSteps 128 h).scheds
    ⟨{ (State.settleSteps 128 s).scheds.a with request := (State.settleSteps 128 s).opa.requests.a },
      { (State.settleSteps 128 s).scheds.b with request := (State.settleSteps 128 s).opa.requests.b }⟩
  exact (h₁.showPathWait .a).showPathWait .b

theorem Inner.redirect {s₀ s : State} (h : Inner s₀ s) (t : TicketNo) :
    Inner s₀ (s.redirect t) := by
  unfold State.redirect
  try dsimp only
  (repeat' split) <;> solve_by_elim (maxDepth := 30) [Inner.activate, Inner.enterMoving, Inner.modTicket]

theorem Inner.deckFailed {s₀ s : State} (h : Inner s₀ s) (d : DeckId) (h : HeldOutcome) :
    Inner s₀ (s.deckFailed d h) := by
  unfold State.deckFailed
  try dsimp only
  (repeat' split) <;> solve_by_elim (maxDepth := 30) [Inner.finalize, Inner.modSched]

theorem Inner.halt {s₀ s : State} (h : Inner s₀ s) (d : DeckId) (cause : HaltCause) : Inner s₀ (s.halt d cause) := by
  unfold State.halt
  exact Inner.settle (Inner.closeTenure (Inner.sweepReport? (Inner.abortSweep (Inner.updateRequest (Inner.deckFailed
    (Inner.dropShares (Inner.powerOff (Inner.modDeck (h.dropLeader d) d _) d) d) d _) d) d _)) d)

theorem Inner.pathFaulted {s₀ s : State} (h : Inner s₀ s) (d : DeckId) :
    Inner s₀ (s.pathFaulted d) := by
  unfold State.pathFaulted
  try dsimp only
  (repeat' split) <;> solve_by_elim (maxDepth := 30) [Inner.finalize, Inner.modSched, Inner.skipTrack, Inner.stop]

end Sys2Proof.Machine
end

