-- ==== Sys2Proof/Laws/Reach.lean ====
section
/-! SUPPORT. What one step can do, said once: the requests and the events behind the links are chains of updates (`Inner`), and
a whole command is a chain of these, of pin changes, of changes at the request link port and of resets (`Reach`). -/

namespace Sys2Proof.Machine

theorem Inner.detect {s₀ s : State} (h : Inner s₀ s) (d : DeckId) :
    Inner s₀ (s.detect d) := by
  unfold State.detect
  try dsimp only
  solve_by_elim (maxDepth := 30) [Inner.deck]

@[simp] theorem State.refuse_state (s : State) (c : ResultCode) : (s.refuse c).state = s := rfl
@[simp] theorem State.refuse_result (s : State) (c : ResultCode) : (s.refuse c).result = c := rfl
@[simp] theorem State.refuse_data (s : State) (c : ResultCode) : (s.refuse c).data = [] := rfl
@[simp] theorem State.answer_state (s : State) (x : List Byte) : (s.answer x).state = s := rfl
@[simp] theorem State.answer_result (s : State) (x : List Byte) : (s.answer x).result = .ok := rfl
@[simp] theorem State.answer_data (s : State) (x : List Byte) : (s.answer x).data = x := rfl

theorem Inner.refuse {s₀ s : State} (h : Inner s₀ s) (c : ResultCode) : Inner s₀ (s.refuse c).state := h

theorem Inner.answer {s₀ s : State} (h : Inner s₀ s) (data : List Byte) : Inner s₀ (s.answer data).state := h

theorem Inner.declareRoll {s₀ s : State} (h : Inner s₀ s) (tag : BitVec 24) (width : Byte) :
    Inner s₀ (s.declareRoll tag width).state := by
  unfold State.declareRoll
  (repeat' split) <;> first | exact h | exact h.created _ _ (State.freeSlot_free (by assumption)) rfl

theorem Inner.readRoll {s₀ s : State} (h : Inner s₀ s) (slot : Byte) :
    Inner s₀ (s.readRoll slot).state := by
  unfold State.readRoll
  try dsimp only
  (repeat' split) <;> (try simp only [State.refuse_state, State.answer_state]) <;> assumption

theorem Inner.nameRoll {s₀ s : State} (h : Inner s₀ s) (slot : Byte) (tag : BitVec 24) :
    Inner s₀ (s.nameRoll slot tag).state := by
  unfold State.nameRoll
  try dsimp only
  (repeat' split) <;> (try simp only [State.refuse_state, State.answer_state]) <;> solve_by_elim (maxDepth := 30) [Inner.entryKeep]

theorem Inner.bindDeck {s₀ s : State} (h : Inner s₀ s) (deck slot : Byte) :
    Inner s₀ (s.bindDeck deck slot).state := by
  unfold State.bindDeck
  try dsimp only
  (repeat' split) <;> (try simp only [State.refuse_state, State.answer_state]) <;> solve_by_elim (maxDepth := 30) [Inner.bind, Inner.releaseDeck, Inner.settle]

theorem Inner.retireRoll {s₀ s : State} (h : Inner s₀ s) (slot : Byte) :
    Inner s₀ (s.retireRoll slot).state := by
  unfold State.retireRoll
  try dsimp only
  (repeat' split) <;> (try simp only [State.refuse_state, State.answer_state]) <;> solve_by_elim (maxDepth := 30) [Inner.freed]

theorem Inner.frameRequest {s₀ s : State} (h : Inner s₀ s) (slot : Byte) (frame : Half) (ok : Bool)
    (act : Slot → Nat → Reply) (g : ∀ k n, Inner s₀ (act k n).state) :
    Inner s₀ (s.frameRequest slot frame ok act).state := by
  unfold State.frameRequest
  (repeat' split) <;> first | exact h | exact g _ _

theorem Inner.readFrames {s₀ s : State} (h : Inner s₀ s) (slot : Byte) (frame : Half) (count : Byte) :
    Inner s₀ (s.readFrames slot frame count).state := h.frameRequest _ _ _ _ fun _ _ => h

theorem Inner.findFrame {s₀ s : State} (h : Inner s₀ s) (slot : Byte) (sec group idx : Half) :
    Inner s₀ (s.findFrame slot sec group idx).state := by
  unfold State.findFrame
  try dsimp only
  (repeat' split) <;> (try simp only [State.refuse_state, State.answer_state]) <;> assumption

theorem Inner.annotateFrame {s₀ s : State} (h : Inner s₀ s) (slot : Byte) (frame note : Half) :
    Inner s₀ (s.annotateFrame slot frame note).state :=
  h.frameRequest _ _ _ _ fun _ _ => h.setRecord _ _ _ fun _ => rfl

theorem Inner.setFocus {s₀ s : State} (h : Inner s₀ s) (slot : Byte) (frame : Half) (flags : Byte) (setpoint : Half) :
    Inner s₀ (s.setFocus slot frame flags setpoint).state := by
  refine h.frameRequest _ _ _ _ fun k n => ?_
  split
  · refine Inner.entryKeep (h.setRecord k n _ ?_) _ _ ?_ ?_
    · exact fun _ => rfl
    · rfl
    · rfl
  · exact h.setRecord _ _ _ fun _ => rfl

theorem Inner.withdrawFrame {s₀ s : State} (h : Inner s₀ s) (slot : Byte) (frame : Half) :
    Inner s₀ (s.withdrawFrame slot frame).state := by
  refine h.frameRequest _ _ _ _ fun k n => ?_
  split
  · exact h
  · exact h.setRecord _ _ _ fun _ => rfl

theorem Inner.restoreFrame {s₀ s : State} (h : Inner s₀ s) (slot : Byte) (frame : Half) :
    Inner s₀ (s.restoreFrame slot frame).state :=
  h.frameRequest _ _ _ _ fun _ _ => h.setRecord _ _ _ fun _ => rfl

/-- Items are appended while the free list lasts (R76, R77). -/
theorem Inner.appendItems {s₀ : State} (k : Slot) (items : List Item) :
    ∀ {s : State} (_ : Inner s₀ s) (_ : items.length ≤ s.freeCount), Inner s₀ (s.appendItems k items) := by
  induction items with
  | nil => intro s h _; exact h
  | cons i items ih =>
    intro s h g
    simp only [List.length_cons] at g
    refine ih (h.appended k i.pos i.cls .declared i.setpoint (by omega)) ?_
    show items.length ≤ s.freeCount - 1
    omega

theorem Inner.declareFrames {s₀ s : State} (h : Inner s₀ s) (slot : Byte) (first : Half) (count : Byte)
    (items : List DeclItem) : Inner s₀ (s.declareFrames slot first count items).state := by
  unfold State.declareFrames
  dsimp only
  (repeat' split) <;> first | exact h | skip
  refine Inner.entryKeep (Inner.appendItems _ _ h ?_) _ _ ?_ ?_
  · omega
  · rfl
  · rfl

theorem Inner.poweredUp {s₀ s : State} (h : Inner s₀ s) (d : DeckId) :
    Inner s₀ (s.poweredUp d) := by
  unfold State.poweredUp
  try dsimp only
  (repeat' split) <;> solve_by_elim (maxDepth := 30) [Inner.beginMotion, Inner.halt]

theorem Inner.startMount {s₀ s : State} (h : Inner s₀ s) (d : DeckId) :
    Inner s₀ (s.startMount d) := by
  unfold State.startMount
  try dsimp only
  solve_by_elim (maxDepth := 30) [Inner.modDeck, Inner.poweredUp, Inner.mark]

theorem Inner.mountDeck {s₀ s : State} (h : Inner s₀ s) (deck : Byte) :
    Inner s₀ (s.mountDeck deck).state := by
  unfold State.mountDeck
  try dsimp only
  (repeat' split) <;> (try simp only [State.refuse_state, State.answer_state]) <;> solve_by_elim (maxDepth := 30) [Inner.startMount]

theorem Inner.startUnmount {s₀ s : State} (h : Inner s₀ s) (d : DeckId) :
    Inner s₀ (s.startUnmount d) := by
  unfold State.startUnmount
  try dsimp only
  solve_by_elim (maxDepth := 30) [Inner.beginMotion, Inner.modDeck, Inner.pool]

theorem Inner.unmountDeck {s₀ s : State} (h : Inner s₀ s) (deck : Byte) :
    Inner s₀ (s.unmountDeck deck).state := by
  unfold State.unmountDeck
  try dsimp only
  (repeat' split) <;> (try simp only [State.refuse_state, State.answer_state]) <;> solve_by_elim (maxDepth := 30) [Inner.startUnmount]

theorem Inner.startRemount {s₀ s : State} (h : Inner s₀ s) (d : DeckId) :
    Inner s₀ (s.startRemount d) := by
  unfold State.startRemount
  try dsimp only
  solve_by_elim (maxDepth := 30) [Inner.modDeck, Inner.poweredUp, Inner.mark]

theorem Inner.clearEmpty {s₀ s : State} (h : Inner s₀ s) (d : DeckId) :
    Inner s₀ (s.clearEmpty d) := by
  unfold State.clearEmpty
  try dsimp only
  solve_by_elim (maxDepth := 30) [Inner.modDeck, Inner.releaseDeck]

theorem Inner.clearDeck {s₀ s : State} (h : Inner s₀ s) (deck : Byte) :
    Inner s₀ (s.clearDeck deck).state := by
  unfold State.clearDeck
  try dsimp only
  (repeat' split) <;> (try simp only [State.refuse_state, State.answer_state]) <;> solve_by_elim (maxDepth := 30) [Inner.clearEmpty, Inner.startRemount]

theorem Inner.enterTicket {s₀ s : State} (h : Inner s₀ s) (a : Admission) :
    Inner s₀ (s.enterTicket a).state := by
  unfold State.enterTicket
  try dsimp only
  (repeat' split) <;> (try simp only [State.refuse_state, State.answer_state]) <;> solve_by_elim (maxDepth := 30) [Inner.redirect, Inner.settle, Inner.takeAdmission]

theorem Inner.admitChecked {s₀ s : State} (h : Inner s₀ s) (slot priority : Byte) (ok : Bool) (a : Slot → Admission) :
    Inner s₀ (s.admitChecked slot priority ok a).state := by
  unfold State.admitChecked
  (repeat' split) <;> first | exact h | exact h.enterTicket _

theorem Inner.admitFetch {s₀ s : State} (h : Inner s₀ s) (slot : Byte) (frame : Half) (priority options : Byte) :
    Inner s₀ (s.admitFetch slot frame priority options).state := by
  unfold State.admitFetch
  try dsimp only
  solve_by_elim (maxDepth := 30) [Inner.admitChecked]

theorem Inner.admitRange {s₀ s : State} (h : Inner s₀ s) (slot : Byte) (first last : Half) (priority options : Byte) :
    Inner s₀ (s.admitRange slot first last priority options).state := by
  unfold State.admitRange
  try dsimp only
  solve_by_elim (maxDepth := 30) [Inner.admitChecked]

theorem Inner.admitLocate {s₀ s : State} (h : Inner s₀ s) (slot : Byte) (frame : Half) (priority options : Byte) :
    Inner s₀ (s.admitLocate slot frame priority options).state := by
  unfold State.admitLocate
  try dsimp only
  solve_by_elim (maxDepth := 30) [Inner.admitChecked]

theorem Inner.admitFocus {s₀ s : State} (h : Inner s₀ s) (slot : Byte) (frame : Half) (priority options : Byte) :
    Inner s₀ (s.admitFocus slot frame priority options).state := by
  unfold State.admitFocus
  try dsimp only
  solve_by_elim (maxDepth := 30) [Inner.admitChecked]

theorem Inner.admitIndex {s₀ s : State} (h : Inner s₀ s) (slot : Byte) (target : Half) (priority options : Byte) :
    Inner s₀ (s.admitIndex slot target priority options).state := by
  unfold State.admitIndex
  try dsimp only
  solve_by_elim (maxDepth := 30) [Inner.admitChecked]

theorem Inner.cancelMotion {s₀ s : State} (h : Inner s₀ s) (d : DeckId) (t : TicketNo) :
    Inner s₀ (s.cancelMotion d t) := by
  unfold State.cancelMotion
  try dsimp only
  (repeat' split) <;> solve_by_elim (maxDepth := 30) [Inner.finalize, Inner.stop]

theorem Inner.cancelSweep {s₀ s : State} (h : Inner s₀ s) (d : DeckId) :
    Inner s₀ (s.cancelSweep d) := by
  unfold State.cancelSweep
  try dsimp only
  solve_by_elim (maxDepth := 30) [Inner.abortSweep, Inner.sweepReport?]

theorem Inner.cancelActive {s₀ s : State} (h : Inner s₀ s) (d : DeckId) (t : TicketNo) :
    Inner s₀ (s.cancelActive d t) := by
  unfold State.cancelActive
  try dsimp only
  (repeat' split) <;> solve_by_elim (maxDepth := 30) [Inner.cancelMotion, Inner.cancelSweep, Inner.finalize, Inner.modSched]

theorem Inner.takeCancel {s₀ s : State} (h : Inner s₀ s) (t : TicketNo) :
    Inner s₀ (s.takeCancel t) := by
  unfold State.takeCancel
  try dsimp only
  (repeat' split) <;> solve_by_elim (maxDepth := 30) [Inner.cancelActive, Inner.finalize, Inner.modTicket]

theorem Inner.cancelTicket {s₀ s : State} (h : Inner s₀ s) (ticket : Byte) :
    Inner s₀ (s.cancelTicket ticket).state := by
  unfold State.cancelTicket
  try dsimp only
  (repeat' split) <;> (try simp only [State.refuse_state, State.answer_state]) <;> solve_by_elim (maxDepth := 30) [Inner.settle, Inner.takeCancel]

theorem Inner.queryTicket {s₀ s : State} (h : Inner s₀ s) (ticket : Byte) :
    Inner s₀ (s.queryTicket ticket).state := by
  unfold State.queryTicket
  try dsimp only
  (repeat' split) <;> (try simp only [State.refuse_state, State.answer_state]) <;> assumption

theorem Inner.collectTicket {s₀ s : State} (h : Inner s₀ s) (ticket : Byte) :
    Inner s₀ (s.collectTicket ticket).state := by
  unfold State.collectTicket
  try dsimp only
  (repeat' split) <;> (try simp only [State.refuse_state, State.answer_state]) <;> solve_by_elim (maxDepth := 30) [Inner.ticket]

theorem Inner.removeSeated {s₀ s : State} (h : Inner s₀ s) (d : DeckId) :
    Inner s₀ (s.removeSeated d) := by
  unfold State.removeSeated
  try dsimp only
  solve_by_elim (maxDepth := 30) [Inner.detect, Inner.modDeck]

theorem Inner.removeThreaded {s₀ s : State} (h : Inner s₀ s) (d : DeckId) : Inner s₀ (s.removeThreaded d) := by
  have h₁ : Inner s₀ ((s.dropLeader d).modDeck d fun k => { k.dropMotion with state := .empty, kind := none, counter := 0 }.recordEvent
      .removed) := (h.dropLeader d).modDeck d _
  have h₂ := Inner.updateRequest (Inner.deckFailed (Inner.dropShares (h₁.powerOff d) d) d .removed) d
  unfold State.removeThreaded
  dsimp only
  split
  · exact Inner.settle (Inner.detect (Inner.closeTenure (Inner.sweepReport? (Inner.abortSweep (h₂.releaseEntry _ d true) d
      .removal)) d) d)
  · exact Inner.settle (Inner.detect (Inner.closeTenure (Inner.sweepReport? (Inner.abortSweep h₂ d .removal)) d) d)

theorem Inner.seatChanged {s₀ s : State} (h : Inner s₀ s) (d : DeckId) (made : Bool) :
    Inner s₀ (s.seatChanged d made) := by
  unfold State.seatChanged
  try dsimp only
  (repeat' split) <;> solve_by_elim (maxDepth := 30) [Inner.detect, Inner.modDeck, Inner.removeSeated, Inner.removeThreaded]

theorem Inner.seatingEnds {s₀ s : State} (h : Inner s₀ s) (d : DeckId) (kind1 kind2 : Bool)  :
    Inner s₀ (seatingEnds d kind1 kind2 s) := by
  unfold Machine.seatingEnds
  try dsimp only
  (repeat' split) <;> solve_by_elim (maxDepth := 30) [Inner.modDeck]

theorem Inner.seatFaults {s₀ s : State} (h : Inner s₀ s) (d : DeckId) : Inner s₀ (seatFaults d s) := by
  unfold Machine.seatFaults
  split
  · exact h.modDeck d _
  · exact h

theorem Inner.raiseExtent {s₀ s : State} (h : Inner s₀ s) (d : DeckId) (dir : Direction) :
    Inner s₀ (s.raiseExtent d dir) := by
  unfold State.raiseExtent
  try dsimp only
  (repeat' split) <;> solve_by_elim (maxDepth := 30) [Inner.entryKeep]

theorem Inner.leaderLimit {s₀ s : State} (h : Inner s₀ s) (d : DeckId) :
    Inner s₀ (s.leaderLimit d) := by
  unfold State.leaderLimit
  try dsimp only
  (repeat' split) <;> solve_by_elim (maxDepth := 30) [Inner.halt]

theorem Inner.crossTravel {s₀ s : State} (h : Inner s₀ s) (d : DeckId) (dir : Direction) (old : Nat)
    (marked : Bool) : Inner s₀ (s.crossTravel d dir old marked) := by
  have hr := h.raiseExtent d dir
  unfold State.crossTravel
  dsimp only
  split
  · split
    · exact hr.updateCrossing d
    · exact hr
  · split
    · exact h.holdCrossing d _ _
    · exact h

theorem Inner.encoderCounts {s₀ s : State} (h : Inner s₀ s) (d : DeckId) (dir : Direction)  :
    Inner s₀ (encoderCounts d dir s) := by
  unfold Machine.encoderCounts
  try dsimp only
  (repeat' split) <;> solve_by_elim (maxDepth := 30) [Inner.leaderLimit, Inner.modDeck, Inner.crossTravel, Inner.mark]

theorem Inner.leaderTravelEnds {s₀ s : State} (h : Inner s₀ s) (d : DeckId)  :
    Inner s₀ (leaderTravelEnds d s) := by
  unfold Machine.leaderTravelEnds
  try dsimp only
  (repeat' split) <;> solve_by_elim (maxDepth := 30) [Inner.halt, Inner.leaderLimit, Inner.modDeck, Inner.rest]

theorem Inner.tensionReads {s₀ s : State} (h : Inner s₀ s) (d : DeckId) (reading : BitVec 10)  :
    Inner s₀ (tensionReads d reading s) := by
  unfold Machine.tensionReads
  try dsimp only
  (repeat' split) <;> solve_by_elim (maxDepth := 30) [Inner.halt, Inner.deck]

theorem Inner.filmEndFired {s₀ s : State} (h : Inner s₀ s) (d : DeckId) : Inner s₀ (s.filmEndFired d) := by
  have h₁ := Inner.stop (Inner.modDeck (h.setComplete d) d fun k => { k with runMetEnd := true }) d
  unfold State.filmEndFired
  dsimp only
  split
  · split
    · exact Inner.settle (Inner.runRested h₁ d true)
    · exact h₁
  all_goals first | exact h | exact h.halt d _

theorem Inner.gateCleared {s₀ s : State} (h : Inner s₀ s) (d : DeckId) :
    Inner s₀ (s.gateCleared d) := by
  unfold State.gateCleared
  try dsimp only
  (repeat' split) <;> solve_by_elim (maxDepth := 30) [Inner.modDeck, Inner.rewindEnd]

theorem Inner.filmRests {s₀ s : State} (h : Inner s₀ s) (d : DeckId)  :
    Inner s₀ (filmRests d s) := by
  unfold Machine.filmRests
  try dsimp only
  (repeat' split) <;> solve_by_elim (maxDepth := 30) [Inner.rest, Inner.rested, Inner.settle]

theorem Inner.searchTurns {s₀ s : State} (h : Inner s₀ s) (d : DeckId)  :
    Inner s₀ (searchTurns d s) := by
  unfold Machine.searchTurns
  try dsimp only
  (repeat' split) <;> solve_by_elim (maxDepth := 30) [Inner.modDeck]

theorem Inner.openMark {s₀ s : State} (h : Inner s₀ s) (d : DeckId) :
    Inner s₀ (s.openMark d) := by
  unfold State.openMark
  try dsimp only
  solve_by_elim (maxDepth := 30) [Inner.mark]

theorem Inner.leaderMark {s₀ s : State} (h : Inner s₀ s) (d : DeckId) (c : WidthClass) (p : Nat) :
    Inner s₀ (s.leaderMark d c p) := by
  unfold State.leaderMark
  try dsimp only
  (repeat' split) <;> solve_by_elim (maxDepth := 30) [Inner.modDeck, Inner.mark]

theorem Inner.deliverMark {s₀ s : State} (h : Inner s₀ s) (d : DeckId) (dir : Direction) (c : WidthClass) (p : Nat) :
    Inner s₀ (s.deliverMark d dir c p).1 := by
  unfold State.deliverMark
  try dsimp only
  (repeat' split) <;> solve_by_elim (maxDepth := 30) [Inner.leaderMark, Inner.matchMark]

theorem Inner.markReported {s₀ s : State} (h : Inner s₀ s) (d : DeckId) (a0 : MarkReport) :
    Inner s₀ (s.markReported d a0) := by
  unfold State.markReported
  try dsimp only
  (repeat' split) <;> solve_by_elim (maxDepth := 30) [Inner.poolExhausted, Inner.recordReported, Inner.settle]

theorem Inner.closeMark {s₀ s : State} (h : Inner s₀ s) (d : DeckId) :
    Inner s₀ (s.closeMark d) := by
  unfold State.closeMark
  try dsimp only
  (repeat' split) <;> solve_by_elim (maxDepth := 30) [Inner.deliverMark, Inner.markReported, Inner.mark, Inner.updateCrossing]

theorem Inner.acceptLevel {s₀ s : State} (h : Inner s₀ s) (d : DeckId) (level : Bool) :
    Inner s₀ (s.acceptLevel d level) := by
  unfold State.acceptLevel
  try dsimp only
  (repeat' split) <;> solve_by_elim (maxDepth := 30) [Inner.closeMark, Inner.openMark, Inner.mark]

theorem Inner.markSampled {s₀ s : State} (h : Inner s₀ s) (d : DeckId) (level : Bool)  :
    Inner s₀ (markSampled d level s) := by
  unfold Machine.markSampled
  try dsimp only
  (repeat' split) <;> solve_by_elim (maxDepth := 30) [Inner.acceptLevel, Inner.mark]

theorem Inner.markEdge {s₀ s : State} (h : Inner s₀ s) (d : DeckId) (level : Bool)  :
    Inner s₀ (markEdge d level s) := by
  unfold Machine.markEdge
  try dsimp only
  (repeat' split) <;> solve_by_elim (maxDepth := 30) [Inner.acceptLevel]

theorem Inner.fseqLens {s₀ s : State} (h : Inner s₀ s) (d : DeckId) (pos : Nat) :
    Inner s₀ (s.fseqLens d pos) := by
  unfold State.fseqLens
  try dsimp only
  (repeat' split) <;> solve_by_elim (maxDepth := 30) [Inner.stepArrived, Inner.sweepReport?]

theorem Inner.lensMoved {s₀ s : State} (h : Inner s₀ s) (d : DeckId) (x : Lens × Option LensTarget) :
    Inner s₀ (s.lensMoved d x) := by
  unfold State.lensMoved
  try dsimp only
  (repeat' split) <;> solve_by_elim (maxDepth := 30) [Inner.fseqLens, Inner.schedLens, Inner.lens, Inner.settle]

theorem Inner.lensSteps {s₀ s : State} (h : Inner s₀ s) (d : DeckId)  :
    Inner s₀ (lensSteps d s) := by
  unfold Machine.lensSteps
  try dsimp only
  solve_by_elim (maxDepth := 30) [Inner.lensMoved]

theorem Inner.lensHomingEnds {s₀ s : State} (h : Inner s₀ s) (d : DeckId)  :
    Inner s₀ (lensHomingEnds d s) := by
  unfold Machine.lensHomingEnds
  try dsimp only
  solve_by_elim (maxDepth := 30) [Inner.lensMoved]

theorem Inner.lensReaches {s₀ s : State} (h : Inner s₀ s) (d : DeckId)  :
    Inner s₀ (lensReaches d s) := by
  unfold Machine.lensReaches
  try dsimp only
  solve_by_elim (maxDepth := 30) [Inner.lensMoved]

theorem Inner.settlePauseEnds {s₀ s : State} (h : Inner s₀ s)  :
    Inner s₀ (settlePauseEnds s) := by
  unfold Machine.settlePauseEnds
  try dsimp only
  (repeat' split) <;> solve_by_elim (maxDepth := 30) [Inner.pauseEnded, Inner.settle, Inner.sweepReport?]

theorem Inner.pathTimesOut {s₀ s : State} (h : Inner s₀ s)  :
    Inner s₀ (pathTimesOut s) := by
  unfold Machine.pathTimesOut
  try dsimp only
  (repeat' split) <;> solve_by_elim (maxDepth := 30) [Inner.enterFault, Inner.pathFaulted, Inner.settle]

theorem Inner.endDeferral {s₀ s : State} (h : Inner s₀ s) (d : DeckId) :
    Inner s₀ (s.endDeferral d) := by
  unfold State.endDeferral
  try dsimp only
  (repeat' split) <;> solve_by_elim (maxDepth := 30) [Inner.motionBegins]

theorem Inner.endOrder {s₀ s : State} (h : Inner s₀ s) (o : Order) (e : OrderEnd) :
    Inner s₀ (s.endOrder o e) := by
  unfold State.endOrder
  try dsimp only
  (repeat' split) <;> solve_by_elim (maxDepth := 30) [Inner.captureEnded, Inner.clearOrder, Inner.sweepReport?, Inner.testEnded]

theorem Inner.endAbsent {s₀ s : State} (h : Inner s₀ s) : Inner s₀ s.endAbsent := by
  unfold State.endAbsent
  (repeat' split) <;> first | exact h.endOrder _ _ | exact h

theorem Inner.orderByteSent {s₀ s : State} (h : Inner s₀ s)  :
    Inner s₀ (orderByteSent s) := by
  unfold Machine.orderByteSent
  dsimp only
  split
  · exact h.hlp _
  · exact (Inner.endAbsent (h.hlp _)).settle

theorem Inner.takeReport {s₀ s : State} (h : Inner s₀ s) (r : Report) :
    Inner s₀ (s.takeReport r) := by
  unfold State.takeReport
  try dsimp only
  (repeat' split) <;> solve_by_elim (maxDepth := 30) [Inner.endOrder, Inner.settle, Inner.hlp]

theorem Inner.reportByte {s₀ s : State} (h : Inner s₀ s) (b : Byte)  :
    Inner s₀ (reportByte b s) := by
  unfold Machine.reportByte
  try dsimp only
  (repeat' split) <;> solve_by_elim (maxDepth := 30) [Inner.takeReport, Inner.hlp]

theorem Inner.reportReceived {s₀ : State} (bytes : List Byte) :
    ∀ {s : State} (_ : Inner s₀ s), Inner s₀ (reportReceived bytes s) := by
  induction bytes with
  | nil => intro s h; exact h
  | cons b bytes ih => intro s h; exact ih (h.reportByte b)

theorem Inner.reportCut {s₀ s : State} (h : Inner s₀ s)  :
    Inner s₀ (reportCut s) := by
  unfold Machine.reportCut
  try dsimp only
  (repeat' split) <;> solve_by_elim (maxDepth := 30) [Inner.hlp]

theorem Inner.headTimesOut {s₀ s : State} (h : Inner s₀ s)  :
    Inner s₀ (headTimesOut s) := by
  unfold Machine.headTimesOut
  try dsimp only
  (repeat' split) <;> solve_by_elim (maxDepth := 30) [Inner.endOrder, Inner.settle]

theorem Inner.readyLost {s₀ s : State} (h : Inner s₀ s)  :
    Inner s₀ (s.readyLost) := by
  unfold State.readyLost
  try dsimp only
  (repeat' split) <;> solve_by_elim (maxDepth := 30) [Inner.abortSweep, Inner.settle, Inner.sweepReport?]

/-! ## Whole commands -/

/-- The changes of the request link port: a message is processed afterwards, or none waits, or neither has changed (R172). -/
def Rlp.Moves (r x : Rlp) : Prop :=
  x.processing.isSome = true ∨ x.waiting = none ∨ (x.processing = r.processing ∧ x.waiting = r.waiting)

/-- Chains of what a command can do. -/
inductive Reach (s : State) : State → Prop where
  | refl : Reach s s
  | inner {t u : State} (h : Reach s t) (i : Inner t u) : Reach s u
  | pins {t : State} (h : Reach s t) (x : Pins) : Reach s { t with pins := x }
  | deckPins {t : State} (h : Reach s t) (x : Pair DeckPins) : Reach s { t with deckPins := x }
  | rate {t : State} (h : Reach s t) (x : Rate) : Reach s { t with rate := x }
  | params {t : State} (h : Reach s t) (x : Params) : Reach s { t with params := x }
  | plan {t : State} (h : Reach s t) (x : Plan) : Reach s { t with fseq := { t.fseq with plan := x } }
  | rlp {t : State} (h : Reach s t) (x : Rlp) (g : Rlp.Moves t.rlp x) : Reach s { t with rlp := x }
  | reset {t : State} (h : Reach s t) : Reach s t.enterReset

theorem Reach.live {s₀ s : State} (h : Reach s₀ s) {f : State → State} (g : ∀ t, Reach s₀ t → Reach s₀ (f t)) :
    Reach s₀ (live s f) := by
  unfold Machine.live
  split
  · exact h
  · exact g s h

/-- An event whose effect is a chain of updates, taken only out of reset. -/
theorem Reach.event {s : State} {f : State → State} (g : ∀ t, Inner t (f t)) : Reach s (Machine.live s f) :=
  Reach.refl.live fun t h => h.inner (g t)

theorem Reach.sensors {s₀ s : State} (h : Reach s₀ s) (d : DeckId) (x : DeckPins) : Reach s₀ (s.setSensors d x) :=
  h.deckPins _

/-! ### Pins -/

theorem Reach.seatContact (d : DeckId) (c : Contact) (made : Bool) (s : State) : Reach s (seatContact d c made s) := by
  unfold Machine.seatContact
  split
  · exact .refl
  · exact (Reach.refl.sensors d _).live fun t h => h.inner (Inner.refl.seatChanged d made)

theorem Reach.driveFaults (d : DeckId) (active : Bool) (s : State) : Reach s (driveFaults d active s) := by
  refine (Reach.refl.sensors d _).live fun t h => ?_
  split
  · exact h.inner (Inner.refl.halt d _)
  · exact h

theorem Reach.filmEndFires (d : DeckId) (s : State) : Reach s (filmEndFires d s) := by
  unfold Machine.filmEndFires
  split
  · exact .refl
  · exact (Reach.refl.sensors d _).live fun t h => h.inner (Inner.refl.filmEndFired d)

theorem Reach.filmGateCleared (d : DeckId) (s : State) : Reach s (filmGateCleared d s) :=
  (Reach.refl.sensors d _).live fun _ h => h.inner (Inner.refl.gateCleared d)

theorem Reach.lensHomeInput (d : DeckId) (made : Bool) (s : State) : Reach s (lensHomeInput d made s) := by
  refine (Reach.refl.sensors d _).live fun t h => ?_
  split
  · exact h.inner (Inner.refl.lensMoved d _)
  · exact h

theorem Reach.pathLimit (g : DeckId) (made : Bool) (s : State) : Reach s (pathLimit g made s) := by
  refine Reach.live (Reach.refl.pins _) fun t h => ?_
  split
  · exact h.inner (Inner.refl.limitMade g).settle
  · exact h

theorem Reach.holdAsserts (s : State) : Reach s (holdAsserts s) := by
  unfold Machine.holdAsserts
  split
  · exact .refl
  · refine Reach.live (Reach.refl.pins _) fun t h => ?_
    split
    · exact h.inner (Inner.refl.hlp _)
    · exact h

theorem Reach.holdReleases (s : State) : Reach s (holdReleases s) :=
  Reach.live (Reach.refl.pins _) fun _ h =>
    h.inner (Inner.settle (Inner.arbitrateNow (Inner.endDeferral (Inner.refl.endDeferral .a) .b) none))

theorem Reach.readyDrops (s : State) : Reach s (readyDrops s) :=
  Reach.live (Reach.refl.pins _) fun _ h => h.inner (Inner.settle (Inner.readyLost Inner.refl.endAbsent))

/-! ### Reset -/

theorem Reach.leaveReset {s₀ s : State} (h : Reach s₀ s) (lr1 lr0 : Bool) : Reach s₀ (s.leaveReset lr1 lr0) :=
  (h.rate (rateOf lr1 lr0)).inner (Inner.arbitrateNow (Inner.detect (Inner.refl.detect .a) .b) none)

/-! ### The request link -/

theorem Rlp.Moves.keep {r x : Rlp} (h : x.processing = r.processing) (g : x.waiting = r.waiting) : Rlp.Moves r x :=
  .inr (.inr ⟨h, g⟩)

theorem Reach.setNoise {s₀ s : State} (h : Reach s₀ s) : Reach s₀ s.setNoise := h.rlp _ (.keep rfl rfl)
theorem Reach.setGap {s₀ s : State} (h : Reach s₀ s) : Reach s₀ s.setGap := h.rlp _ (.keep rfl rfl)
theorem Reach.setOverrun {s₀ s : State} (h : Reach s₀ s) : Reach s₀ s.setOverrun := h.rlp _ (.keep rfl rfl)
theorem Reach.receive {s₀ s : State} (h : Reach s₀ s) (r : Receiver) : Reach s₀ (s.receive r) := h.rlp _ (.keep rfl rfl)

theorem Reach.carryOut {s₀ s : State} (h : Reach s₀ s) (r : Request) : Reach s₀ (carryOut r s).state := by
  cases r with
  | identify => exact h
  | status => exact h
  | events =>
    exact h.inner (Inner.deck (Inner.refl.deck .a { s.decks.a with events := EventSet.none }) .b
      { s.decks.b with events := EventSet.none })
  | setParameters block =>
    simp only [Machine.carryOut, State.setParameters]
    (repeat' split) <;> first | exact h | exact h.params _
  | readParameters => exact h
  | restart => exact h.rlp _ (.keep rfl rfl)
  | declareRoll tag width => exact h.inner (Inner.refl.declareRoll _ _)
  | declareFrames slot first count items => exact h.inner (Inner.refl.declareFrames _ _ _ _)
  | readRoll slot => exact h.inner (Inner.refl.readRoll _)
  | readFrames slot frame count => exact h.inner (Inner.refl.readFrames _ _ _)
  | findFrame slot sec group idx => exact h.inner (Inner.refl.findFrame _ _ _ _)
  | annotateFrame slot frame note => exact h.inner (Inner.refl.annotateFrame _ _ _)
  | setFocus slot frame flags setpoint => exact h.inner (Inner.refl.setFocus _ _ _ _)
  | withdrawFrame slot frame => exact h.inner (Inner.refl.withdrawFrame _ _)
  | restoreFrame slot frame => exact h.inner (Inner.refl.restoreFrame _ _)
  | retireRoll slot => exact h.inner (Inner.refl.retireRoll _)
  | nameRoll slot tag => exact h.inner (Inner.refl.nameRoll _ _)
  | bindDeck deck slot => exact h.inner (Inner.refl.bindDeck _ _)
  | mount deck => exact h.inner (Inner.refl.mountDeck _)
  | unmount deck => exact h.inner (Inner.refl.unmountDeck _)
  | clearDeck deck => exact h.inner (Inner.refl.clearDeck _)
  | fetch slot frame priority options => exact h.inner (Inner.refl.admitFetch _ _ _ _)
  | range slot first last priority options => exact h.inner (Inner.refl.admitRange _ _ _ _ _)
  | locate slot frame priority options => exact h.inner (Inner.refl.admitLocate _ _ _ _)
  | focus slot frame priority options => exact h.inner (Inner.refl.admitFocus _ _ _ _)
  | index slot target priority options => exact h.inner (Inner.refl.admitIndex _ _ _ _)
  | cancel ticket => exact h.inner (Inner.refl.cancelTicket _)
  | queryTicket ticket => exact h.inner (Inner.refl.queryTicket _)
  | collect ticket => exact h.inner (Inner.refl.collectTicket _)
  | setSweepPlan plan =>
    simp only [Machine.carryOut, State.setSweepPlan]
    (repeat' split) <;> first | exact h | exact h.plan _
  | readSweepPlan => exact h
  | readSweepResult => exact h

theorem Reach.takeMessage {s₀ s : State} (h : Reach s₀ s) (m : Message) : Reach s₀ (s.takeMessage m) := by
  have hr : Reach s₀ (m.reply s).state := by
    unfold Message.reply
    (repeat' split) <;> first | exact h | exact h.carryOut _
  have hc : Reach s₀ (m.reply s).state.clearFlags := hr.rlp _ (.keep rfl rfl)
  exact hc.rlp _ (.inl rfl)

theorem Reach.placeMessage {s₀ s : State} (h : Reach s₀ s) (m : Message) : Reach s₀ (s.placeMessage m) := by
  unfold State.placeMessage
  split
  · exact h.takeMessage m
  · exact h.setOverrun
  · rename_i hp _
    exact h.rlp _ (.inl (by simp [hp]))
  · exact h.setOverrun

theorem Reach.requestByte {s₀ s : State} (h : Reach s₀ s) (b : Byte) : Reach s₀ (requestByte b s) := by
  unfold Machine.requestByte
  (repeat' split) <;> first
    | exact h.receive _
    | exact h.setNoise
    | exact (h.receive _).setNoise
    | exact (h.receive _).placeMessage _

theorem Reach.feedBytes {s₀ : State} (bytes : List Byte) : ∀ {s : State} (_ : Reach s₀ s), Reach s₀ (feedBytes bytes s) := by
  induction bytes with
  | nil => intro s h; exact h
  | cons b bytes ih => intro s h; exact ih (h.requestByte b)

theorem Reach.requestGap {s₀ s : State} (h : Reach s₀ s) : Reach s₀ (requestGap s) := by
  unfold Machine.requestGap
  split <;> first | exact h | exact (h.receive _).setGap

theorem Reach.answerSent {s₀ s : State} (h : Reach s₀ s) (lr1 lr0 : Bool) : Reach s₀ (answerSent lr1 lr0 s) := by
  have hn : Reach s₀ { s with rlp := { s.rlp with processing := none, waiting := none } } := h.rlp _ (.inr (.inl rfl))
  unfold Machine.answerSent
  dsimp only
  split
  · exact h
  · split
    · exact h.reset.leaveReset lr1 lr0
    · split
      · exact hn.takeMessage _
      · exact hn

theorem Reach.receiveRequest {r : Request} {s t : State} (h : receiveRequest r s = .next t) : Reach s t := by
  unfold Machine.receiveRequest at h
  split at h
  · cases h
    exact Reach.refl.live fun t h => h.feedBytes _
  · cases h

/-! ### Every command -/

/-- Whatever a command does is a chain of the updates of `Reach`. -/
theorem Reach.exec {c : Instr} {s t : State} (h : exec c s = .next t) : Reach s t := by
  cases c
  case identify => exact Reach.receiveRequest (r := .identify) h
  case status => exact Reach.receiveRequest (r := .status) h
  case events => exact Reach.receiveRequest (r := .events) h
  case setParameters b => exact Reach.receiveRequest (r := .setParameters b) h
  case readParameters => exact Reach.receiveRequest (r := .readParameters) h
  case restart => exact Reach.receiveRequest (r := .restart) h
  case declareRoll a b => exact Reach.receiveRequest (r := .declareRoll a b) h
  case declareFrames a b c => exact Reach.receiveRequest (r := .declareFrames a b (num8 c.length) c) h
  case readRoll a => exact Reach.receiveRequest (r := .readRoll a) h
  case readFrames a b c => exact Reach.receiveRequest (r := .readFrames a b c) h
  case findFrame a b c d => exact Reach.receiveRequest (r := .findFrame a b c d) h
  case annotateFrame a b c => exact Reach.receiveRequest (r := .annotateFrame a b c) h
  case setFocus a b c d => exact Reach.receiveRequest (r := .setFocus a b c d) h
  case withdrawFrame a b => exact Reach.receiveRequest (r := .withdrawFrame a b) h
  case restoreFrame a b => exact Reach.receiveRequest (r := .restoreFrame a b) h
  case retireRoll a => exact Reach.receiveRequest (r := .retireRoll a) h
  case nameRoll a b => exact Reach.receiveRequest (r := .nameRoll a b) h
  case bindDeck a b => exact Reach.receiveRequest (r := .bindDeck a b) h
  case mount a => exact Reach.receiveRequest (r := .mount a) h
  case unmount a => exact Reach.receiveRequest (r := .unmount a) h
  case clearDeck a => exact Reach.receiveRequest (r := .clearDeck a) h
  case fetch a b c d => exact Reach.receiveRequest (r := .fetch a b c d) h
  case range a b c d e => exact Reach.receiveRequest (r := .range a b c d e) h
  case locate a b c d => exact Reach.receiveRequest (r := .locate a b c d) h
  case focus a b c d => exact Reach.receiveRequest (r := .focus a b c d) h
  case index a b c d => exact Reach.receiveRequest (r := .index a b c d) h
  case cancel a => exact Reach.receiveRequest (r := .cancel a) h
  case queryTicket a => exact Reach.receiveRequest (r := .queryTicket a) h
  case collect a => exact Reach.receiveRequest (r := .collect a) h
  case setSweepPlan a => exact Reach.receiveRequest (r := .setSweepPlan a) h
  case readSweepPlan => exact Reach.receiveRequest (r := .readSweepPlan) h
  case readSweepResult => exact Reach.receiveRequest (r := .readSweepResult) h
  case requestMessageComplete b => cases h; exact Reach.refl.live fun t h => h.requestByte b
  case noiseByte b => cases h; exact Reach.refl.live fun t h => h.requestByte b
  case zeroLengthByte => cases h; exact Reach.refl.live fun t h => h.requestByte 0
  case gap => cases h; exact Reach.refl.live fun t h => h.requestGap
  case brokenByte => cases h; exact Reach.refl.live fun t h => (h.receive _).setNoise
  case answerSent lr1 lr0 => cases h; exact Reach.refl.live fun t h => h.answerSent lr1 lr0
  case resetnAsserted => cases h; exact Reach.refl.reset.pins _
  case resetnReleased lr1 lr0 =>
    cases h
    split
    · exact (Reach.refl.pins _).leaveReset lr1 lr0
    · exact .refl
  case seatContactChange d c made => cases h; exact Reach.seatContact d c made s
  case seatingTimeEnd d k1 k2 => cases h; exact Reach.event fun _ => Inner.refl.seatingEnds d k1 k2
  case seatFault d => cases h; exact Reach.event fun _ => Inner.refl.seatFaults d
  case encoderCount d dir => cases h; exact Reach.event fun _ => Inner.refl.encoderCounts d dir
  case leaderTravelLimit d => cases h; exact Reach.event fun _ => Inner.refl.leaderTravelEnds d
  case markOpeningEdge d => cases h; exact Reach.event fun _ => Inner.refl.markEdge d true
  case markClosingEdge d => cases h; exact Reach.event fun _ => Inner.refl.markEdge d false
  case tensionReading d r => cases h; exact Reach.event fun _ => Inner.refl.tensionReads d r
  case tensionTrip d r => cases h; exact Reach.event fun _ => Inner.refl.tensionReads d r
  case driveFault d a => cases h; exact Reach.driveFaults d a s
  case filmEndFires d => cases h; exact Reach.filmEndFires d s
  case filmInGateCleared d => cases h; exact Reach.filmGateCleared d s
  case arrival d =>
    cases h
    refine Reach.event fun t => ?_
    split
    · exact Inner.refl.filmRests d
    · exact .refl
  case filmAtRest d => cases h; exact Reach.event fun _ => Inner.refl.filmRests d
  case searchLowEndTurn d => cases h; exact Reach.event fun _ => Inner.refl.searchTurns d
  case searchCompletion d =>
    cases h
    refine Reach.event fun t => ?_
    split
    · exact Inner.refl.filmRests d
    · exact .refl
  case lensHomeReached d m => cases h; exact Reach.lensHomeInput d m s
  case lensHomingLimit d => cases h; exact Reach.event fun _ => Inner.refl.lensHomingEnds d
  case lensArrival d => cases h; exact Reach.event fun _ => Inner.refl.lensReaches d
  case settlePauseEnd => cases h; exact Reach.event fun _ => Inner.refl.settlePauseEnds
  case pathLimitReached g m => cases h; exact Reach.pathLimit g m s
  case pathMoveTimeout => cases h; exact Reach.event fun _ => Inner.refl.pathTimesOut
  case orderLastByteSent => cases h; exact Reach.event fun _ => Inner.refl.orderByteSent
  case headReport n o v c => cases h; exact Reach.event fun _ => Inner.reportReceived _ .refl
  case reportGap => cases h; exact Reach.event fun _ => Inner.refl.reportCut
  case headBrokenByte => cases h; exact Reach.event fun _ => Inner.refl.reportCut
  case headTimeout => cases h; exact Reach.event fun _ => Inner.refl.headTimesOut
  case readyFalls => cases h; exact Reach.readyDrops s
  case readyRises => cases h; exact Reach.refl.pins _
  case holdAsserted => cases h; exact Reach.holdAsserts s
  case holdReleased => cases h; exact Reach.holdReleases s
  case markSensorSample d m => cases h; exact Reach.event fun _ => Inner.refl.markSampled d m
  case lensStep d => cases h; exact Reach.event fun _ => Inner.refl.lensSteps d
  case requestByteReceived b => cases h; exact Reach.refl.live fun t h => h.requestByte b
  case reportByteReceived b => cases h; exact Reach.event fun _ => Inner.refl.reportByte b
  case filmEndCleared d => cases h; exact Reach.refl.sensors d _
  case filmInGateShowsFilm d => cases h; exact Reach.refl.sensors d _

end Sys2Proof.Machine
end

