-- ==== Sys2Proof/Laws/Idle.lean ====
section
/-! SUPPORT. What happens where nothing else is going on: a scheduler with nothing to do leaves the state as it is, and a whole
request message on an idle link is taken and answered. -/

namespace Sys2Proof.Machine

/-! ## The scheduler with nothing to do -/

theorem mem_allTickets (t : TicketNo) : t ∈ allTickets := by revert t; decide
theorem mem_allSlots (k : Slot) : k ∈ allSlots := by revert k; decide

theorem schedIdle_iff {s : State} : schedIdle s = true ↔
    s.scheds = ⟨Sched.reset, Sched.reset⟩ ∧ s.opa.requests = ⟨false, false⟩ ∧ ∀ t, (s.ticket t).state ≠ .queued := by
  simp only [schedIdle, Bool.and_eq_true, beq_iff_eq, List.all_eq_true, bne_iff_ne, ne_eq, and_assoc]
  exact ⟨fun h => ⟨h.1, h.2.1, fun t => h.2.2 t (mem_allTickets t)⟩, fun h => ⟨h.1, h.2.1, fun t _ => h.2.2 t⟩⟩

theorem sched_of_idle {s : State} (h : schedIdle s = true) (d : DeckId) : s.sched d = Sched.reset := by
  rw [State.sched, (schedIdle_iff.1 h).1]
  cases d <;> rfl

theorem choose_of_idle {s : State} (h : schedIdle s = true) (k : Slot) : s.choose k = none := by
  have hq := (schedIdle_iff.1 h).2.2
  have : (s.admission.filter fun t => (s.ticket t).state == .queued && (s.ticket t).slot == some k) = [] := by
    simp [hq]
  rw [State.choose, this]
  rfl

theorem deckAction_of_idle {s : State} (h : schedIdle s = true) (d : DeckId) : s.deckAction d = none := by
  have hs : s.selection d = none := by
    unfold State.selection
    (repeat' split) <;> simp [choose_of_idle h]
  have hd := sched_of_idle h d
  simp [State.deckAction, hs, State.continueStage, State.beginTrack, State.beginSweep, State.beginCapture, hd, Sched.reset]

theorem requestAction_of_idle {s : State} (h : schedIdle s = true) (d : DeckId) : s.requestAction d = none := by
  have hd := sched_of_idle h d
  have hr : s.opa.requests.get d = false := by rw [(schedIdle_iff.1 h).2.1]; cases d <;> rfl
  simp [State.requestAction, State.requestWanted, State.ticketWants, hd, hr, Sched.reset]

theorem nextAction_of_idle {s : State} (h : schedIdle s = true) : s.nextAction = none := by
  simp [State.nextAction, deckAction_of_idle h, requestAction_of_idle h]

/-- A scheduler with nothing to do leaves the state as it is. -/
theorem settle_of_idle {s : State} (h : schedIdle s = true) : s.settle = s := by
  have hn : State.settleSteps 128 s = s := by simp only [State.settleSteps, nextAction_of_idle h]
  have hs := (schedIdle_iff.1 h).1
  have hr := (schedIdle_iff.1 h).2.1
  have he : ({ s with scheds := ⟨{ s.scheds.a with request := s.opa.requests.a },
      { s.scheds.b with request := s.opa.requests.b }⟩ } : State) = s := by
    rw [hs, hr]
    show ({ s with scheds := ⟨Sched.reset, Sched.reset⟩ } : State) = s
    rw [← hs]
  have hp (d : DeckId) : s.showPathWait d = s := by simp [State.showPathWait, sched_of_idle h, Sched.reset]
  simp only [State.settle, hn, he, hp]

/-! ## A whole message on an idle link -/

theorem linkIdle_iff {s : State} : linkIdle s = true ↔ s.pins.resetAsserted = false ∧ s.rlp.receiver = .hunt ∧
    s.rlp.gapTimer = none ∧ s.rlp.processing = none ∧ s.rlp.waiting = none := by
  simp [linkIdle, running, and_assoc]

theorem live_of_running {s : State} (h : s.pins.resetAsserted = false) (f : State → State) : live s f = f s := by
  simp [live, h]

/-- The bytes of a body are collected, and the receiver waits for the CRC (R169). -/
theorem feedBytes_body (len : Byte) (more : List Byte) : ∀ (rest got : List Byte) (s : State) (_ : rest ≠ [])
    (_ : s.rlp.receiver = .body len rest.length got), feedBytes (rest ++ more) s =
      feedBytes more (s.receive (.check len (got ++ rest) none)) := by
  intro rest
  induction rest with
  | nil => intro got s h; exact absurd rfl h
  | cons b rest ih =>
    intro got s _ hr
    cases rest with
    | nil => simp [feedBytes, requestByte, hr]
    | cons c rest =>
      have := ih (got ++ [b]) (s.receive (.body len (c :: rest).length (got ++ [b]))) (by simp) rfl
      simp only [List.cons_append, feedBytes, List.foldl_cons] at this ⊢
      rw [show requestByte b s = s.receive (.body len (c :: rest).length (got ++ [b])) by simp [requestByte, hr]]
      rw [this]
      simp [State.receive]

/-- A message of 1 to 255 bytes received whole by a hunting receiver is placed (R169). -/
theorem feedBytes_frame {s : State} (body : List Byte) (h : s.rlp.receiver = .hunt) (hb : body ≠ [])
    (hl : body.length ≤ 255) : feedBytes (frameBytes requestLead body) s =
      (s.receive .hunt).placeMessage ⟨lengthByte body, body, bodyCrc body⟩ := by
  have hn : (lengthByte body).toNat = body.length := by
    simp [lengthByte, num8, BitVec.toNat_ofNat, Nat.mod_eq_of_lt (show body.length < 256 by omega)]
  have hz : lengthByte body ≠ 0 := by
    intro e
    have := congrArg BitVec.toNat e
    rw [hn] at this
    exact hb (List.length_eq_zero_iff.1 this)
  have h1 : requestByte requestLead s = s.receive .length := by simp [requestByte, h]
  have h2 : requestByte (lengthByte body) (s.receive .length) = s.receive (.body (lengthByte body) body.length []) := by
    simp only [requestByte, State.receive]
    rw [if_neg hz, hn]
  have h3 := feedBytes_body (lengthByte body) (bytes16 (bodyCrc body)) body []
    (s.receive (.body (lengthByte body) body.length [])) hb rfl
  rw [frameBytes]
  simp only [feedBytes, List.foldl_cons] at h3 ⊢
  rw [h1, h2, h3]
  have hj : join16 ((bodyCrc body).extractLsb' 8 8) ((bodyCrc body).extractLsb' 0 8) = bodyCrc body := by
    apply BitVec.eq_of_getLsbD_eq
    intro i hi
    simp only [join16, BitVec.getLsbD_append, BitVec.getLsbD_extractLsb']
    split
    · rename_i h8
      simp [h8]
    · rename_i h8
      rw [show 8 + (i - 8) = i by omega]
      simp [show i - 8 < 8 by omega]
  simp [bytes16, requestByte, State.receive, hj]

/-- A whole request message on an idle link is taken (R169, R172, R173). -/
theorem receiveRequest_of_idle {s : State} {r : Request} (h : linkIdle s = true) (hw : r.wf = true)
    (hl : r.body.length ≤ 255) : receiveRequest r s = .next (s.takeMessage r.message) := by
  obtain ⟨h0, h1, h2, h3, h4⟩ := linkIdle_iff.1 h
  have hs : s.receive .hunt = s := by
    simp only [State.receive, if_true]
    show ({ s with rlp := { s.rlp with receiver := .hunt, gapTimer := none } } : State) = s
    rw [← h1, ← h2]
  rw [receiveRequest, if_pos hw, live_of_running h0, feedBytes_frame r.body h1 (by simp [Request.body]) hl, hs]
  simp [State.placeMessage, h3, h4, Request.message]

/-- The message of a request carries the CRC of its length and body (R174). -/
@[simp] theorem Request.message_crcOk (r : Request) : r.message.crcOk = true := by
  simp [Message.crcOk, Request.message, bodyCrc]

/-- The answer of a message whose body reads as the request `r`. -/
theorem takeMessage_of_parsed {s : State} {r : Request} (h : parseBody r.body = .ok r) :
    s.takeMessage r.message = (carryOut r s).send r.message := by
  simp [State.takeMessage, Message.reply, show r.message.body = r.body from rfl, h]

/-- A reply sent is the state of the answer. -/
theorem send_eq_answered (t : State) (r : Request) (c : ResultCode) (data : List Byte) :
    (Reply.mk t c data).send r.message = answered t r c data := rfl

end Sys2Proof.Machine
end

