-- ==== Sys2Proof/Laws/Unused.lean ====
section
/-! SUPPORT. A deck for which no block works: what a halt of it comes to, and the operations that then change
nothing; a stop and a rest in the words of the states that the statements name. -/

namespace Sys2Proof.Machine

theorem schedIdle_congr {s t : State} (h : schedIdle s = true) (h1 : t.scheds = s.scheds) (h2 : t.opa.requests = s.opa.requests)
    (h3 : t.tickets = s.tickets) : schedIdle t = true := by
  have : ∀ n, t.ticket n = s.ticket n := by intro n; simp only [State.ticket, h3]
  simpa only [schedIdle, h1, h2, this] using h

theorem deckUnused_iff {s : State} {d : DeckId} : deckUnused s d = true ↔ schedIdle s = true ∧ s.opa.holder ≠ some d ∧
    ∀ w, s.fseq.sweep = some w → w.deck ≠ d := by
  simp only [deckUnused, Bool.and_eq_true, bne_iff_ne, ne_eq, Option.all_eq_true, and_assoc]

theorem abortSweep_of_unused {s : State} {d : DeckId} (h : ∀ w, s.fseq.sweep = some w → w.deck ≠ d) (c : AbortCause) :
    s.abortSweep d c = (s, none) := by
  unfold State.abortSweep
  split
  · rfl
  · rename_i w hw
    rw [if_neg (h w hw)]

theorem updateRequest_of_idle {s : State} (h : schedIdle s = true) (d : DeckId) : s.updateRequest d = s := by
  have hd := sched_of_idle h d
  have hr : s.opa.requests.get d = false := by rw [(schedIdle_iff.1 h).2.1]; cases d <;> rfl
  have hw : s.requestWanted d = false := by simp [State.requestWanted, State.ticketWants, hd, Sched.reset]
  have hs : s.modSched d (fun c => { c with request := false }) = s := by
    show s.setSched d { s.sched d with request := false } = s
    have : ({ s.sched d with request := false } : Sched) = s.sched d := by rw [hd]; rfl
    rw [this]; simp
  simp [State.updateRequest, hw, hs, State.withdraw, hr]

theorem dropLeader_eq (s : State) (d : DeckId) : s.dropLeader d =
    if ((s.deck d).state == .threading || (s.deck d).state == .identifying) = true then s.setMark d (s.mark d).dropLeader
    else s := by
  unfold State.dropLeader
  cases (s.deck d).state <;> rfl

/-- What a halt changes before it is handed on. -/
def haltLocal (s : State) (d : DeckId) (cause : HaltCause) : State :=
  ((((s.dropLeader d).modDeck d fun k =>
    { k.dropMotion with state := .halted, lastHalt := some cause }.recordEvent .halted).powerOff d).dropShares d)

theorem halt_eq (s : State) (d : DeckId) (c : HaltCause) : s.halt d c =
    ((State.sweepReport? (((((haltLocal s d c).deckFailed d .halted).updateRequest d)).abortSweep d .halt)).closeTenure d).settle := rfl

theorem haltLocal_eq (s : State) (d : DeckId) (c : HaltCause) : haltLocal s d c = haltedAs s d c := by
  unfold haltLocal
  rw [dropLeader_eq]
  by_cases hr : ((s.deck d).state == .threading || (s.deck d).state == .identifying) = true
  · simp only [hr, if_true]
    simp [State.dropShares, State.powerOff, State.modDeck, haltedAs, hr, Deck.recordEvent, EventSet.add,
      Deck.dropMotion, Mark.powerOff, Mark.dropSearch, Mark.dropLeader, PoolDeck.drop, PoolDeck.leaveRun]
    simp [State.setDeck, State.setMark, State.setLens, State.setPool]
  · simp only [hr]
    simp [State.dropShares, State.powerOff, State.modDeck, haltedAs, hr, Deck.recordEvent, EventSet.add,
      Deck.dropMotion, Mark.powerOff, Mark.dropSearch, PoolDeck.drop, PoolDeck.leaveRun]
    simp [State.setDeck, State.setMark, State.setLens, State.setPool]

theorem halt_of_unused {s : State} {d : DeckId} (h : deckUnused s d = true) (c : HaltCause) : s.halt d c = haltedAs s d c := by
  obtain ⟨hi, hh, hw⟩ := deckUnused_iff.1 h
  rw [halt_eq, haltLocal_eq]
  have hu : schedIdle (haltedAs s d c) = true := schedIdle_congr hi rfl rfl rfl
  have e1 : (haltedAs s d c).deckFailed d .halted = haltedAs s d c := by
    simp [State.deckFailed, sched_of_idle hu d, Sched.reset]
  rw [e1, updateRequest_of_idle hu, abortSweep_of_unused (s := haltedAs s d c) hw]
  have e2 : (haltedAs s d c).closeTenure d = haltedAs s d c := by
    have : (haltedAs s d c).opa.holder ≠ some d := hh
    simp [State.closeTenure, this]
  show ((haltedAs s d c).closeTenure d).settle = haltedAs s d c
  rw [e2, settle_of_idle hu]
theorem toReady_eq (s : State) (d : DeckId) : s.toReady d = readyAs s d := by
  simp [State.toReady, State.modDeck, State.setDeck, State.setPool, State.pool, PoolDeck.leaveRun, readyAs]

/-- A stop leads to the state the statements name, and comes to rest at once exactly where the motion it ends is deferred. -/
theorem stop_eq (s : State) (d : DeckId) : s.stop d =
    (stoppedWhereMoving s d, match (s.deck d).state with
      | .shuttling | .indexing | .searching => decide ((s.deck d).motion = .deferred)
      | _ => false) := by
  unfold State.stop stoppedWhereMoving
  cases h : (s.deck d).state <;> try rfl
  all_goals
    by_cases hm : (s.deck d).motion = .deferred
    all_goals simp [hm, stoppedAs, toReady_eq, State.modDeck, State.setDeck, State.setPool, State.setMark, State.deck, State.pool,
      State.mark, Mark.dropSearch] <;> simp_all [State.deck]

end Sys2Proof.Machine
end

