-- ==== Sys2Proof/Laws/Named.lean ====
section
/-! SUPPORT. The operations of the mark reader, the scheduler and the focus sequencer that act on a mark, a run and a sweep, in the
words of the states that the statements name; and what the scheduler does between events. -/

namespace Sys2Proof.Machine

theorem near_eq_inWindow (s : State) (r : FrameRecord) (c : Nat) : r.near s.params.window c = inWindow s r c := by
  unfold FrameRecord.near inWindow distance
  rw [decide_eq_decide]
  omega

theorem miss_eq_missedAs (r : FrameRecord) : r.miss = missedAs r := by
  unfold FrameRecord.miss missedAs holdUp
  simp only [FrameRecord.mk.injEq, true_and, and_true]
  by_cases h : 2 ≤ r.missCount
  · simp [h]
  · have : min 3 (r.missCount + 1) ≠ 3 := by omega
    simp [h, this]

theorem crossingOf_frame {set : List Crossing} {n : Nat} {x : Crossing} (h : crossingOf set n = some x) : x.frame = n := by
  simpa using List.find?_some h

/-- The crossing set brought up to date, at a deck with an entry in one of the four states of R41. -/
theorem updateCrossing_eq {s : State} {d : DeckId} {n : Slot} (h : s.entryOf d = some n)
    (hm : (s.deck d).state.matching = true) : s.updateCrossing d = crossedAs s d n := by
  have member (r : FrameRecord) : ({ (crossingOf (s.pool d).crossing r.frame).getD ⟨r.frame, false, false⟩ with
      excused := false } : Crossing) =
      ⟨r.frame, (crossingOf (s.pool d).crossing r.frame).any (·.matched), false⟩ := by
    cases hx : crossingOf (s.pool d).crossing r.frame with
    | none => rfl
    | some x => simp [crossingOf_frame hx]
  unfold State.updateCrossing crossedAs
  simp only [h, hm, if_true, near_eq_inWindow, member]
  by_cases hs : (s.deck d).state = .searching
  · simp [hs, State.setPool, crossingOf, State.chain]
  · simp [hs, State.setPool, State.setChain, crossingOf, State.chain, miss_eq_missedAs]

/-- A match noted on the record's crossing and for the watch. -/
theorem setPool_noteMatch (s : State) (d : DeckId) (frame : Nat) :
    s.setPool d ((s.pool d).noteMatch frame) = matchNoted s d frame := rfl

/-- A stop command of the scheduler to a deck in motion. -/
theorem stopRun_eq {s : State} {d : DeckId}
    (h : (s.deck d).state = .shuttling ∨ (s.deck d).state = .indexing ∨ (s.deck d).state = .searching) :
    s.stopRun d = if (s.deck d).motion = .deferred then (stoppedAs s d).runRested d false else stoppedAs s d := by
  unfold State.stopRun
  rw [stop_eq]
  rcases h with h | h | h <;> by_cases hm : (s.deck d).motion = .deferred <;> simp [stoppedWhereMoving, h, hm]

/-- An index run that a READY deck takes where the film end does not show. -/
theorem indexRun_eq {s : State} {d : DeckId} (h : (s.deck d).state = .ready) (hf : (s.sensors d).filmEnd = false) :
    s.indexRun d = (runBegun s d, false) := by
  unfold State.indexRun runBegun
  rw [if_pos h, if_neg (by simp [hf])]
  by_cases hh : s.pins.hold = true <;> by_cases hg : s.opa.path.selected = d <;>
    simp [State.beginMotion, State.motionBegins, State.holdApplies, hh, hg, State.modDeck, State.setDeck, State.setPool,
      State.deck, State.pool]

/-! ## What the scheduler does between events -/

theorem settleSteps_of_none {s : State} (h : s.nextAction = none) (n : Nat) : State.settleSteps (n + 1) s = s := by
  simp [State.settleSteps, h]

theorem settleSteps_of_some {s u : State} (h : s.nextAction = some u) (n : Nat) :
    State.settleSteps (n + 1) s = State.settleSteps n u := by
  simp [State.settleSteps, h]

theorem raise_of_raised {s : State} {d : DeckId} (h : s.opa.requests.get d = true) : s.raise d = s := by
  simp [State.raise, h]

theorem withdraw_of_lowered {s : State} {d : DeckId} (h : s.opa.requests.get d = false) : s.withdraw d = s := by
  simp [State.withdraw, h]

theorem better_foldl_isSome (s : State) (l : List TicketNo) (t : TicketNo) :
    (l.foldl s.betterTicket (some t)).isSome = true := by
  induction l generalizing t with
  | nil => rfl
  | cons a l ih =>
    simp only [List.foldl_cons, State.betterTicket]
    split <;> exact ih _

/-- No ticket is chosen exactly where no QUEUED ticket on the list names the entry. -/
theorem choose_eq_none_iff (s : State) (k : Slot) :
    s.choose k = none ↔ ∀ t ∈ s.admission, (s.ticket t).state = .queued → (s.ticket t).slot ≠ some k := by
  have h (l : List TicketNo) : l.foldl s.betterTicket none = none ↔ l = [] := by
    cases l with
    | nil => simp
    | cons a l =>
      have := better_foldl_isSome s l a
      rw [List.foldl_cons, State.betterTicket]
      simp [Option.isSome_iff_ne_none.mp this]
  unfold State.choose
  rw [h, List.filter_eq_nil_iff]
  simp

end Sys2Proof.Machine
end

