-- ==== Sys2Proof/Laws/PerInstr.lean ====
section
/-! SUPPORT. Which commands a message can carry: for every command that stands for a request, `Instr.wf` says exactly that the
request can be sent and that its body fits the length byte. One lemma per constructor. -/

open Sys2Proof Sys2Proof.Machine

/-- The request a command stands for, or none for an event (log 1). -/
def Sys2Proof.Laws.Wellformed.requestOf : Instr → Option Request
  | .identify => some .identify
  | .status => some .status
  | .events => some .events
  | .setParameters block => some (.setParameters block)
  | .readParameters => some .readParameters
  | .restart => some .restart
  | .declareRoll tag width => some (.declareRoll tag width)
  | .declareFrames slot first items => some (.declareFrames slot first (num8 items.length) items)
  | .readRoll slot => some (.readRoll slot)
  | .readFrames slot frame count => some (.readFrames slot frame count)
  | .findFrame slot sec group index => some (.findFrame slot sec group index)
  | .annotateFrame slot frame note => some (.annotateFrame slot frame note)
  | .setFocus slot frame flags setpoint => some (.setFocus slot frame flags setpoint)
  | .withdrawFrame slot frame => some (.withdrawFrame slot frame)
  | .restoreFrame slot frame => some (.restoreFrame slot frame)
  | .retireRoll slot => some (.retireRoll slot)
  | .nameRoll slot tag => some (.nameRoll slot tag)
  | .bindDeck deck slot => some (.bindDeck deck slot)
  | .mount deck => some (.mount deck)
  | .unmount deck => some (.unmount deck)
  | .clearDeck deck => some (.clearDeck deck)
  | .fetch slot frame priority options => some (.fetch slot frame priority options)
  | .range slot first last priority options => some (.range slot first last priority options)
  | .locate slot frame priority options => some (.locate slot frame priority options)
  | .focus slot frame priority options => some (.focus slot frame priority options)
  | .index slot target priority options => some (.index slot target priority options)
  | .cancel ticket => some (.cancel ticket)
  | .queryTicket ticket => some (.queryTicket ticket)
  | .collect ticket => some (.collect ticket)
  | .setSweepPlan plan => some (.setSweepPlan plan)
  | .readSweepPlan => some .readSweepPlan
  | .readSweepResult => some .readSweepResult
  | .requestMessageComplete _ => none
  | .noiseByte _ => none
  | .zeroLengthByte => none
  | .gap => none
  | .brokenByte => none
  | .answerSent _ _ => none
  | .resetnAsserted => none
  | .resetnReleased _ _ => none
  | .seatContactChange _ _ _ => none
  | .seatingTimeEnd _ _ _ => none
  | .seatFault _ => none
  | .encoderCount _ _ => none
  | .leaderTravelLimit _ => none
  | .markOpeningEdge _ => none
  | .markClosingEdge _ => none
  | .tensionReading _ _ => none
  | .tensionTrip _ _ => none
  | .driveFault _ _ => none
  | .filmEndFires _ => none
  | .filmInGateCleared _ => none
  | .arrival _ => none
  | .filmAtRest _ => none
  | .searchLowEndTurn _ => none
  | .searchCompletion _ => none
  | .lensHomeReached _ _ => none
  | .lensHomingLimit _ => none
  | .lensArrival _ => none
  | .settlePauseEnd => none
  | .pathLimitReached _ _ => none
  | .pathMoveTimeout => none
  | .orderLastByteSent => none
  | .headReport _ _ _ _ => none
  | .reportGap => none
  | .headBrokenByte => none
  | .headTimeout => none
  | .readyFalls => none
  | .readyRises => none
  | .holdAsserted => none
  | .holdReleased => none
  | .markSensorSample _ _ => none
  | .lensStep _ => none
  | .requestByteReceived _ => none
  | .reportByteReceived _ => none
  | .filmEndCleared _ => none
  | .filmInGateShowsFilm _ => none

/-- A command is well formed exactly when the request it stands for can be sent (10.1, 10.3). -/
def Sys2Proof.Laws.Wellformed.Statement (i : Instr) : Prop :=
  ∀ r, Sys2Proof.Laws.Wellformed.requestOf i = some r → (i.wf = true ↔ r.wf = true ∧ r.body.length ≤ 255)

/-- An event stands for no request. -/
theorem Sys2Proof.Laws.Wellformed.ofEvent {i : Instr} (h : Sys2Proof.Laws.Wellformed.requestOf i = none) :
    Sys2Proof.Laws.Wellformed.Statement i := by
  intro r hr
  rw [h] at hr
  exact absurd hr (by simp)

/-- A request of fixed form is always well formed and always fits. -/
theorem Sys2Proof.Laws.Wellformed.ofFixed {i : Instr} {r : Request} (h : Sys2Proof.Laws.Wellformed.requestOf i = some r)
    (hi : i.wf = true) (hr : r.wf = true) (hl : r.body.length ≤ 255) : Sys2Proof.Laws.Wellformed.Statement i := by
  intro q hq
  rw [h] at hq
  obtain rfl := Option.some.inj hq
  exact ⟨fun _ => ⟨hr, hl⟩, fun _ => hi⟩

theorem Sys2Proof.Laws.Wellformed.itemBytes_length (i : DeclItem) : (itemBytes i).length = i.size := by
  simp only [itemBytes, DeclItem.size]
  split <;> rfl

theorem Sys2Proof.Laws.Wellformed.items_length (items : List DeclItem) :
    (items.flatMap itemBytes).length = (items.map DeclItem.size).sum := by
  simp only [List.length_flatMap, Sys2Proof.Laws.Wellformed.itemBytes_length]

theorem Sys2Proof.Laws.Wellformed.length_le (items : List DeclItem) :
    4 * items.length ≤ (items.map DeclItem.size).sum := by
  induction items with
  | nil => simp
  | cons i rest ih =>
    have : 4 ≤ i.size := by simp only [DeclItem.size]; split <;> omega
    simp only [List.length_cons, List.map_cons, List.sum_cons]
    omega

/-- DECLARE FRAMES counts its items in one byte and fits a body where its items do. -/
theorem Sys2Proof.Laws.Wellformed.ofItems (slot : Byte) (first : Half) (items : List DeclItem) :
    Sys2Proof.Laws.Wellformed.Statement (.declareFrames slot first items) := by
  intro r hr
  obtain rfl := Option.some.inj hr
  have hb : (Request.declareFrames slot first (num8 items.length) items).body.length = 5 + (items.map DeclItem.size).sum := by
    simp only [Request.body, Request.arguments, bytes16, List.length_append, List.length_cons, List.length_nil,
      Sys2Proof.Laws.Wellformed.items_length]
    omega
  have hn := Sys2Proof.Laws.Wellformed.length_le items
  rw [hb]
  simp only [Instr.wf, Request.wf, itemsWf, Bool.and_eq_true, beq_iff_eq, decide_eq_true_eq]
  refine ⟨fun h => ⟨⟨?_, h⟩, h.2⟩, fun h => h.1.2⟩
  simp only [num8, BitVec.toNat_ofNat]
  exact Nat.mod_eq_of_lt (by omega)

theorem Sys2Proof.Laws.Wellformed.steps_length (steps : List StepWire) : (steps.flatMap stepBytes).length = 3 * steps.length := by
  simp only [List.length_flatMap, stepBytes, bytes16, List.length_cons, List.length_nil, List.map_const', List.sum_replicate]
  simp [Nat.mul_comm]

/-- SET SWEEP PLAN carries twelve steps. -/
theorem Sys2Proof.Laws.Wellformed.ofPlan (plan : PlanWire) : Sys2Proof.Laws.Wellformed.Statement (.setSweepPlan plan) := by
  intro r hr
  obtain rfl := Option.some.inj hr
  have hb : (Request.setSweepPlan plan).body.length = 3 + 3 * plan.steps.length := by
    simp only [Request.body, Request.arguments, planBytes, List.length_append, List.length_cons, List.length_nil,
      Sys2Proof.Laws.Wellformed.steps_length]
    omega
  rw [hb]
  simp only [Instr.wf, Request.wf, PlanWire.wf, beq_iff_eq]
  exact ⟨fun h => ⟨h, by omega⟩, fun h => h.1⟩

theorem Sys2Proof.Laws.Wellformed.identify :
    Sys2Proof.Laws.Wellformed.Statement .identify := Sys2Proof.Laws.Wellformed.ofFixed rfl rfl rfl (Nat.le_of_ble_eq_true rfl)
theorem Sys2Proof.Laws.Wellformed.status :
    Sys2Proof.Laws.Wellformed.Statement .status := Sys2Proof.Laws.Wellformed.ofFixed rfl rfl rfl (Nat.le_of_ble_eq_true rfl)
theorem Sys2Proof.Laws.Wellformed.events :
    Sys2Proof.Laws.Wellformed.Statement .events := Sys2Proof.Laws.Wellformed.ofFixed rfl rfl rfl (Nat.le_of_ble_eq_true rfl)
theorem Sys2Proof.Laws.Wellformed.setParameters (block : ParamWire) :
    Sys2Proof.Laws.Wellformed.Statement (.setParameters block) := Sys2Proof.Laws.Wellformed.ofFixed rfl rfl rfl (Nat.le_of_ble_eq_true rfl)
theorem Sys2Proof.Laws.Wellformed.readParameters :
    Sys2Proof.Laws.Wellformed.Statement .readParameters := Sys2Proof.Laws.Wellformed.ofFixed rfl rfl rfl (Nat.le_of_ble_eq_true rfl)
theorem Sys2Proof.Laws.Wellformed.restart :
    Sys2Proof.Laws.Wellformed.Statement .restart := Sys2Proof.Laws.Wellformed.ofFixed rfl rfl rfl (Nat.le_of_ble_eq_true rfl)
theorem Sys2Proof.Laws.Wellformed.declareRoll (tag : BitVec 24) (width : Byte) :
    Sys2Proof.Laws.Wellformed.Statement (.declareRoll tag width) := Sys2Proof.Laws.Wellformed.ofFixed rfl rfl rfl (Nat.le_of_ble_eq_true rfl)
theorem Sys2Proof.Laws.Wellformed.declareFrames (slot : Byte) (first : Half) (items : List DeclItem) :
    Sys2Proof.Laws.Wellformed.Statement (.declareFrames slot first items) := Sys2Proof.Laws.Wellformed.ofItems slot first items
theorem Sys2Proof.Laws.Wellformed.readRoll (slot : Byte) :
    Sys2Proof.Laws.Wellformed.Statement (.readRoll slot) := Sys2Proof.Laws.Wellformed.ofFixed rfl rfl rfl (Nat.le_of_ble_eq_true rfl)
theorem Sys2Proof.Laws.Wellformed.readFrames (slot : Byte) (frame : Half) (count : Byte) :
    Sys2Proof.Laws.Wellformed.Statement (.readFrames slot frame count) := Sys2Proof.Laws.Wellformed.ofFixed rfl rfl rfl (Nat.le_of_ble_eq_true rfl)
theorem Sys2Proof.Laws.Wellformed.findFrame (slot : Byte) (sec group index : Half) :
    Sys2Proof.Laws.Wellformed.Statement (.findFrame slot sec group index) := Sys2Proof.Laws.Wellformed.ofFixed rfl rfl rfl (Nat.le_of_ble_eq_true rfl)
theorem Sys2Proof.Laws.Wellformed.annotateFrame (slot : Byte) (frame note : Half) :
    Sys2Proof.Laws.Wellformed.Statement (.annotateFrame slot frame note) := Sys2Proof.Laws.Wellformed.ofFixed rfl rfl rfl (Nat.le_of_ble_eq_true rfl)
theorem Sys2Proof.Laws.Wellformed.setFocus (slot : Byte) (frame : Half) (flags : Byte) (setpoint : Half) :
    Sys2Proof.Laws.Wellformed.Statement (.setFocus slot frame flags setpoint) := Sys2Proof.Laws.Wellformed.ofFixed rfl rfl rfl (Nat.le_of_ble_eq_true rfl)
theorem Sys2Proof.Laws.Wellformed.withdrawFrame (slot : Byte) (frame : Half) :
    Sys2Proof.Laws.Wellformed.Statement (.withdrawFrame slot frame) := Sys2Proof.Laws.Wellformed.ofFixed rfl rfl rfl (Nat.le_of_ble_eq_true rfl)
theorem Sys2Proof.Laws.Wellformed.restoreFrame (slot : Byte) (frame : Half) :
    Sys2Proof.Laws.Wellformed.Statement (.restoreFrame slot frame) := Sys2Proof.Laws.Wellformed.ofFixed rfl rfl rfl (Nat.le_of_ble_eq_true rfl)
theorem Sys2Proof.Laws.Wellformed.retireRoll (slot : Byte) :
    Sys2Proof.Laws.Wellformed.Statement (.retireRoll slot) := Sys2Proof.Laws.Wellformed.ofFixed rfl rfl rfl (Nat.le_of_ble_eq_true rfl)
theorem Sys2Proof.Laws.Wellformed.nameRoll (slot : Byte) (tag : BitVec 24) :
    Sys2Proof.Laws.Wellformed.Statement (.nameRoll slot tag) := Sys2Proof.Laws.Wellformed.ofFixed rfl rfl rfl (Nat.le_of_ble_eq_true rfl)
theorem Sys2Proof.Laws.Wellformed.bindDeck (deck slot : Byte) :
    Sys2Proof.Laws.Wellformed.Statement (.bindDeck deck slot) := Sys2Proof.Laws.Wellformed.ofFixed rfl rfl rfl (Nat.le_of_ble_eq_true rfl)
theorem Sys2Proof.Laws.Wellformed.mount (deck : Byte) :
    Sys2Proof.Laws.Wellformed.Statement (.mount deck) := Sys2Proof.Laws.Wellformed.ofFixed rfl rfl rfl (Nat.le_of_ble_eq_true rfl)
theorem Sys2Proof.Laws.Wellformed.unmount (deck : Byte) :
    Sys2Proof.Laws.Wellformed.Statement (.unmount deck) := Sys2Proof.Laws.Wellformed.ofFixed rfl rfl rfl (Nat.le_of_ble_eq_true rfl)
theorem Sys2Proof.Laws.Wellformed.clearDeck (deck : Byte) :
    Sys2Proof.Laws.Wellformed.Statement (.clearDeck deck) := Sys2Proof.Laws.Wellformed.ofFixed rfl rfl rfl (Nat.le_of_ble_eq_true rfl)
theorem Sys2Proof.Laws.Wellformed.fetch (slot : Byte) (frame : Half) (priority options : Byte) :
    Sys2Proof.Laws.Wellformed.Statement (.fetch slot frame priority options) := Sys2Proof.Laws.Wellformed.ofFixed rfl rfl rfl (Nat.le_of_ble_eq_true rfl)
theorem Sys2Proof.Laws.Wellformed.range (slot : Byte) (first last : Half) (priority options : Byte) :
    Sys2Proof.Laws.Wellformed.Statement (.range slot first last priority options) := Sys2Proof.Laws.Wellformed.ofFixed rfl rfl rfl (Nat.le_of_ble_eq_true rfl)
theorem Sys2Proof.Laws.Wellformed.locate (slot : Byte) (frame : Half) (priority options : Byte) :
    Sys2Proof.Laws.Wellformed.Statement (.locate slot frame priority options) := Sys2Proof.Laws.Wellformed.ofFixed rfl rfl rfl (Nat.le_of_ble_eq_true rfl)
theorem Sys2Proof.Laws.Wellformed.focus (slot : Byte) (frame : Half) (priority options : Byte) :
    Sys2Proof.Laws.Wellformed.Statement (.focus slot frame priority options) := Sys2Proof.Laws.Wellformed.ofFixed rfl rfl rfl (Nat.le_of_ble_eq_true rfl)
theorem Sys2Proof.Laws.Wellformed.index (slot : Byte) (target : Half) (priority options : Byte) :
    Sys2Proof.Laws.Wellformed.Statement (.index slot target priority options) := Sys2Proof.Laws.Wellformed.ofFixed rfl rfl rfl (Nat.le_of_ble_eq_true rfl)
theorem Sys2Proof.Laws.Wellformed.cancel (ticket : Byte) :
    Sys2Proof.Laws.Wellformed.Statement (.cancel ticket) := Sys2Proof.Laws.Wellformed.ofFixed rfl rfl rfl (Nat.le_of_ble_eq_true rfl)
theorem Sys2Proof.Laws.Wellformed.queryTicket (ticket : Byte) :
    Sys2Proof.Laws.Wellformed.Statement (.queryTicket ticket) := Sys2Proof.Laws.Wellformed.ofFixed rfl rfl rfl (Nat.le_of_ble_eq_true rfl)
theorem Sys2Proof.Laws.Wellformed.collect (ticket : Byte) :
    Sys2Proof.Laws.Wellformed.Statement (.collect ticket) := Sys2Proof.Laws.Wellformed.ofFixed rfl rfl rfl (Nat.le_of_ble_eq_true rfl)
theorem Sys2Proof.Laws.Wellformed.setSweepPlan (plan : PlanWire) :
    Sys2Proof.Laws.Wellformed.Statement (.setSweepPlan plan) := Sys2Proof.Laws.Wellformed.ofPlan plan
theorem Sys2Proof.Laws.Wellformed.readSweepPlan :
    Sys2Proof.Laws.Wellformed.Statement .readSweepPlan := Sys2Proof.Laws.Wellformed.ofFixed rfl rfl rfl (Nat.le_of_ble_eq_true rfl)
theorem Sys2Proof.Laws.Wellformed.readSweepResult :
    Sys2Proof.Laws.Wellformed.Statement .readSweepResult := Sys2Proof.Laws.Wellformed.ofFixed rfl rfl rfl (Nat.le_of_ble_eq_true rfl)
theorem Sys2Proof.Laws.Wellformed.requestMessageComplete (crcLow : Byte) :
    Sys2Proof.Laws.Wellformed.Statement (.requestMessageComplete crcLow) := Sys2Proof.Laws.Wellformed.ofEvent rfl
theorem Sys2Proof.Laws.Wellformed.noiseByte (byte : Byte) :
    Sys2Proof.Laws.Wellformed.Statement (.noiseByte byte) := Sys2Proof.Laws.Wellformed.ofEvent rfl
theorem Sys2Proof.Laws.Wellformed.zeroLengthByte :
    Sys2Proof.Laws.Wellformed.Statement .zeroLengthByte := Sys2Proof.Laws.Wellformed.ofEvent rfl
theorem Sys2Proof.Laws.Wellformed.gap :
    Sys2Proof.Laws.Wellformed.Statement .gap := Sys2Proof.Laws.Wellformed.ofEvent rfl
theorem Sys2Proof.Laws.Wellformed.brokenByte :
    Sys2Proof.Laws.Wellformed.Statement .brokenByte := Sys2Proof.Laws.Wellformed.ofEvent rfl
theorem Sys2Proof.Laws.Wellformed.answerSent (lr1 lr0 : Bool) :
    Sys2Proof.Laws.Wellformed.Statement (.answerSent lr1 lr0) := Sys2Proof.Laws.Wellformed.ofEvent rfl
theorem Sys2Proof.Laws.Wellformed.resetnAsserted :
    Sys2Proof.Laws.Wellformed.Statement .resetnAsserted := Sys2Proof.Laws.Wellformed.ofEvent rfl
theorem Sys2Proof.Laws.Wellformed.resetnReleased (lr1 lr0 : Bool) :
    Sys2Proof.Laws.Wellformed.Statement (.resetnReleased lr1 lr0) := Sys2Proof.Laws.Wellformed.ofEvent rfl
theorem Sys2Proof.Laws.Wellformed.seatContactChange (deck : DeckId) (contact : Contact) (made : Bool) :
    Sys2Proof.Laws.Wellformed.Statement (.seatContactChange deck contact made) := Sys2Proof.Laws.Wellformed.ofEvent rfl
theorem Sys2Proof.Laws.Wellformed.seatingTimeEnd (deck : DeckId) (kind1 kind2 : Bool) :
    Sys2Proof.Laws.Wellformed.Statement (.seatingTimeEnd deck kind1 kind2) := Sys2Proof.Laws.Wellformed.ofEvent rfl
theorem Sys2Proof.Laws.Wellformed.seatFault (deck : DeckId) :
    Sys2Proof.Laws.Wellformed.Statement (.seatFault deck) := Sys2Proof.Laws.Wellformed.ofEvent rfl
theorem Sys2Proof.Laws.Wellformed.encoderCount (deck : DeckId) (direction : Direction) :
    Sys2Proof.Laws.Wellformed.Statement (.encoderCount deck direction) := Sys2Proof.Laws.Wellformed.ofEvent rfl
theorem Sys2Proof.Laws.Wellformed.leaderTravelLimit (deck : DeckId) :
    Sys2Proof.Laws.Wellformed.Statement (.leaderTravelLimit deck) := Sys2Proof.Laws.Wellformed.ofEvent rfl
theorem Sys2Proof.Laws.Wellformed.markOpeningEdge (deck : DeckId) :
    Sys2Proof.Laws.Wellformed.Statement (.markOpeningEdge deck) := Sys2Proof.Laws.Wellformed.ofEvent rfl
theorem Sys2Proof.Laws.Wellformed.markClosingEdge (deck : DeckId) :
    Sys2Proof.Laws.Wellformed.Statement (.markClosingEdge deck) := Sys2Proof.Laws.Wellformed.ofEvent rfl
theorem Sys2Proof.Laws.Wellformed.tensionReading (deck : DeckId) (reading : BitVec 10) :
    Sys2Proof.Laws.Wellformed.Statement (.tensionReading deck reading) := Sys2Proof.Laws.Wellformed.ofEvent rfl
theorem Sys2Proof.Laws.Wellformed.tensionTrip (deck : DeckId) (reading : BitVec 10) :
    Sys2Proof.Laws.Wellformed.Statement (.tensionTrip deck reading) := Sys2Proof.Laws.Wellformed.ofEvent rfl
theorem Sys2Proof.Laws.Wellformed.driveFault (deck : DeckId) (active : Bool) :
    Sys2Proof.Laws.Wellformed.Statement (.driveFault deck active) := Sys2Proof.Laws.Wellformed.ofEvent rfl
theorem Sys2Proof.Laws.Wellformed.filmEndFires (deck : DeckId) :
    Sys2Proof.Laws.Wellformed.Statement (.filmEndFires deck) := Sys2Proof.Laws.Wellformed.ofEvent rfl
theorem Sys2Proof.Laws.Wellformed.filmInGateCleared (deck : DeckId) :
    Sys2Proof.Laws.Wellformed.Statement (.filmInGateCleared deck) := Sys2Proof.Laws.Wellformed.ofEvent rfl
theorem Sys2Proof.Laws.Wellformed.arrival (deck : DeckId) :
    Sys2Proof.Laws.Wellformed.Statement (.arrival deck) := Sys2Proof.Laws.Wellformed.ofEvent rfl
theorem Sys2Proof.Laws.Wellformed.filmAtRest (deck : DeckId) :
    Sys2Proof.Laws.Wellformed.Statement (.filmAtRest deck) := Sys2Proof.Laws.Wellformed.ofEvent rfl
theorem Sys2Proof.Laws.Wellformed.searchLowEndTurn (deck : DeckId) :
    Sys2Proof.Laws.Wellformed.Statement (.searchLowEndTurn deck) := Sys2Proof.Laws.Wellformed.ofEvent rfl
theorem Sys2Proof.Laws.Wellformed.searchCompletion (deck : DeckId) :
    Sys2Proof.Laws.Wellformed.Statement (.searchCompletion deck) := Sys2Proof.Laws.Wellformed.ofEvent rfl
theorem Sys2Proof.Laws.Wellformed.lensHomeReached (deck : DeckId) (made : Bool) :
    Sys2Proof.Laws.Wellformed.Statement (.lensHomeReached deck made) := Sys2Proof.Laws.Wellformed.ofEvent rfl
theorem Sys2Proof.Laws.Wellformed.lensHomingLimit (deck : DeckId) :
    Sys2Proof.Laws.Wellformed.Statement (.lensHomingLimit deck) := Sys2Proof.Laws.Wellformed.ofEvent rfl
theorem Sys2Proof.Laws.Wellformed.lensArrival (deck : DeckId) :
    Sys2Proof.Laws.Wellformed.Statement (.lensArrival deck) := Sys2Proof.Laws.Wellformed.ofEvent rfl
theorem Sys2Proof.Laws.Wellformed.settlePauseEnd :
    Sys2Proof.Laws.Wellformed.Statement .settlePauseEnd := Sys2Proof.Laws.Wellformed.ofEvent rfl
theorem Sys2Proof.Laws.Wellformed.pathLimitReached (gate : DeckId) (made : Bool) :
    Sys2Proof.Laws.Wellformed.Statement (.pathLimitReached gate made) := Sys2Proof.Laws.Wellformed.ofEvent rfl
theorem Sys2Proof.Laws.Wellformed.pathMoveTimeout :
    Sys2Proof.Laws.Wellformed.Statement .pathMoveTimeout := Sys2Proof.Laws.Wellformed.ofEvent rfl
theorem Sys2Proof.Laws.Wellformed.orderLastByteSent :
    Sys2Proof.Laws.Wellformed.Statement .orderLastByteSent := Sys2Proof.Laws.Wellformed.ofEvent rfl
theorem Sys2Proof.Laws.Wellformed.headReport (number outcome : Byte) (value : BitVec 32) (crc : Half) :
    Sys2Proof.Laws.Wellformed.Statement (.headReport number outcome value crc) := Sys2Proof.Laws.Wellformed.ofEvent rfl
theorem Sys2Proof.Laws.Wellformed.reportGap :
    Sys2Proof.Laws.Wellformed.Statement .reportGap := Sys2Proof.Laws.Wellformed.ofEvent rfl
theorem Sys2Proof.Laws.Wellformed.headBrokenByte :
    Sys2Proof.Laws.Wellformed.Statement .headBrokenByte := Sys2Proof.Laws.Wellformed.ofEvent rfl
theorem Sys2Proof.Laws.Wellformed.headTimeout :
    Sys2Proof.Laws.Wellformed.Statement .headTimeout := Sys2Proof.Laws.Wellformed.ofEvent rfl
theorem Sys2Proof.Laws.Wellformed.readyFalls :
    Sys2Proof.Laws.Wellformed.Statement .readyFalls := Sys2Proof.Laws.Wellformed.ofEvent rfl
theorem Sys2Proof.Laws.Wellformed.readyRises :
    Sys2Proof.Laws.Wellformed.Statement .readyRises := Sys2Proof.Laws.Wellformed.ofEvent rfl
theorem Sys2Proof.Laws.Wellformed.holdAsserted :
    Sys2Proof.Laws.Wellformed.Statement .holdAsserted := Sys2Proof.Laws.Wellformed.ofEvent rfl
theorem Sys2Proof.Laws.Wellformed.holdReleased :
    Sys2Proof.Laws.Wellformed.Statement .holdReleased := Sys2Proof.Laws.Wellformed.ofEvent rfl
theorem Sys2Proof.Laws.Wellformed.markSensorSample (deck : DeckId) (mark : Bool) :
    Sys2Proof.Laws.Wellformed.Statement (.markSensorSample deck mark) := Sys2Proof.Laws.Wellformed.ofEvent rfl
theorem Sys2Proof.Laws.Wellformed.lensStep (deck : DeckId) :
    Sys2Proof.Laws.Wellformed.Statement (.lensStep deck) := Sys2Proof.Laws.Wellformed.ofEvent rfl
theorem Sys2Proof.Laws.Wellformed.requestByteReceived (byte : Byte) :
    Sys2Proof.Laws.Wellformed.Statement (.requestByteReceived byte) := Sys2Proof.Laws.Wellformed.ofEvent rfl
theorem Sys2Proof.Laws.Wellformed.reportByteReceived (byte : Byte) :
    Sys2Proof.Laws.Wellformed.Statement (.reportByteReceived byte) := Sys2Proof.Laws.Wellformed.ofEvent rfl
theorem Sys2Proof.Laws.Wellformed.filmEndCleared (deck : DeckId) :
    Sys2Proof.Laws.Wellformed.Statement (.filmEndCleared deck) := Sys2Proof.Laws.Wellformed.ofEvent rfl
theorem Sys2Proof.Laws.Wellformed.filmInGateShowsFilm (deck : DeckId) :
    Sys2Proof.Laws.Wellformed.Statement (.filmInGateShowsFilm deck) := Sys2Proof.Laws.Wellformed.ofEvent rfl
end

