-- ==== Sys2Proof/Tests/Slice0.lean ====
section
/-! SUPPORT. Tests: the operand checks refuse ill-formed commands; the wire formats on the spec's own examples; and, for each
statement of Certificates/Slice0/Obligations.lean that has hypotheses, a state and operands that meet them, clause by clause. -/

namespace Sys2Proof.Tests

set_option Elab.async false

open Sys2Proof Sys2Proof.Machine

/-! ## Small states -/

/-- Reset with deck `d` changed. -/
def onDeck (d : DeckId) (f : Deck → Deck) (s : State := State.reset) : State := s.setDeck d (f (s.deck d))
/-- A state with the mark reader of deck `d` changed. -/
def onMark (d : DeckId) (f : Mark → Mark) (s : State := State.reset) : State := s.setMark d (f (s.mark d))
/-- A state with the pool's share of deck `d` changed. -/
def onPool (d : DeckId) (f : PoolDeck → PoolDeck) (s : State := State.reset) : State := s.setPool d (f (s.pool d))
/-- A state with the scheduler's share of deck `d` changed. -/
def onSched (d : DeckId) (f : Sched → Sched) (s : State := State.reset) : State := s.setSched d (f (s.sched d))
/-- A state with the sensors of deck `d` changed. -/
def onPins (d : DeckId) (f : DeckPins → DeckPins) (s : State := State.reset) : State := s.setSensors d (f (s.sensors d))
/-- A state with entry `k` changed. -/
def onEntry (k : Slot) (f : Entry → Entry) (s : State := State.reset) : State := s.setEntry k (f (s.entry k))
/-- A state with ticket `t` changed. -/
def onTicket (t : TicketNo) (f : Ticket → Ticket) (s : State := State.reset) : State := s.setTicket t (f (s.ticket t))
/-- A state with the request link port changed. -/
def onRlp (f : Rlp → Rlp) (s : State := State.reset) : State := { s with rlp := f s.rlp }
/-- A state with the head link port changed. -/
def onHlp (f : Hlp → Hlp) (s : State := State.reset) : State := { s with hlp := f s.hlp }
/-- A state with the arbiter changed. -/
def onOpa (f : Opa → Opa) (s : State := State.reset) : State := { s with opa := f s.opa }
/-- HOLD asserted. -/
def held (s : State := State.reset) : State := { s with pins := { s.pins with hold := true } }

/-- Deck A in a state, its film in a motion. -/
def deckIn (x : DeckState) (m : Motion := .still) (s : State := State.reset) : State :=
  onDeck .a (fun k => { k with state := x, motion := m }) s

/-- Entry 0 listed, tagged 5, 16 mm. -/
def listed (s : State := State.reset) : State :=
  onEntry 0 (fun e => { e with state := .listed, tag := some 5, width := some .mm16 }) s

/-- Entry 0 mounted at deck A, tagged 5. -/
def mounted (s : State := State.reset) : State :=
  onEntry 0 (fun e => { e with state := .mounted, deck := some .a, tag := some 5, width := some .mm16 }) s

/-- A record of entry 0. -/
def recordOf (n p : Nat) : FrameRecord :=
  ⟨0, n, p, .minor, 1, 1, n, .seen, false, 0, none, none, none, 0⟩

/-- Entry 0 with two records, at 100 and 200. -/
def twoRecords (s : State := State.reset) : State :=
  (onEntry 0 (fun e => { e with frameCount := 2, extent := 200 }) s).setChain 0 [recordOf 1 100, recordOf 2 200]

/-- A message being answered. -/
def answering : Processing := ⟨⟨1, [2], 0⟩, ⟨2, .ok, 0, []⟩⟩

/-- An exposure order of deck A. -/
def captureOrder : Order := ⟨9, ⟨.a, .capture, 2048, 0, 1, some 5⟩, true, some ⟨500, 0⟩⟩

/-- A sweep at deck A in a phase. -/
def sweepIn (p : SweepPhase) : Sweep := ⟨.a, 0, 1, some 5, false, false, 2048, 1, 0, p, []⟩

/-- Deck A's active ticket 0 of entry 0, in a state, at a step. -/
def working (x : TicketState) (step : Machine.Step) (s : State := State.reset) : State :=
  onSched .a (fun c => { c with active := some 0, step := some step })
    (onTicket 0 (fun t => { t with
      state := x, kind := some .fetch, slot := some 0, first := some 1, last := some 1, current := some 1 })
      { s with admission := [0] })

/-! ## Operand checks -/

/-- An item without a setpoint flag that carries a setpoint: no message carries it. -/
def hiddenSetpoint : Instr := .declareFrames 0 1 [⟨100, 0x00, 2100⟩]
/-- Items of 252 bytes: the body would have 257. -/
def tooLong : Instr := .declareFrames 0 1 (List.replicate 42 ⟨100, 0x80, 2100⟩)
/-- A sweep plan of eleven steps, and one of thirteen. -/
def shortPlan : Instr := .setSweepPlan ⟨List.replicate 11 ⟨1, 0⟩, 1, 1⟩
def longPlan : Instr := .setSweepPlan ⟨List.replicate 13 ⟨1, 0⟩, 1, 1⟩

/-- The meaning of the test: exec stops with the fault that names it. -/
def stops (c : Instr) : Bool :=
  match exec c State.reset with
  | .fault .noSuchMessage => true
  | _ => false

theorem test_wf_hiddenSetpoint : hiddenSetpoint.wf = false ∧ stops hiddenSetpoint = true := by decide +kernel
theorem test_wf_tooLong : tooLong.wf = false ∧ stops tooLong = true := by decide +kernel
theorem test_wf_shortPlan : shortPlan.wf = false ∧ stops shortPlan = true := by decide +kernel
theorem test_wf_longPlan : longPlan.wf = false ∧ stops longPlan = true := by decide +kernel
theorem test_wf_longestBody : (Instr.declareFrames 0 1 (List.replicate 41 ⟨100, 0x80, 2100⟩)).wf = true ∧
    (Instr.declareFrames 0 1 [⟨100, 0x00, 0⟩]).wf = true ∧
    (Instr.setSweepPlan ⟨List.replicate 12 ⟨1, 0⟩, 1, 1⟩).wf = true := by decide +kernel

/-! ## The wire -/

/-- The CRC of the characters 1 to 9 (R174). -/
theorem test_crc_check : crcOf [0x31, 0x32, 0x33, 0x34, 0x35, 0x36, 0x37, 0x38, 0x39] = 0x29B1 := by decide +kernel

/-- No row of the opcode table gives bits (log 1). -/
theorem test_decode_none : decodeTableWord 16 0x0402 = none ∧ State.reset.withFetchWord 16 0x0402 = State.reset := by
  decide +kernel

/-- The spec's example of a DECLARE FRAMES (10.7): slot 6, frames 1 to 3; two bytes more are BAD_LENGTH. -/
def declareExample : List Byte :=
  [0x11, 6, 0, 1, 3, 0x00, 0x01, 0x9A, 0x82, 0x08, 0x34, 0x00, 0x04, 0x7E, 0x00, 0x00, 0x07, 0x62, 0x00]

theorem test_declareExample :
    declareExample.length = 19 ∧
    parseBody declareExample =
      .ok (.declareFrames 6 1 3 [⟨410, 0x82, 2100⟩, ⟨1150, 0x00, 0⟩, ⟨1890, 0x00, 0⟩]) ∧
    parseBody (declareExample ++ [0, 0]) = .badLength := by decide +kernel

/-- The state after a command, where it takes a next one. -/
def after (c : Instr) (s : State) : Option State :=
  match exec c s with
  | .next t => some t
  | _ => none

/-- The states after a run of bytes on the request link. -/
def fed (bytes : List Byte) : Option State :=
  bytes.foldl (fun s b => s.bind (after (.requestByteReceived b))) (some State.reset)

/-- IDENTIFY byte by byte as it stands on the wire ends in its answer (10.1, R169, R177). -/
theorem test_identify_bytes :
    (fed ([0xD5, 1, 0x01] ++ bytes16 (bodyCrc [0x01]))).any (fun t => decide (t.rlp.processing.map (fun p : Processing =>
      (p.answer.echo, p.answer.result, p.answer.data)) =
        some (0x01, ResultCode.ok, [0x08, 0x40, 1, 16, 0x40, 0x00, 16, 12]))) = true := by decide +kernel

/-! ## Meanings on small states -/

/-- MOUNT on a seated deck without film in the gate: THREADING, forward, with power on (R8, R9). -/
theorem test_mount :
    (after (.mount 0) (onDeck .a (fun k => { k with state := .seated, kind := some .mm35 }))).any (fun t =>
      decide ((t.deck .a).state = .threading ∧ (t.deck .a).phase = some .advance ∧ t.power .a = true)) = true := by
  decide +kernel

/-- DECLARE ROLL takes the lowest-numbered FREE entry (R58). -/
theorem test_declareRoll :
    (after (.declareRoll 430085 1) listed).any (fun t =>
      decide ((t.entry 1).state = .listed ∧ (t.entry 1).tag = some 430085 ∧ (t.entry 1).width = some .mm35)) = true := by
  decide +kernel

/-- A FETCH for a listed roll waits for it, on ticket 0, and the answer carries AWAIT_ROLL (R130). -/
theorem test_fetch :
    (after (.fetch 0 2 1 0) (twoRecords listed)).any (fun t =>
      decide ((t.ticket 0).state = .awaitRoll ∧ t.admission = [0] ∧ (t.entry 0).ticketCount = 1 ∧
        t.rlp.processing.map (fun p : Processing => p.answer.data) = some [0, 1])) = true := by decide +kernel

/-- A FETCH ticket whose capture is in flight. -/
def exposing : State :=
  onOpa (fun o => { o with path := .atGate .a, holder := some .a, job := true, requests := ⟨true, false⟩, moveTimer := none })
    (onHlp (fun h => { h with order := some captureOrder })
      (working .exposing .capture (twoRecords (onEntry 0 (fun e => { e with ticketCount := 1 }) (mounted (deckIn .ready))))))

/-- A TAKEN report completes it, and the deck gives up the path (R162, R108). -/
theorem test_capture :
    (after (.headReport 9 1 0x00A31F07 (bodyCrc [9, 1, 0x00, 0xA3, 0x1F, 0x07])) exposing).any (fun t =>
      decide ((t.ticket 0).state = .done ∧ (t.ticket 0).lastId = some 0x00A31F07 ∧ t.opa.holder = none ∧
        t.hlp.order = none ∧ t.admission = [] ∧ t.finalWaiting = true)) = true := by decide +kernel

/-- An idle step lets a running time run, up to its limit (log 3). -/
theorem test_idle :
    (match step State.reset with
    | .next t => decide (t.opa.moveTimer = some ⟨4000, 1⟩)
    | _ => false) = true := by decide +kernel

/-! ## Answer data byte by byte, written out from chapter 10 -/

/-- STATUS (10.5): deck A READY and anchored at 305,292 with its lens IDLE at 2,176 and three marks classified; the path set at
gate A, held by deck A. -/
theorem test_status_bytes :
    statusData
      (onOpa (fun o => { o with path := .atGate .a, holder := some .a })
        (onMark .a (fun m => { m with classified := 3 })
          (onDeck .a (fun k => { k with state := .ready, counter := 305292, anchored := true })
            ({ State.reset with freeCount := 16382 }.setLens .a (.idle 2176))))) =
      [4, 0x84, 0xA8, 0x8C, 0x82, 0x08, 0x80, 0, 3, 0, 0, 0, 0] ++ List.replicate 13 0 ++
        [0, 1, 0x3F, 0xFE, 0, 0, 0, 0, 0, 0, 0, 0] := by decide +kernel

/-- READ ROLL (10.6): slot 2, MOUNTED at B, 35 mm, COMPLETE, tag 430,085, 900 frames. -/
theorem test_entry_bytes :
    entryData 2 ⟨.mounted, some .b, some 430085, some .mm35, 900, 666000, some 2176, 1, 2, 3, true, false, false, false⟩ =
      [2, 0x3E, 0x19, 0x06, 0x90, 0x05, 0x03, 0x84, 0x0A, 0x29, 0x90, 0x08, 0x80, 1, 0, 2, 0, 3] := by decide +kernel

/-- A frame record (10.7): section 1, group 2, index 3, MAJOR, VERIFIED, one miss, a SWEEP setpoint of 2,176. -/
theorem test_record_bytes :
    recordData ⟨2, 412, 305290, .major, 1, 2, 3, .verified, false, 1, some 2176, some .sweep, some 1655, 0x1234⟩ =
      [0x24, 0xA8, 0x8A, 0x00, 0x02, 0x00, 0x08, 0x00, 0x1C, 0x40, 0x33, 0x06, 0x77, 0x12, 0x34] := by decide +kernel

/-- A ticket (10.8): ticket 5, a FETCH of frame 412 of slot 2 at priority 1, DONE. -/
theorem test_ticket_bytes :
    ticketData 5 ⟨.done, some .fetch, 1, some 2, some 412, some 412, false, none, 1, 0, 0, some 0x00A31F07,
      some 0x00A31F07, false, false, some .completed, none⟩ =
      [5, 8, 0x3B, 0x10, 2, 0x01, 0x9C, 0x01, 0x9C, 0, 0, 0, 1, 0, 0, 0, 0, 0x00, 0xA3, 0x1F, 0x07, 0x00, 0xA3, 0x1F, 0x07,
        0, 0, 0] := by decide +kernel

/-- READ PARAMETERS after reset (10.10), and the default sweep plan (10.9). -/
theorem test_params_bytes :
    paramsData Params.default =
      [40, 0x01, 0x90, 12, 28, 60, 0, 180, 0x02, 0xF8, 4, 0, 180, 0x02, 0xF8, 4, 0, 250, 8, 1, 16, 0x04, 0xB0, 7] ∧
    planData Plan.default =
      [1, 0xFF, 0xA0, 1, 0xFF, 0xC0, 1, 0xFF, 0xE0, 1, 0, 0, 1, 0, 32, 1, 0, 64, 1, 0, 96] ++ List.replicate 15 0 ++ [1, 1] := by
  decide +kernel

/-! ## Witnesses: what the hypotheses of each statement ask is met, clause by clause -/

/-- EmptyQueueLetsTimePass. -/
theorem test_w_emptyQueue : State.reset.pending = [] := by decide +kernel

/-- WellformedCommandsComplete. -/
theorem test_w_wellformed : Instr.identify.wf = true ∧ shortPlan.wf = false := by decide +kernel

/-- The part held in reset. -/
def inReset : State := { State.reset with pins := { State.reset.pins with resetAsserted := true }, opa := Opa.reset }

/-- ResetReleasedStartsThePart: not held; held, with HOLD released and asserted, with the limit input of gate A open and made,
and with contacts that agree and disagree. -/
theorem test_w_resetReleased :
    running State.reset = true ∧
    (∀ p : Bool × Bool × Bool × Bool,
      let s : State := { onPins .b (fun q => { q with seat1 := p.1, seat2 := p.2.1 }) inReset with
        pins := ⟨true, true, p.2.2.1, ⟨p.2.2.2, false⟩⟩ }
      s.pins.resetAsserted = true ∧ s.decks = State.reset.decks ∧ s.hlp.order = none ∧
        s.opa = ⟨.moving .a, none, 0, ⟨false, false⟩, false, false, some .a, none, none⟩) := by decide +kernel

/-- RestartResetsAfterItsAnswer. -/
theorem test_w_restart :
    linkIdle State.reset = true ∧
    (let s := onRlp (fun r => { r with processing := some answering, restartTaken := true })
     running s = true ∧ s.rlp.processing = some answering ∧ s.rlp.restartTaken = true) := by decide +kernel

/-- A receiver of the request link in a state. -/
def receiving (r : Receiver) : State := onRlp (fun l => { l with receiver := r, gapTimer := some ⟨10, 0⟩ })

/-- RequestBytesReceived: each state of the receiver, with the last and the last but one body byte to come. -/
theorem test_w_requestBytes :
    running State.reset = true ∧ State.reset.rlp.receiver = .hunt ∧ (0xD4 : Byte) ≠ 0xD5 ∧
    running (receiving .length) = true ∧ (receiving .length).rlp.receiver = .length ∧ (1 : Byte) ≠ 0 ∧
    running (receiving (.body 2 2 [])) = true ∧ (receiving (.body 2 2 [])).rlp.receiver = .body 2 2 [] ∧
    running (receiving (.body 2 1 [3])) = true ∧ (receiving (.body 2 1 [3])).rlp.receiver = .body 2 1 [3] ∧
    running (receiving (.check 1 [3] none)) = true ∧ (receiving (.check 1 [3] none)).rlp.receiver = .check 1 [3] none ∧
    running (receiving (.check 1 [3] (some 9))) = true ∧
    (receiving (.check 1 [3] (some 9))).rlp.receiver = .check 1 [3] (some 9) := by decide +kernel

/-- OtherByteRowsAndGaps. -/
theorem test_w_otherBytes :
    running State.reset = true ∧ State.reset.rlp.receiver = .hunt ∧ running (receiving .length) = true ∧
    (receiving .length).rlp.receiver = .length ∧ (receiving .length).rlp.receiver ≠ .hunt := by decide +kernel

/-- A complete message of body `b` with its CRC. -/
def messageOf (b : List Byte) : Message := ⟨lengthByte b, b, bodyCrc b⟩

/-- The link port with its last CRC byte to come, a message processed or not, and one waiting or not. -/
def completing (p : Option Processing) (w : Option Message) : State :=
  onRlp (fun l => { l with processing := p, waiting := w }) (receiving (.check 1 [3] (some 9)))

/-- MessagesPlacedAndChecked: the three places of a message, the two ends of an answer, and the four checks. -/
theorem test_w_messages :
    (∀ x ∈ [(none, none), (some answering, none), (some answering, some (messageOf [2]))],
      running (completing x.1 x.2) = true ∧ (completing x.1 x.2).rlp.receiver = .check 1 [3] (some 9) ∧
      (completing x.1 x.2).rlp.processing = x.1 ∧ (completing x.1 x.2).rlp.waiting = x.2 ∧
      (completing x.1 x.2).rlp.restartTaken = false) ∧
    crcOf (1 :: [2]) ≠ (0 : Half) ∧
    crcOf ((messageOf [0x43]).length :: [0x43]) = (messageOf [0x43]).crc ∧ parseBody [0x43] = .unknown ∧
    parseBody [0x42, 0] = .badLength ∧ crcOf ((messageOf [0x42, 0]).length :: [0x42, 0]) = (messageOf [0x42, 0]).crc ∧
    parseBody [0x42] = .ok .readSweepResult ∧ crcOf ((messageOf [0x42]).length :: [0x42]) = (messageOf [0x42]).crc := by
  decide +kernel

/-- RequestBodiesReadBack: a body of a request and one of none; the longest DECLARE FRAMES. -/
theorem test_w_requestBodies :
    (Request.readSweepResult.body).length ≤ 255 ∧
    (Request.declareFrames 0 1 41 (List.replicate 41 ⟨100, 0x80, 2100⟩)).body.length = 251 ∧
    (Request.declareFrames 0 1 62 (List.replicate 62 ⟨100, 0, 0⟩)).body.length = 253 ∧
    (Request.declareFrames 0 1 62 (List.replicate 62 ⟨100, 0, 0⟩)).wf = true := by decide +kernel

/-- IdentifyAnswered, LinkReadsAndEventsAnswered: the slot and ticket numbers at their bounds. -/
theorem test_w_linkReads :
    linkIdle State.reset = true ∧ (0 : Byte).toNat = (0 : Slot).val ∧ (15 : Byte).toNat = (15 : Slot).val ∧
    (15 : Byte).toNat = (15 : TicketNo).val ∧ 16 ≤ (16 : Byte).toNat := by decide +kernel

/-- RecordReadsAnswered: the counts 1 and 16, the first and the last frame; two records, of
which one holds the index 2 and none the index 3. -/
theorem test_w_recordReads :
    let s := twoRecords listed
    linkIdle s = true ∧ (0 : Byte).toNat = (0 : Slot).val ∧ (s.entry 0).state ≠ .free ∧
    (1 ≤ (1 : Byte).toNat ∧ 1 ≤ (1 : Half).toNat ∧ (1 : Half).toNat ≤ (s.entry 0).frameCount) ∧
    ((16 : Byte).toNat ≤ 16 ∧ (2 : Half).toNat ≤ (s.entry 0).frameCount) ∧ (16384 : Half).toNat ≤ 16384 ∧
    s.chain 0 = [recordOf 1 100, recordOf 2 200] ∧ (recordOf 2 200).indexNo = 2 ∧ (recordOf 1 100).indexNo = 1 := by
  decide +kernel

/-- A parameter block as its defaults, and one out of range by one. -/
def wireParams : ParamWire :=
  ⟨40, 400, 12, 28, 60, 180, 760, 4, 180, 760, 4, 250, 8, 1, 16, 1200, 7⟩

/-- A sweep plan of twelve steps, the first enabled or not. -/
def wirePlan (f : Byte) : PlanWire := ⟨⟨f, 511⟩ :: ⟨0, 0xFE00⟩ :: List.replicate 10 ⟨0, 0⟩, 1, 7⟩

/-- ParametersAndSweepPlanTaken: blocks at bounds of their ranges and one past; a change of the thresholds with and without
power; plans at their bounds, with no enabled step, and while a sweep is in progress. -/
theorem test_w_parameters :
    linkIdle State.reset = true ∧ linkIdle (deckIn .ready) = true ∧
    (¬ 8 ≤ ({ wireParams with window := 7 } : ParamWire).window.toNat) ∧
    (let b := { wireParams with window := 8, m3 := 250, headTimeout := 1000, tenureLimit := 32, limitA := 15, highB := 1023 }
     8 ≤ b.window.toNat ∧ 64 ≤ b.span.toNat ∧ b.span.toNat ≤ 4095 ∧ 3 ≤ b.m1.toNat ∧ b.m1.toNat < b.m2.toNat ∧
     b.m2.toNat < b.m3.toNat ∧ b.m3.toNat ≤ 250 ∧ b.lowA.toNat ≤ 1022 ∧ b.lowA.toNat < b.highA.toNat ∧
     b.highA.toNat ≤ 1023 ∧ 1 ≤ b.limitA.toNat ∧ b.limitA.toNat ≤ 15 ∧ b.lowB.toNat ≤ 1022 ∧
     b.lowB.toNat < b.highB.toNat ∧ b.highB.toNat ≤ 1023 ∧ 1 ≤ b.limitB.toNat ∧ b.limitB.toNat ≤ 15 ∧
     5 ≤ b.headTimeout.toNat ∧ b.headTimeout.toNat ≤ 1000 ∧ 1 ≤ b.tenureLimit.toNat ∧ b.tenureLimit.toNat ≤ 32 ∧
     b.policy.toNat ≤ 2 ∧ 1 ≤ b.trackInterval.toNat ∧ b.trackInterval.toNat ≤ 64 ∧
     b.window.toNat ≠ (deckIn .ready).params.window) ∧
    (deckIn .ready).power .a = true ∧ State.reset.power .a = false ∧ State.reset.power .b = false ∧
    (wirePlan 1).steps.length = 12 ∧ (wirePlan 0).steps.length = 12 ∧
    (∀ w ∈ (wirePlan 1).steps, -512 ≤ w.offset.toInt ∧ w.offset.toInt ≤ 511) ∧ (wirePlan 1).pause.toNat ≤ 7 ∧
    (∃ w ∈ (wirePlan 1).steps, w.flags.getLsbD 0 = true) ∧ (¬ ∃ w ∈ (wirePlan 0).steps, w.flags.getLsbD 0 = true) ∧
    State.reset.fseq.sweep = none ∧
    (let s : State := { State.reset with fseq := { State.reset.fseq with sweep := some (sweepIn .lens) } }
     linkIdle s = true ∧ s.fseq.sweep.isSome = true) := by decide +kernel

/-- RefusedRequestsChangeNothing: a refusal by each of the four owners of requests. -/
theorem test_w_refusals :
    ∀ r ∈ [Request.readRoll 16, .mount 2, .cancel 16, .setSweepPlan (wirePlan 0), .setParameters { wireParams with window := 7 }],
      (carryOut r State.reset).result ≠ .ok := by decide +kernel

/-- RecordAndDeckCodeRefusals: slot 16, a FREE entry, frames 0 and one past the last, deck code 2, setpoint 4,095. -/
theorem test_w_recordRefusals :
    let s := twoRecords listed
    linkIdle State.reset = true ∧ linkIdle s = true ∧ (4095 : Half).toNat ≤ 4095 ∧ 16 ≤ (16 : Byte).toNat ∧
    (15 : Byte).toNat = (15 : Slot).val ∧ (s.entry 15).state = .free ∧ (0 : Byte).toNat = (0 : Slot).val ∧
    (s.entry 0).state ≠ .free ∧ (0 : Half).toNat = 0 ∧ (s.entry 0).frameCount < (3 : Half).toNat ∧ 2 ≤ (2 : Byte).toNat := by
  decide +kernel

/-- RecordWritesTaken: the last frame, flags set and clear, setpoint 4,095; a live ticket whose range takes the frame in, and
none. -/
theorem test_w_recordWrites :
    let s := twoRecords listed
    let h := onTicket 3 (fun t => { t with
      state := .awaitRoll, kind := some .fetch, slot := some 0, first := some 2, last := some 2 }) s
    linkIdle s = true ∧ linkIdle h = true ∧ (0 : Byte).toNat = (0 : Slot).val ∧ (s.entry 0).state ≠ .free ∧
    (h.entry 0).state ≠ .free ∧ 1 ≤ (2 : Half).toNat ∧ (2 : Half).toNat ≤ (s.entry 0).frameCount ∧
    (2 : Half).toNat ≤ (h.entry 0).frameCount ∧ (1 : Byte).getLsbD 0 = true ∧ (0 : Byte).getLsbD 0 = false ∧
    (4095 : Half).toNat ≤ 4095 ∧
    ((h.ticket 3).state.isLive = true ∧ (h.ticket 3).slot = some 0 ∧ (h.ticket 3).kind ≠ some .index ∧
      (h.ticket 3).first.getD 0 ≤ 2 ∧ 2 ≤ (h.ticket 3).last.getD 0) ∧
    (∀ t, ¬ (s.ticket t).state.isLive = true) := by decide +kernel

/-- Every entry listed with its own tag. -/
def allListed : State :=
  { State.reset with entries := .ofFn fun k => { Entry.free with state := .listed, tag := some k.val, width := some .mm16 } }

/-- Entry 0 mounted at deck A without a tag. -/
def transient (s : State := State.reset) : State :=
  onEntry 0 (fun e => { e with state := .mounted, deck := some .a, width := some .mm16 }) s

/-- DeclareAndNameRollTaken: the tags 1,048,575 and 1,048,576, a tag that is held, the catalogue full, its lowest FREE entry;
an entry that is transient and one that is not. -/
theorem test_w_declareAndName :
    linkIdle listed = true ∧ linkIdle allListed = true ∧ linkIdle (transient listed) = true ∧
    ¬ (1048576 : BitVec 24).toNat ≤ 1048575 ∧ ¬ (2 : Byte).toNat ≤ 1 ∧
    ((1048575 : BitVec 24).toNat ≤ 1048575 ∧ (1 : Byte).toNat ≤ 1) ∧
    (∃ n, (listed.entry n).tag = some (5 : BitVec 24).toNat) ∧
    (¬ ∃ n, (allListed.entry n).tag = some (1048575 : BitVec 24).toNat) ∧ (∀ n, (allListed.entry n).state ≠ .free) ∧
    (¬ ∃ n, (listed.entry n).tag = some (1048575 : BitVec 24).toNat) ∧ lowestFreeEntry listed 1 = true ∧
    16 ≤ (16 : Byte).toNat ∧ (0 : Byte).toNat = (0 : Slot).val ∧
    ¬ ((listed.entry 0).state = .mounted ∧ (listed.entry 0).tag = none) ∧
    (let s := onEntry 1 (fun e => { e with state := .listed, tag := some 5 }) (transient)
     linkIdle s = true ∧ (s.entry 0).state = .mounted ∧ (s.entry 0).tag = none ∧
     (∃ n, (s.entry n).tag = some (5 : BitVec 24).toNat) ∧
     ¬ ∃ n, (s.entry n).tag = some (1048575 : BitVec 24).toNat) := by decide +kernel

/-- RetireRollTaken: slot 16; an entry FREE, mounted, listed with a ticket, listed without. -/
theorem test_w_retireRoll :
    let s := onEntry 0 (fun e => { e with ticketCount := 1 }) listed
    16 ≤ (16 : Byte).toNat ∧ (0 : Byte).toNat = (0 : Slot).val ∧
    linkIdle State.reset = true ∧ (State.reset.entry 0).state = .free ∧
    linkIdle mounted = true ∧ (mounted.entry 0).state = .mounted ∧
    linkIdle s = true ∧ (s.entry 0).state = .listed ∧ 0 < (s.entry 0).ticketCount ∧
    linkIdle (twoRecords listed) = true ∧ ((twoRecords listed).entry 0).state = .listed ∧
    ((twoRecords listed).entry 0).ticketCount = 0 := by decide +kernel

/-- Deck A ready with a 16 mm film and no entry; entry 1 listed. -/
def bindable : State :=
  onEntry 1 (fun e => { e with state := .listed, tag := some 5, width := some .mm16 })
    (onDeck .a (fun k => { k with kind := some .mm16 }) (deckIn .ready))

/-- BindDeckTaken: each refusal in turn, and a deck without an entry. -/
theorem test_w_bindDeck :
    let busy := onSched .a (fun c => { c with active := some 0 }) bindable
    let tagged := mounted bindable
    let freed := onEntry 1 (fun _ => Entry.free) bindable
    let elsewhere := onEntry 1 (fun e => { e with state := .mounted, deck := some .b }) bindable
    let wide := onEntry 1 (fun e => { e with width := some .mm35 }) bindable
    (1 : Byte).toNat = (1 : Slot).val ∧
    (linkIdle listed = true ∧ ¬ (listed.deck .a).state = .ready) ∧
    (linkIdle busy = true ∧ (busy.deck .a).state = .ready ∧ ¬ (busy.sched .a).active = none) ∧
    (linkIdle tagged = true ∧ (tagged.deck .a).state = .ready ∧ (tagged.sched .a).active = none ∧
      tagged.entryOf .a = some 0 ∧ ¬ (tagged.entry 0).tag = none) ∧
    (linkIdle freed = true ∧ (freed.deck .a).state = .ready ∧ (freed.sched .a).active = none ∧
      freed.entryOf .a = none ∧ (freed.entry 1).state = .free) ∧
    (linkIdle elsewhere = true ∧ (elsewhere.deck .a).state = .ready ∧ (elsewhere.sched .a).active = none ∧
      elsewhere.entryOf .a = none ∧ (elsewhere.entry 1).state ≠ .free ∧ ¬ (elsewhere.entry 1).state = .listed) ∧
    (linkIdle wide = true ∧ (wide.deck .a).state = .ready ∧ (wide.sched .a).active = none ∧ wide.entryOf .a = none ∧
      (wide.entry 1).state = .listed ∧ (wide.entry 1).releasePending = false ∧ (wide.entry 1).width ≠ some .mm16) ∧
    (linkIdle bindable = true ∧ (bindable.deck .a).state = .ready ∧ (bindable.sched .a).active = none ∧
      bindable.entryOf .a = none ∧ (bindable.entry 1).state = .listed ∧ (bindable.entry 1).releasePending = false ∧
      (bindable.entry 1).width = some .mm16) := by decide +kernel

/-- Two items of a DECLARE FRAMES behind the records of `twoRecords`. -/
def twoItems : List DeclItem := [⟨201, 0, 0⟩, ⟨2097151, 0x82, 4095⟩]

/-- DeclareFramesAppends: no item, seventeen, an item out of range; and with good items each refusal in turn, then none. -/
theorem test_w_declareFrames :
    let s := twoRecords listed
    let xs : List Item := [⟨201, .minor, none⟩, ⟨2097151, .sectionMark, some 4095⟩]
    linkIdle s = true ∧ (0 : Byte).toNat = (0 : Slot).val ∧
    (∀ l ∈ [[], List.replicate 17 ⟨201, 0, 0⟩, [⟨2097152, 0, 0⟩], [⟨201, 3, 0⟩], twoItems],
      (Instr.declareFrames 0 3 l).wf = true) ∧
    itemsOf [⟨2097152, 0, 0⟩] = none ∧ itemsOf [⟨201, 3, 0⟩] = none ∧ itemsOf twoItems = some xs ∧
    1 ≤ twoItems.length ∧ twoItems.length ≤ 16 ∧
    (linkIdle (twoRecords mounted) = true ∧ ¬ ((twoRecords mounted).entry 0).state = .listed) ∧
    ((s.entry 0).state = .listed ∧ (s.entry 0).releasePending = false ∧ (4 : Half).toNat ≠ (s.entry 0).frameCount + 1) ∧
    (3 : Half).toNat = (s.entry 0).frameCount + 1 ∧
    List.Pairwise (· < ·) ((s.lastPosition 0).toList ++ xs.map (·.pos)) ∧
    ¬ List.Pairwise (· < ·) ((s.lastPosition 0).toList ++ [200]) ∧ itemsOf [⟨200, 0, 0⟩] = some [⟨200, .minor, none⟩] ∧
    (let few : State := { s with freeCount := 1 }
     linkIdle few = true ∧ few.freeCount < twoItems.length ∧ (few.entry 0).state = .listed) ∧
    twoItems.length ≤ s.freeCount := by decide +kernel

/-- Deck A seated with a 16 mm film. -/
def seated (s : State := State.reset) : State := onDeck .a (fun k => { k with state := .seated, kind := some .mm16 }) s

/-- MountTaken: each refusal in turn, then with HOLD, with film in the gate, without, and with a drive fault. -/
theorem test_w_mount :
    let ordered := onHlp (fun h => { h with order := some captureOrder }) seated
    let odd := onDeck .a (fun k => { k with state := .seated, kind := some .unsupported })
    let film := onPins .a (fun p => { p with filmInGate := true }) seated
    let faulty := onPins .a (fun p => { p with driveFault := true }) seated
    (linkIdle State.reset = true ∧ (State.reset.deck .a).state ≠ .seated) ∧
    (linkIdle odd = true ∧ (odd.deck .a).state = .seated ∧ (odd.deck .a).kind = some .unsupported) ∧
    (linkIdle ordered = true ∧ (ordered.deck .a).state = .seated ∧ (ordered.deck .a).kind ≠ some .unsupported ∧
      ordered.orderFor .a = true) ∧
    (∀ s ∈ [seated, held seated, film, faulty],
      linkIdle s = true ∧ (s.deck .a).state = .seated ∧ (s.deck .a).kind ≠ some .unsupported ∧ s.orderFor .a = false) ∧
    ((held seated).pins.hold = true ∧ (held seated).opa.path.selected = .a ∧
      ((held seated).sensors .a).driveFault = false) ∧
    ((film.sensors .a).driveFault = false ∧ film.pins.hold = false ∧ (film.sensors .a).filmInGate = true) ∧
    ((seated.sensors .a).driveFault = false ∧ seated.pins.hold = false ∧ (seated.sensors .a).filmInGate = false) ∧
    ((faulty.sensors .a).driveFault = true ∧ deckUnused faulty .a = true) := by decide +kernel

/-- UnmountAndClearDeckTaken: each refusal in turn, then each way on. -/
theorem test_w_unmountAndClear :
    let busy := onSched .a (fun c => { c with active := some 0 }) (deckIn .ready)
    let film (s : State) := onPins .a (fun p => { p with filmInGate := true }) s
    let faulty (s : State) := onPins .a (fun p => { p with driveFault := true }) s
    let ordered := onHlp (fun h => { h with order := some captureOrder }) (deckIn .halted)
    (linkIdle busy = true ∧ ¬ (busy.sched .a).active = none) ∧
    (linkIdle State.reset = true ∧ (State.reset.sched .a).active = none ∧ (State.reset.deck .a).state ≠ .ready) ∧
    (∀ s ∈ [held (deckIn .ready), film (deckIn .ready), mounted (deckIn .ready)],
      linkIdle s = true ∧ (s.sched .a).active = none ∧ (s.deck .a).state = .ready) ∧
    ((held (deckIn .ready)).pins.hold = true ∧ (held (deckIn .ready)).opa.path.selected = .a) ∧
    ((film (deckIn .ready)).pins.hold = false ∧ ((film (deckIn .ready)).sensors .a).filmInGate = true) ∧
    (let s := mounted (deckIn .ready)
     s.pins.hold = false ∧ (s.sensors .a).filmInGate = false ∧ deckUnused s .a = true ∧ entryTagged s .a = true) ∧
    (State.reset.deck .a).state ≠ .halted ∧
    (linkIdle ordered = true ∧ (ordered.deck .a).state = .halted ∧ ordered.orderFor .a = true) ∧
    (∀ s ∈ [held (film (deckIn .halted)), film (deckIn .halted), faulty (film (deckIn .halted)), mounted (deckIn .halted)],
      linkIdle s = true ∧ (s.deck .a).state = .halted ∧ s.orderFor .a = false) ∧
    (let s := held (film (deckIn .halted))
     (s.sensors .a).filmInGate = true ∧ (s.sensors .a).driveFault = false ∧ s.pins.hold = true ∧
       s.opa.path.selected = .a) ∧
    (let s := film (deckIn .halted)
     (s.sensors .a).filmInGate = true ∧ (s.sensors .a).driveFault = false ∧ s.pins.hold = false) ∧
    (let s := faulty (film (deckIn .halted))
     (s.sensors .a).filmInGate = true ∧ (s.sensors .a).driveFault = true ∧ deckUnused s .a = true) ∧
    (let s := mounted (deckIn .halted)
     (s.sensors .a).filmInGate = false ∧ deckUnused s .a = true ∧ entryTagged s .a = true) := by decide +kernel

/-- AdmissionsTaken: a listed and a mounted roll, ticket 1 the lowest-numbered FREE one; the first and last known frames, the
frame beyond the last and frame 16,384 with EXTEND; a target of 1, of 16,384, and none. -/
theorem test_w_admissions :
    let used := onTicket 0 (fun t => { t with state := .done })
    (∀ s ∈ [twoRecords (listed used), twoRecords (mounted used)],
      linkIdle s = true ∧ lowestFreeTicket s 1 = true ∧ (s.entry 0).state ≠ .free ∧ (s.entry 0).releasePending = false ∧
      (s.entry 0).complete = false ∧ (s.entry 0).frameCount = 2 ∧ (∀ r, s.record 0 1 = some r → r.withdrawn = false) ∧
      (∀ r, s.record 0 2 = some r → r.withdrawn = false) ∧ s.record 0 3 = none ∧ s.record 0 16384 = none) ∧
    (0 : Byte).toNat = (0 : Slot).val ∧ (3 : Byte).toNat ≤ 3 ∧ (1 : Byte).getLsbD 0 = true ∧ (0 : Byte).getLsbD 0 = false ∧
    (1 ≤ (1 : Half).toNat ∧ (2 : Half).toNat ≤ 2) ∧ (2 < (3 : Half).toNat ∧ (16384 : Half).toNat ≤ 16384) ∧
    (1 : Half).toNat ≤ (2 : Half).toNat ∧ (2 : Byte).getLsbD 1 = true ∧ (0 : Byte).getLsbD 1 = false ∧
    (schedIdle (twoRecords (listed used)) = true ∧ ((twoRecords (listed used)).entry 0).state = .listed ∧
      ((twoRecords (listed used)).entry 0).deck = none) := by
  refine ⟨?_, by decide +kernel⟩
  intro s h
  rcases List.mem_cons.mp h with rfl | h
  · exact ⟨by decide +kernel, by decide +kernel, by decide +kernel, by decide +kernel, by decide +kernel,
      by decide +kernel, fun r h => by cases h; rfl, fun r h => by cases h; rfl, by decide +kernel, by decide +kernel⟩
  · rcases List.mem_cons.mp h with rfl | h
    · exact ⟨by decide +kernel, by decide +kernel, by decide +kernel, by decide +kernel, by decide +kernel,
        by decide +kernel, fun r h => by cases h; rfl, fun r h => by cases h; rfl, by decide +kernel, by decide +kernel⟩
    · cases h

/-- AdmissionsRefused: the bounds of each field, then each refusal of R129 in turn. -/
theorem test_w_admissionsRefused :
    let full : State := { twoRecords listed with tickets := .ofFn fun _ => { Ticket.free with state := .done } }
    let s := twoRecords listed
    let gone := s.setRecord 0 1 fun r => { r with withdrawn := true }
    linkIdle s = true ∧ 16 ≤ (16 : Byte).toNat ∧ 4 ≤ (4 : Byte).toNat ∧ ¬ 1 ≤ (0 : Half).toNat ∧
    ¬ (16385 : Half).toNat ≤ 16384 ∧ (2 : Byte).getLsbD 1 = true ∧ (1 : Byte).getLsbD 0 = true ∧
    (0 : Byte).toNat = (0 : Slot).val ∧ (3 : Byte).toNat ≤ 3 ∧ (1 ≤ (1 : Half).toNat ∧ (16384 : Half).toNat ≤ 16384) ∧
    (0 : Byte).getLsbD 0 = false ∧
    (linkIdle full = true ∧ ¬ ∃ t, (full.ticket t).state = .free) ∧
    (linkIdle State.reset = true ∧ (∃ t, (State.reset.ticket t).state = .free) ∧
      ¬ (State.reset.entry 0).state ≠ .free) ∧
    ((∃ t, (s.ticket t).state = .free) ∧ (s.entry 0).state ≠ .free ∧ (s.entry 0).releasePending = false ∧
      (s.entry 0).frameCount < (3 : Half).toNat) ∧
    (linkIdle gone = true ∧ (∃ t, (gone.ticket t).state = .free) ∧ (gone.entry 0).state ≠ .free ∧
      (gone.entry 0).releasePending = false ∧ (1 : Half).toNat ≤ (gone.entry 0).frameCount ∧
      (2 : Half).toNat ≤ (gone.entry 0).frameCount ∧ (gone.record 0 1).map (·.withdrawn) = some true) ∧
    ((2 : Half).toNat ≤ (s.entry 0).frameCount ∧ (s.record 0 1).map (·.withdrawn) = some false ∧
      (s.record 0 2).map (·.withdrawn) = some false ∧ (1 : Half).toNat < (2 : Half).toNat) ∧
    (let c := onEntry 0 (fun e => { e with complete := true }) s
     linkIdle c = true ∧ (c.entry 0).state ≠ .free ∧ (c.entry 0).releasePending = false ∧ (c.entry 0).complete = true) := by
  decide +kernel

/-- CancelTaken: ticket 16, a ticket FREE, waiting for its roll, QUEUED, with cancel pending, and in its capture. -/
theorem test_w_cancel :
    let waits (x : TicketState) : State := onTicket 0 (fun t => { t with
      state := x, kind := some .fetch, slot := some 0, first := some 1, last := some 1, current := some 1 })
      { twoRecords listed with admission := [0] }
    let again := onTicket 0 (fun t => { t with state := .exposing, cancelPending := true })
    16 ≤ (16 : Byte).toNat ∧ (0 : Byte).toNat = (0 : TicketNo).val ∧
    (linkIdle State.reset = true ∧ (State.reset.ticket 0).state.isLive = false) ∧
    (linkIdle (waits .awaitRoll) = true ∧ ((waits .awaitRoll).ticket 0).state = .awaitRoll ∧
      schedIdle (waits .awaitRoll) = true) ∧
    (linkIdle (waits .queued) = true ∧ ((waits .queued).ticket 0).state = .queued) ∧
    (linkIdle again = true ∧ (again.ticket 0).state.isLive = true ∧ (again.ticket 0).state ≠ .awaitRoll ∧
      (again.ticket 0).state ≠ .queued ∧ (again.ticket 0).cancelPending = true ∧ again.settle = again) ∧
    (linkIdle exposing = true ∧ (exposing.ticket 0).state = .exposing ∧ (exposing.ticket 0).cancelPending = false ∧
      exposing.activeAt 0 = some .a ∧ (exposing.sched .a).held = none ∧ (exposing.sched .a).step = some .capture) := by
  decide +kernel

/-- CollectFreesTicket: ticket 16, a FREE ticket, and a final one alone. -/
theorem test_w_collect :
    let s := onTicket 15 (fun t => { t with state := .cancelled, outcome := some .cancelled })
    16 ≤ (16 : Byte).toNat ∧ (15 : Byte).toNat = (15 : TicketNo).val ∧ linkIdle s = true ∧
    (s.ticket 15).state = .cancelled ∧ (∀ n, n ≠ 15 → (s.ticket n).state.isFinal = false) ∧
    linkIdle State.reset = true ∧ (State.reset.ticket 15).state = .free := by decide +kernel

/-- FinalTransitionAndDeckFailure: a ticket FREE; live and waiting, active, and alone at an entry that is release pending; and a
deck with an active ticket, an order in flight or not, a cancel pending or not, a failure held or not. -/
theorem test_w_finalTransition :
    let waits : State := onTicket 0 (fun t => { t with state := .queued, slot := some 0 }) (transient)
    let last : State := onEntry 0 (fun e => { e with
      state := .listed, deck := none, releasePending := true, ticketCount := 1 }) waits
    let works := working .moving .shuttle
    let pend (s : State) : State := onTicket 0 (fun t => { t with cancelPending := true }) s
    let holds (s : State) : State := onSched .a (fun c => { c with held := some .halted }) s
    (State.reset.ticket 0).state.isLive = false ∧
    ((waits.ticket 0).state.isLive = true ∧ (waits.ticket 0).slot = some 0 ∧ (waits.entry 0).releasePending = false ∧
      waits.activeAt 0 = none) ∧
    ((exposing.ticket 0).state.isLive = true ∧ (exposing.ticket 0).slot = some 0 ∧
      (exposing.entry 0).releasePending = false ∧ exposing.activeAt 0 = some .a) ∧
    ((last.ticket 0).state.isLive = true ∧ (last.ticket 0).slot = some 0 ∧ (last.entry 0).releasePending = true ∧
      (last.entry 0).ticketCount = 1 ∧ last.activeAt 0 = none) ∧
    ((works.sched .a).active = some 0 ∧ works.orderFor .a = false ∧ (works.ticket 0).cancelPending = false) ∧
    (((pend works).sched .a).active = some 0 ∧ (pend works).orderFor .a = false ∧
      ((pend works).ticket 0).cancelPending = true) ∧
    ((exposing.sched .a).active = some 0 ∧ exposing.orderFor .a = true ∧ (exposing.ticket 0).cancelPending = false ∧
      (exposing.sched .a).held = none) ∧
    (((pend exposing).sched .a).active = some 0 ∧ (pend exposing).orderFor .a = true ∧
      ((pend exposing).ticket 0).cancelPending = true) ∧
    (((holds exposing).sched .a).active = some 0 ∧ (holds exposing).orderFor .a = true ∧
      ((holds exposing).sched .a).held ≠ none) := by decide +kernel

/-- ChoiceByPriorityAndOrder: three QUEUED tickets, the two later ones of equal, higher priority; the nearer the head is chosen. -/
theorem test_w_choice :
    let waits (t : TicketNo) (p : Nat) (s : State) : State :=
      onTicket t (fun x => { x with state := .queued, slot := some 0, priority := p }) s
    let s : State := { waits 2 1 (waits 7 3 (waits 4 3 (mounted))) with admission := [2, 7, 4] }
    s.choose 0 = some 7 ∧ State.reset.choose 0 = none := by decide +kernel

/-- CartridgeDetected: each contact opening and closing, the seating time and the disagreement time running. -/
theorem test_w_cartridge :
    let one := onPins .a (fun p => { p with seat1 := true })
    let both := onPins .a (fun p => { p with seat1 := true, seat2 := true })
    let timed := onDeck .a (fun k => { k with seating := some ⟨100, 0⟩, disagreement := some ⟨1000, 0⟩ })
    (∀ s ∈ [State.reset, one, both, timed], running s = true ∧ (s.deck .a).state = .empty) ∧
    (State.reset.sensors .a).seat1 ≠ true ∧ (both.sensors .a).seat1 ≠ false ∧ (one.sensors .a).seat2 ≠ true ∧
    (both.sensors .a).seat2 ≠ false ∧ (timed.deck .a).seating.isSome = true ∧ (timed.deck .a).disagreement.isSome = true := by
  decide +kernel

/-- Both seat contacts of deck A closed. -/
def closed (s : State) : State := onPins .a (fun p => { p with seat1 := true, seat2 := true }) s

/-- RemovalFromSeated: either contact. -/
theorem test_w_removalSeated :
    running (closed (seated)) = true ∧ ((closed (seated)).deck .a).state = .seated ∧
    ((closed (seated)).sensors .a).contact .seat1 = true ∧ ((closed (seated)).sensors .a).contact .seat2 = true := by
  decide +kernel

/-- RemovalWhileThreaded: a deck ready without an entry and with a tagged one. -/
theorem test_w_removalThreaded :
    (∀ s ∈ [closed (deckIn .ready), closed (mounted (deckIn .ready))],
      running s = true ∧ (s.deck .a).state ≠ .empty ∧ (s.deck .a).state ≠ .seated ∧
      (s.sensors .a).contact .seat1 = true ∧ (s.sensors .a).contact .seat2 = true ∧ deckUnused s .a = true ∧
      entryTagged s .a = true) ∧
    (closed (deckIn .ready)).entryOf .a = none ∧ (closed (mounted (deckIn .ready))).entryOf .a = some 0 := by decide +kernel

/-- EncoderCountsTaken: a deck empty, without power, powered; at both ends of the counter; one count short of the leader
limit's; with an entry, and the film past its extent in a run. -/
theorem test_w_encoder :
    let low := deckIn .shuttling .moving
    let high := onDeck .a (fun k => { k with counter := 2097151 }) low
    let seek := onDeck .a (fun k => { k with phase := some .advance, leaderTravel := 59998 }) (deckIn .threading .moving)
    let runs := onDeck .a (fun k => { k with counter := 201 }) (twoRecords (mounted (deckIn .indexing .moving)))
    running State.reset = true ∧ State.reset.entryOf .a = none ∧ (State.reset.deck .a).state = .empty ∧
    (running (deckIn .halted) = true ∧ ((deckIn .halted).deck .a).state ≠ .empty ∧ (deckIn .halted).power .a = false ∧
      (deckIn .halted).entryOf .a = none) ∧
    (∀ s ∈ [low, high], running s = true ∧ s.entryOf .a = none ∧ s.power .a = true ∧ (s.deck .a).state = .shuttling) ∧
    ((low.deck .a).counter = 0 ∧ (high.deck .a).counter = 2097151) ∧
    (running seek = true ∧ seek.entryOf .a = none ∧ seek.power .a = true ∧
      ¬ 60000 ≤ min 60000 ((seek.deck .a).leaderTravel + 1)) ∧
    (∀ s ∈ [runs, twoRecords (mounted (deckIn .ready))],
      running s = true ∧ s.entryOf .a = some 0 ∧ (s.mark .a).inProgress = none ∧ (s.deck .a).state.matching = true ∧
      (s.deck .a).counter < 2097151) ∧
    ((runs.deck .a).state = .indexing ∧ (runs.deck .a).motion ≠ .deferred ∧ (runs.pool .a).exhausted = false ∧
      (runs.entry 0).extent < (runs.deck .a).counter) := by decide +kernel

/-- EventsHaltDeck: readings just outside the band with the excursion counter one short of its limit; shuttling and searching
with the film end sensor showing film; both states that seek the leader. -/
theorem test_w_halts :
    let trip := onDeck .a (fun k => { k with excursion := 3 }) (deckIn .ready)
    let seek := onDeck .a (fun k => { k with phase := some .advance }) (deckIn .threading .moving)
    (∀ s ∈ [trip, deckIn .shuttling .moving, deckIn .searching .moving, seek, deckIn .identifying .moving],
      running s = true ∧ s.power .a = true ∧ deckUnused s .a = true) ∧
    (let b := trip.params.bands.get .a
     (179 : BitVec 10).toNat < b.low ∧ b.high < (761 : BitVec 10).toNat ∧
       b.limit ≤ min 15 ((trip.deck .a).excursion + 1)) ∧
    (((deckIn .shuttling .moving).deck .a).state = .shuttling ∧ ((deckIn .shuttling .moving).sensors .a).filmEnd = false) ∧
    (((deckIn .searching .moving).deck .a).state = .searching ∧ ((deckIn .searching .moving).sensors .a).filmEnd = false) ∧
    ((seek.deck .a).state = .threading ∧ (seek.deck .a).phase = some .advance ∧ (seek.deck .a).motion = .moving) ∧
    (((deckIn .identifying .moving).deck .a).state = .identifying ∧ ((deckIn .identifying .moving).deck .a).reading = none) := by
  decide +kernel

/-- TensionReadingsCounted: a deck without power; readings at the bounds of the band; one outside it short of the limit. -/
theorem test_w_tension :
    running State.reset = true ∧ State.reset.power .a = false ∧ running (deckIn .ready) = true ∧
    (deckIn .ready).power .a = true ∧
    (let b := (deckIn .ready).params.bands.get .a
     b.low ≤ (180 : BitVec 10).toNat ∧ (760 : BitVec 10).toNat ≤ b.high ∧ ¬ b.low ≤ (179 : BitVec 10).toNat ∧
       min 15 (((deckIn .ready).deck .a).excursion + 1) < b.limit) := by decide +kernel

/-- FilmSensorsTaken: the end shown already; a state that ignores it; a run in motion and one deferred, with and without an
entry. -/
theorem test_w_filmSensors :
    ((onPins .a (fun p => { p with filmEnd := true })).sensors .a).filmEnd = true ∧
    (∀ s ∈ [State.reset, deckIn .indexing .moving, mounted (deckIn .indexing .moving), deckIn .indexing .deferred,
      mounted (deckIn .indexing .deferred)], (s.sensors .a).filmEnd = false ∧ running s = true) ∧
    (State.reset.deck .a).state = .empty ∧ ((deckIn .indexing .moving).deck .a).motion = .moving ∧
    ((deckIn .indexing .moving).deck .a).state = .indexing ∧ (deckIn .indexing .moving).entryOf .a = none ∧
    (mounted (deckIn .indexing .moving)).entryOf .a = some 0 ∧ ((deckIn .indexing .deferred).deck .a).motion = .deferred ∧
    schedIdle (deckIn .indexing .deferred) = true ∧ schedIdle (mounted (deckIn .indexing .deferred)) = true := by
  decide +kernel

/-- FilmInGateClearedEndsRewind: no rewind; the three rewinds. -/
theorem test_w_filmInGate :
    let threads := onDeck .a (fun k => { k with phase := some .rewind }) (deckIn .threading .moving)
    let back (p : RewindPurpose) (s : State) := onDeck .a (fun k => { k with purpose := some p }) s
    let remount := back .remount (deckIn .rewinding .moving)
    let unmount := back .unmount (mounted (deckIn .rewinding .moving))
    (running State.reset = true ∧ (State.reset.deck .a).motion ≠ .moving) ∧
    (running threads = true ∧ (threads.deck .a).motion = .moving ∧ (threads.deck .a).state = .threading ∧
      (threads.deck .a).phase = some .rewind) ∧
    (running remount = true ∧ (remount.deck .a).motion = .moving ∧ (remount.deck .a).state = .rewinding ∧
      (remount.deck .a).purpose = some .remount) ∧
    (running unmount = true ∧ (unmount.deck .a).motion = .moving ∧ (unmount.deck .a).state = .rewinding ∧
      (unmount.deck .a).purpose = some .unmount ∧ deckUnused unmount .a = true ∧ entryTagged unmount .a = true) := by
  decide +kernel

/-- ShuttleArrives: five counts from the target, and four; an arrival that no ticket awaits, and one that a LOCATE or a FETCH
awaits, confirmed or not. -/
theorem test_w_shuttleArrives :
    let at' (c : Nat) (s : State) : State := onDeck .a (fun k => { k with
      state := .shuttling, motion := .moving, target := some 100, counter := c }) s
    let waits (kind : TicketKind) (seen : Bool) : State :=
      at' 104 (onPool .a (fun q => { q with watched := some ⟨1, seen⟩ })
        (onTicket 0 (fun t => { t with kind := some kind }) (working .moving .shuttle (twoRecords (mounted)))))
    (∀ s ∈ [at' 105 State.reset, at' 104 State.reset, waits .locate true, waits .fetch true, waits .fetch false],
      running s = true ∧ (s.deck .a).state = .shuttling ∧ (s.deck .a).motion = .moving ∧ (s.deck .a).stopping = false ∧
      (s.deck .a).target = some 100) ∧
    ((at' 105 State.reset).deck .a).counter = 105 ∧ ((at' 104 State.reset).deck .a).counter = 104 ∧
    schedIdle (at' 104 State.reset) = true ∧
    (∀ s ∈ [waits .locate true, waits .fetch true, waits .fetch false],
      (s.deck .a).counter = 104 ∧ (s.sched .a).active = some 0 ∧ (s.sched .a).step = some .shuttle) ∧
    ((waits .locate true).pool .a).watched = some ⟨1, true⟩ ∧ ((waits .locate true).ticket 0).kind = some .locate ∧
    ((waits .fetch true).ticket 0).kind ≠ some .locate ∧
    (let s := waits .fetch false
     (s.pool .a).watched = some ⟨1, false⟩ ∧ (s.pool .a).crossing = [] ∧ (s.ticket 0).slot = some 0 ∧
       (s.ticket 0).current = some 1 ∧ s.record 0 1 = some (recordOf 1 100)) := by decide +kernel

/-- SearchCommandAndChoice: a deck not ready, ready, ready under HOLD; a search record of each condition, with and without a
candidate, the candidate in order and not. -/
theorem test_w_search :
    let sought (c : Condition) (p : Option Nat) : State :=
      onMark .a (fun m => { m with searchReference := some 100, searchCandidate := p })
        (onPool .a (fun q => { q with searchRecord := some 1 })
          ((twoRecords (mounted (deckIn .ready))).setRecord 0 1 fun r => { r with condition := c }))
    (State.reset.deck .a).state ≠ .ready ∧ ((deckIn .ready).deck .a).state = .ready ∧ (deckIn .ready).pins.hold = false ∧
    ((held (deckIn .ready)).pins.hold = true ∧ (held (deckIn .ready)).opa.path.selected = .a ∧
      ((held (deckIn .ready)).deck .a).state = .ready) ∧
    (∀ x ∈ [(Condition.seen, none), (.damaged, some 104), (.declared, some 200), (.seen, some 199), (.verified, some 104)],
      (sought x.1 x.2).entryOf .a = some 0 ∧ ((sought x.1 x.2).pool .a).searchRecord = some 1 ∧
      (sought x.1 x.2).record 0 1 = some { recordOf 1 100 with condition := x.1 } ∧
      ((sought x.1 x.2).mark .a).searchCandidate = x.2) ∧
    orderOk ((sought .declared (some 200)).chain 0) 1 200 = false ∧
    orderOk ((sought .seen (some 199)).chain 0) 1 199 = true := by decide +kernel

/-- FilmComesToRest: the three stops, and the end of an identification. -/
theorem test_w_filmAtRest :
    (∀ x ∈ [DeckState.shuttling, .indexing, .searching],
      let s := onDeck .a (fun k => { k with stopping := true }) (deckIn x .moving)
      running s = true ∧ schedIdle s = true ∧ (s.deck .a).motion = .moving ∧ (s.deck .a).state = x ∧
        (s.deck .a).stopping = true) ∧
    (let s := onDeck .a (fun k => { k with
       identification := some .fresh, reading := some (.tag 5), stopping := true, kind := some .mm16 })
       (listed (deckIn .identifying .moving))
     running s = true ∧ schedIdle s = true ∧ (s.deck .a).motion = .moving ∧ (s.deck .a).state = .identifying ∧
       (s.deck .a).reading = some (.tag 5)) := by decide +kernel

/-- SearchTurnsAndCompletes. -/
theorem test_w_searchTurns :
    let s := onDeck .a (fun k => { k with search := some ⟨0, 400, true⟩ }) (deckIn .searching .moving)
    running s = true ∧ (s.deck .a).state = .searching ∧ (s.deck .a).motion = .moving ∧
    (s.deck .a).search = some ⟨0, 400, true⟩ ∧ (s.deck .a).stopping = false ∧ schedIdle s = true := by decide +kernel

/-- EntriesMadeAndReleased: the rows of R50, and a transient entry with no ticket and with one that goes on. -/
theorem test_w_resolve :
    let deck := onDeck .a (fun k => { k with kind := some .mm16 })
    let kept : State := onHlp (fun h => { h with order := some captureOrder })
      (onTicket 0 (fun t => { t with cancelPending := true })
        (working .exposing .capture (onEntry 0 (fun e => { e with ticketCount := 1 }) (transient))))
    (∀ n, (allListed.entry n).state ≠ .free) ∧ lowestFreeEntry State.reset 0 = true ∧
    (((mounted).entry 0).tag = some 5 ∧ (∀ n, ((mounted).entry n).tag = some 5 → n = 0) ∧ ((mounted).entry 0).state = .mounted) ∧
    (((listed deck).entry 0).tag = some 5 ∧ (∀ n, ((listed deck).entry n).tag = some 5 → n = 0) ∧
      ((listed deck).entry 0).state ≠ .mounted ∧ ((listed deck).entry 0).width = some .mm16 ∧
      ((listed deck).deck .a).kind = some .mm16) ∧
    ((listed).entry 0).width ≠ none ∧ ((listed).deck .a).kind = none ∧
    (∀ n, (allListed.entry n).tag ≠ some 16) ∧ (∀ n, (State.reset.entry n).tag ≠ some 5) ∧
    (((transient).entry 0).tag = none ∧
      ((((transient).unlistedTickets 0).foldl (fun s t => s.finalize t .unlisted) (transient)).entry 0).ticketCount = 0) ∧
    ((kept.entry 0).tag = none ∧
      (((kept.unlistedTickets 0).foldl (fun s t => s.finalize t .unlisted) kept).entry 0).ticketCount ≠ 0) := by
  decide +kernel

/-- MarkSamplesAndOpening: no power; and on a powered deck a reader without an accepted level, one that agrees, one that differs
without and with a candidate; and one whose accepted level is not MARK. -/
theorem test_w_markSamples :
    let s := deckIn .ready
    let last (a : Option Bool) (c : Bool) : State := onMark .a (fun m => { m with accepted := a, candidate := c }) s
    running State.reset = true ∧ State.reset.power .a = false ∧
    (∀ x ∈ [(none, false), (some true, false), (some false, false), (some false, true)],
      running (last x.1 x.2) = true ∧ (last x.1 x.2).power .a = true ∧ ((last x.1 x.2).mark .a).accepted = x.1 ∧
      ((last x.1 x.2).mark .a).candidate = x.2) ∧
    ((last (some false) true).mark .a).accepted ≠ some true := by decide +kernel

/-- LeaderMarksRead: the widths at the bounds of the classes in each phase of the reading; twenty digits and nineteen. -/
theorem test_w_leaderMarks :
    let reads (x : DeckState) (ph : LeaderPhase) (w : Nat) (ds : List Bool) : State :=
      onMark .a (fun m => { m with
        accepted := some true, inProgress := some ⟨.forward, w, 3117⟩, leader := ph, digits := ds })
        (onDeck .a (fun k => { k with phase := some .advance, counter := 3169 }) (deckIn x .moving))
    (∀ x ∈ [(DeckState.threading, LeaderPhase.seek, 29, []), (.threading, .seek, 60, []), (.identifying, .collect, 2, []),
        (.identifying, .collect, 12, List.replicate 20 true), (.identifying, .collect, 13, []),
        (.identifying, .collect, 28, List.replicate 19 true), (.identifying, .collect, 61, []),
        (.identifying, .collect, 29, List.replicate 20 true), (.identifying, .idle, 12, []), (.threading, .seek, 2, [])],
      let s := reads x.1 x.2.1 x.2.2.1 x.2.2.2
      running s = true ∧ (s.mark .a).accepted ≠ some false ∧
      (s.mark .a).inProgress = some ⟨.forward, x.2.2.1, 3117⟩ ∧
      ((s.deck .a).state = .threading ∧ (s.deck .a).phase = some .advance ∨ (s.deck .a).state = .identifying) ∧
      (s.mark .a).leader = x.2.1) ∧
    classify Params.default 29 = .mark .sectionMark ∧ classify Params.default 60 = .mark .sectionMark ∧
    classify Params.default 2 = .mark .minor ∧ classify Params.default 12 = .mark .minor ∧
    classify Params.default 13 = .mark .major ∧ classify Params.default 28 = .mark .major ∧
    classify Params.default 61 = .fault ∧ classify Params.default 1 = .noise := by decide +kernel

/-- MatchedAndUnmatchedMarksTaken: a record of another class; one DAMAGED; one DECLARED or SEEN out of order and in order, the
last beyond the extent and not; one VERIFIED at its own position and off it; and an unmatched mark at the extent, beyond it at
rest, and beyond it in a run with and without a free record. -/
theorem test_w_matched :
    let s := twoRecords (mounted (deckIn .indexing .moving))
    let few : State := { s with freeCount := 0 }
    MarkClass.major ≠ (recordOf 1 100).cls ∧ MarkClass.minor = (recordOf 1 100).cls ∧
    (recordOf 1 100).condition = .seen ∧ orderOk (s.chain 0) 1 200 = false ∧ orderOk (s.chain 0) 1 199 = true ∧
    orderOk (s.chain 0) 2 240 = true ∧ ((recordOf 2 200).frame = (s.entry 0).frameCount ∧ (s.entry 0).extent < 240) ∧
    ¬ ((recordOf 1 100).frame = (s.entry 0).frameCount ∧ (s.entry 0).extent < 199) ∧
    ({ recordOf 1 100 with condition := .damaged } : FrameRecord).condition = .damaged ∧
    ({ recordOf 1 100 with condition := .verified } : FrameRecord).condition = .verified ∧
    (100 = (recordOf 1 100).position ∧ 101 ≠ (recordOf 1 100).position) ∧
    200 ≤ (s.entry 0).extent ∧ (s.entry 0).extent < 201 ∧
    ((s.deck .a).state = .indexing ∧ (s.pool .a).exhausted = false ∧ s.freeCount ≠ 0) ∧
    ((few.deck .a).state = .indexing ∧ (few.pool .a).exhausted = false ∧ few.freeCount = 0 ∧ (few.entry 0).extent < 201) ∧
    (let r := twoRecords (mounted (deckIn .ready)); (r.entry 0).extent < 201 ∧ ¬ (r.deck .a).state = .indexing) := by
  decide +kernel

/-- MarksClassifiedAndCounted: no mark in progress; widths 1, 2, 60 and 61 in a rewind. -/
theorem test_w_markCounts :
    let closes (w : Nat) : State := onMark .a (fun m => { m with
      accepted := some true, inProgress := some ⟨.backward, w, 100⟩ }) (deckIn .rewinding .moving)
    let p := Params.default
    p.m1 < p.m2 ∧ p.m2 < p.m3 ∧ 1 ≤ p.m1 ∧
    (running (deckIn .ready) = true ∧ (deckIn .ready).power .a = true ∧ ((deckIn .ready).mark .a).accepted ≠ some false ∧
      ((deckIn .ready).mark .a).inProgress = none ∧ (deckIn .ready).entryOf .a = none) ∧
    (∀ w ∈ [1, 2, 60, 61], running (closes w) = true ∧ (closes w).power .a = true ∧
      ((closes w).mark .a).accepted ≠ some false ∧ ((closes w).mark .a).inProgress = some ⟨.backward, w, 100⟩ ∧
      ((closes w).deck .a).state = .rewinding) ∧
    (p.m1 < 61 ∧ p.m2 < 61 ∧ p.m3 < 61 ∧ 60 ≤ p.m3) ∧
    nearest 150 [recordOf 1 100, recordOf 2 200] = some (recordOf 1 100) := by decide +kernel

/-- A powered deck A with its lens in a state. -/
def lensIn (l : Lens) : State := (deckIn .ready).setLens .a l

/-- LensCommandedAndTravels: each lens state, the target where the lens stands and elsewhere, the home stop open and made; the
step before the homing limit, the last homing step, the step before the target from either side, and the scheduler idle. -/
theorem test_w_lens :
    let t : LensTarget := ⟨2048, .scheduler⟩
    State.reset.power .a = false ∧ running State.reset = true ∧
    (∀ l ∈ [Lens.unhomed, .homing t 0, .homing t 4350, .homing t 4351, .idle 0, .idle 2048, .moving 0 t, .moving 2047 t,
      .moving 2049 t, .moving 2046 t, .moving 2050 t, .moving 2048 t],
      running (lensIn l) = true ∧ (lensIn l).power .a = true ∧ (lensIn l).lens .a = l ∧ schedIdle (lensIn l) = true) ∧
    ((lensIn .unhomed).sensors .a).lensHome = false ∧
    (let s := onPins .a (fun p => { p with lensHome := true }) (lensIn .unhomed)
     s.power .a = true ∧ s.lens .a = .unhomed ∧ (s.sensors .a).lensHome = true) ∧
    ((max 0 (min 4095 (-1 : Int))).toNat = 0 ∧ (max 0 (min 4095 (4096 : Int))).toNat = 4095) ∧
    (4350 + 1 < 4352 ∧ 4352 ≤ 4351 + 1 ∧ 2046 + 1 < t.pos ∧ t.pos + 1 < 2050 ∧ 2047 + 1 = t.pos ∧ 2049 = t.pos + 1 ∧
      t.pos ≠ 0 ∧ t.holder = .scheduler) := by decide +kernel

/-- A sweep of deck A in a phase, the deck holding tenure with a job in progress. -/
def sweeping (p : SweepPhase) (l : Lens) : State :=
  onOpa (fun o => { o with path := .atGate .a, holder := some .a, job := true, moveTimer := none })
    { lensIn l with fseq := { State.reset.fseq with sweep := some (sweepIn p) } }

/-- SweepStepOrdered: a lens that moves for the sequencer, and a settle pause running. -/
theorem test_w_sweepStep :
    let s := sweeping .lens (.moving 1951 ⟨1952, .sequencer⟩)
    let u := sweeping (.settle 1952 (some ⟨4, 4⟩)) (.idle 1952)
    (running s = true ∧ s.fseq.sweep = some (sweepIn .lens) ∧ (sweepIn .lens).phase = .lens ∧
      s.lens (sweepIn .lens).deck = .moving 1951 ⟨1952, .sequencer⟩ ∧ s.fseq.plan.pause ≠ 0) ∧
    (running u = true ∧ u.fseq.sweep = some (sweepIn (.settle 1952 (some ⟨4, 4⟩))) ∧ u.opa.holder = some .a ∧
      u.hlp.order = none ∧ u.pins.ready = true) := by decide +kernel

/-- SweepWriteAndCompletion: a best figure at the floor and one below it, and the earlier of two equal figures. -/
theorem test_w_sweepCompletion :
    State.reset.params.floor ≤ (⟨3, 2048, 1200⟩ : Figure).figure ∧
    ¬ State.reset.params.floor ≤ (⟨3, 2048, 1199⟩ : Figure).figure ∧
    bestFigure [⟨0, 1952, 7⟩, ⟨1, 1984, 9⟩, ⟨2, 2016, 9⟩] = some ⟨1, 1984, 9⟩ := by decide +kernel

/-- PathMovesEnd: the reset move, with and without a request of deck A; the path set at a gate. -/
theorem test_w_path :
    let asks := onOpa (fun o => { o with requests := ⟨true, false⟩ })
    (running State.reset = true ∧ State.reset.opa.path = .moving .a ∧ State.reset.opa.moveTimer = some ⟨4000, 0⟩ ∧
      State.reset.opa.holder = none ∧ schedIdle State.reset = true ∧ State.reset.opa.path ≠ .moving .b) ∧
    (running asks = true ∧ asks.opa.path = .moving .a ∧ asks.opa.moveTimer = some ⟨4000, 0⟩ ∧ asks.opa.holder = none ∧
      asks.opa.requests.get .a = true ∧ asks.opa.wanted = none ∧ (asks.sched DeckId.a.other).track = none) := by
  decide +kernel

/-- ArbitrationAndTenureDecided: the path at gate A, moving and in FAULT, with the requests that each row names; a holder with a
job in progress one short of the tenure limit and two short of it, closing and not, requesting and not. -/
theorem test_w_arbitration :
    let o (p : PathState) (a b : Bool) (w f : Option DeckId) : Opa :=
      ⟨p, none, 0, ⟨a, b⟩, false, false, w, none, f⟩
    let ends (a b closing : Bool) (n : Nat) : State :=
      onOpa (fun _ => ⟨.atGate .a, some .a, n, ⟨a, b⟩, true, closing, none, none, none⟩)
    (let x := o (.atGate .a) true true none none
     x.path = .atGate .a ∧ x.requests.get .a = true ∧ x.wanted ≠ some DeckId.a.other) ∧
    (let x := o (.atGate .a) false true none none
     x.path = .atGate .a ∧ x.requests.get DeckId.a.other = true ∧ ¬ x.requests.get .a = true) ∧
    (let x := o (.atGate .a) false false none none
     ¬ x.requests.get .a = true ∧ ¬ x.requests.get DeckId.a.other = true) ∧
    (o (.moving .a) true true none none).path = .moving .a ∧
    (let x := o (.fault .b) true false none (some .a)
     x.path = .fault .b ∧ x.wanted = none ∧ x.faultFirst = some .a ∧ x.requests.get .a = true) ∧
    (o (.fault .b) true false (some .a) (some .a)).wanted = some .a ∧
    (∀ x ∈ [(true, true, true, 0), (false, true, false, 0), (true, false, false, 32), (true, true, false, 6),
        (true, true, false, 7)],
      (ends x.1 x.2.1 x.2.2.1 x.2.2.2).opa.holder = some .a ∧ (ends x.1 x.2.1 x.2.2.1 x.2.2.2).opa.job = true ∧
      (ends x.1 x.2.1 x.2.2.1 x.2.2.2).opa.requests = ⟨x.1, x.2.1⟩ ∧
      (ends x.1 x.2.1 x.2.2.1 x.2.2.2).opa.closing = x.2.2.1) ∧
    (min 32 (6 + 1) < State.reset.params.tenureLimit ∧ State.reset.params.tenureLimit ≤ min 32 (7 + 1)) := by
  decide +kernel

/-- HeadLinkReportsTaken: an order whose bytes are being sent, alone and with a later one; each state of the receiver; a report
with a wrong CRC, of outcome 0 and 3, and one that names no order in flight. -/
theorem test_w_headLink :
    let sends (f : Option Order) (l : List (List Byte)) : State := onHlp (fun h => { h with order := f, sending := l })
    let order : Order := { captureOrder with timeout := none }
    let gets (r : ReportReceiver) : State := onHlp (fun h => { h with receiver := r })
    let six : List Byte := [9, 1, 0, 0, 0, 7]
    (running (sends (some order) [[1]]) = true ∧ (sends (some order) [[1]]).hlp.sending = [[1]] ∧
      (sends (some order) [[1]]).hlp.order = some order ∧ order.timeout = none) ∧
    (running (sends none [[1]]) = true ∧ (sends none [[1]]).hlp.order = none) ∧
    (running (sends (some order) [[1], [2]]) = true ∧ (sends (some order) [[1], [2]]).hlp.sending = [[1], [2]]) ∧
    (∀ r ∈ [ReportReceiver.hunt, .length, .body [], .body [9, 1, 0, 0], .body [9, 1, 0, 0, 0], .check six none,
      .check six (some 3)], running (gets r) = true ∧ (gets r).hlp.receiver = r) ∧
    (0x1E : Byte) ≠ 0x1F ∧ (3 : Byte) ++ (4 : Byte) ≠ bodyCrc six ∧
    (0 : Half) ≠ bodyCrc six ∧ ¬ ((0 : Byte) = 1 ∨ (0 : Byte) = 2) ∧ ¬ ((3 : Byte) = 1 ∨ (3 : Byte) = 2) ∧
    (State.reset.hlp.receiver = .hunt ∧ State.reset.hlp.order = none) ∧
    (onHlp (fun h => { h with order := some captureOrder })).hlp.order = some captureOrder ∧
    captureOrder.number ≠ 8 := by decide +kernel

/-- CaptureEndsFetch: a FETCH ticket whose capture is in flight. -/
theorem test_w_captureEnds :
    running exposing = true ∧ exposing.hlp.order = some captureOrder ∧ captureOrder.request.kind = .capture ∧
    captureOrder.request.deck = .a ∧ (exposing.sched .a).active = some 0 ∧ (exposing.sched .a).held = none ∧
    (exposing.ticket 0).cancelPending = false ∧ (exposing.ticket 0).kind = some .fetch ∧ exposing.hlp.receiver = .hunt ∧
    captureOrder.timeout.isSome = true ∧ exposing.fseq.sweep = none := by decide +kernel

/-- HoldAndReadyTaken: HOLD asserted and released, over moving film and not; a deferred motion of deck A; the wanted reset move
deferred. -/
theorem test_w_hold :
    let defers := held (onOpa (fun o => { o with path := .atGate .a, holder := some .a, moveTimer := none })
      (deckIn .shuttling .deferred))
    let path := held (onOpa (fun o => { o with wanted := some .a, moveTimer := none }))
    (running (held) = true ∧ (held).pins.hold = true ∧ schedIdle (held) = true ∧
      ((held).deck .a).motion ≠ .deferred ∧ ((held).deck .b).motion ≠ .deferred) ∧
    (State.reset.pins.hold = false ∧ (State.reset.deck State.reset.opa.path.selected).motion ≠ .moving) ∧
    (running (deckIn .shuttling .moving) = true ∧
      ((deckIn .shuttling .moving).deck (deckIn .shuttling .moving).opa.path.selected).motion = .moving) ∧
    (running defers = true ∧ schedIdle defers = true ∧ defers.opa.holder ≠ none ∧ (defers.deck .a).motion = .deferred ∧
      (defers.deck DeckId.a.other).motion ≠ .deferred ∧ (defers.deck .a).state = .shuttling) ∧
    (let s := held (onOpa (fun o => { o with path := .atGate .a, holder := some .a, moveTimer := none }))
     schedIdle s = true ∧ s.opa.holder ≠ none ∧ (s.deck .a).motion ≠ .deferred ∧ (s.deck .b).motion ≠ .deferred) ∧
    (running path = true ∧ schedIdle path = true ∧ path.opa.holder = none ∧ path.opa.path = .moving .a ∧
      path.opa.wanted = some .a ∧ path.hlp.order = none ∧ path.pins.limits.get .a = false ∧
      (path.deck .a).motion ≠ .deferred ∧ (path.deck .b).motion ≠ .deferred) ∧
    (State.reset.hlp.order = none ∧ State.reset.fseq.sweep = none) := by decide +kernel

/-- LinkAndHolderLawsKept, PowerLawsKept, RecordLawsKept: a state with film threaded, records and a capture in flight keeps all
the laws, and steps to a next state. -/
theorem test_w_laws :
    let s : State := { exposing with freeCount := 16382, pending := [.status] }
    waitingLaw s = true ∧ holderLaw s = true ∧ lensLaw s = true ∧ anchorLaw s = true ∧ recordLaw s = true ∧
    numberLaw s = true ∧ (match step s with
      | .next t => t.rlp.processing.isSome
      | _ => false) = true := by decide +kernel

/-! ## Further clauses -/

/-- Ticket 1 QUEUED for entry 0. -/
def waitsToo (s : State := State.reset) : State :=
  onTicket 1 (fun t => { t with
    state := .queued, kind := some .fetch, slot := some 0, first := some 1, last := some 1, current := some 1 }) s

/-- UnmountAndClearDeckTaken, RemovalWhileThreaded, FilmInGateClearedEndsRewind: the deck's tagged entry has a QUEUED ticket. -/
theorem test_w_deckLeft :
    (∀ x ∈ [(DeckState.ready, Motion.still), (.halted, .still), (.rewinding, .moving)],
      let s := waitsToo (mounted (deckIn x.1 x.2))
      linkIdle s = true ∧ running s = true ∧ deckLeft s .a = true ∧ entryTagged s .a = true ∧ s.entryOf .a = some 0 ∧
      (s.ticket 1).state = .queued ∧ (s.ticket 1).slot = some 0 ∧ (s.sched .a).active = none ∧ s.pins.hold = false ∧
      (s.sensors .a).filmInGate = false ∧ s.orderFor .a = false) := by decide +kernel

/-- RecordAndDeckCodeRefusals, BindDeckTaken, DeclareFramesAppends: values next to their ranges, and slot 16. -/
theorem test_w_outOfRange :
    (∀ n ∈ [(0 : Byte), 17], ¬ (1 ≤ n.toNat ∧ n.toNat ≤ 16)) ∧
    ¬ ((1 : Byte).getLsbD 0 = false ∨ (4096 : Half).toNat ≤ 4095) ∧ ((0 : Byte).getLsbD 0 = false ∨ (4096 : Half).toNat ≤ 4095) ∧
    ¬ 1 ≤ (0 : Half).toNat ∧ ¬ (16385 : Half).toNat ≤ 16384 ∧ 1 ≤ (1 : Half).toNat ∧ (16384 : Half).toNat ≤ 16384 ∧
    16 ≤ (16 : Byte).toNat ∧ (Instr.declareFrames 16 1 twoItems).wf = true := by decide +kernel

/-- AdmissionsRefused with EXTEND: no FREE ticket, no entry, a frame beyond the count of a COMPLETE entry, a withdrawn frame, and a
range that ends before it begins, both of its frames beyond the count. -/
theorem test_w_extendRefused :
    let full : State := { twoRecords listed with tickets := .ofFn fun _ => { Ticket.free with state := .done } }
    let s := twoRecords listed
    let whole := onEntry 0 (fun e => { e with complete := true }) s
    let gone := s.setRecord 0 1 fun r => { r with withdrawn := true }
    (1 : Byte).getLsbD 0 = true ∧ (0 : Byte).toNat = (0 : Slot).val ∧ (3 : Byte).toNat ≤ 3 ∧
    (∀ x ∈ [full, State.reset, s, whole, gone], linkIdle x = true) ∧
    (¬ ∃ t, (full.ticket t).state = .free) ∧ ((∃ t, (State.reset.ticket t).state = .free) ∧ (State.reset.entry 0).state = .free) ∧
    (∀ x ∈ [s, whole, gone], (∃ t, (x.ticket t).state = .free) ∧ (x.entry 0).state ≠ .free ∧
      (x.entry 0).releasePending = false) ∧
    ((whole.entry 0).complete = true ∧ ¬ (3 : Half).toNat ≤ (whole.entry 0).frameCount) ∧
    ((1 : Half).toNat ≤ (gone.entry 0).frameCount ∧ (gone.record 0 1).map (·.withdrawn) = some true) ∧
    ((s.entry 0).complete = false ∧ s.record 0 4 = none ∧ s.record 0 3 = none ∧ (3 : Half).toNat < (4 : Half).toNat) := by
  decide +kernel

/-- Deck A's active ticket 0 of the mounted entry 0 with its records, in a state, at a step. -/
def served (x : TicketState) (step : Machine.Step) (s : State := State.reset) : State :=
  working x step (twoRecords (onEntry 0 (fun e => { e with ticketCount := 1 }) (mounted s)))

/-- A sweep of deck A in a phase, for a ticket or by track. -/
def sweptBy (track : Bool) (p : SweepPhase) (s : State) : State :=
  { s with fseq := { s.fseq with sweep := some { sweepIn p with track := track } } }

/-- Deck A's track sweep, pending or running. -/
def tracked (running arrived : Bool) (s : State) : State :=
  onSched .a (fun c => { c with track := some ⟨1, 100, running, arrived⟩ }) s

/-- The meaning of the next test: an active ticket at deck A with no cancel pending, the link idle. -/
def activeIn (s : State) (x : TicketState) (step : Machine.Step) : Bool :=
  linkIdle s && s.activeAt 0 == some .a && (s.sched .a).active == some 0 && (s.ticket 0).state == x &&
    (s.sched .a).step == some step && (s.ticket 0).cancelPending == false

/-- CancelTaken: MOVING and SEARCHING at a deck READY, deferred and under way; INDEXING without a track sweep, with one pending and
with one running; FOCUSING in its sweep and in LENS_WAIT, the sweep in each phase; CAPTURE_WAIT; a failure held. -/
theorem test_w_cancelStages :
    (∀ x ∈ [(DeckState.ready, Motion.still), (.shuttling, .deferred), (.shuttling, .moving)],
      activeIn (served .moving .shuttle (deckIn x.1 x.2)) .moving .shuttle = true ∧
      ((served .moving .shuttle (deckIn x.1 x.2)).sched .a).held = none) ∧
    (∀ x ∈ [(DeckState.searching, Motion.deferred), (.searching, .moving)],
      activeIn (served .searching .search (deckIn x.1 x.2)) .searching .search = true) ∧
    (∀ x ∈ [(DeckState.ready, Motion.still), (.indexing, .deferred), (.indexing, .moving)],
      activeIn (served .indexing .run (deckIn x.1 x.2)) .indexing .run = true ∧
      activeIn (tracked false false (served .indexing .track (deckIn x.1 x.2))) .indexing .track = true) ∧
    (∀ p ∈ [SweepPhase.lens, .settle 2048 none, .order 2048],
      activeIn (sweptBy true p (tracked true true (served .indexing .track (deckIn .ready)))) .indexing .track = true ∧
      activeIn (sweptBy false p (served .focusing .sweep (deckIn .ready))) .focusing .sweep = true) ∧
    activeIn (served .focusing .lensWait (deckIn .ready)) .focusing .lensWait = true ∧
    activeIn (served .exposing .captureWait (deckIn .ready)) .exposing .captureWait = true ∧
    (let s := onSched .a (fun c => { c with held := some .halted }) exposing
     activeIn s .exposing .capture = true ∧ (s.sched .a).held ≠ none) := by decide +kernel

/-- FinalTransitionAndDeckFailure: a release pending entry whose last ticket is active at a deck, and one with a second ticket. -/
theorem test_w_releasePending :
    let s (n : Nat) : State := onEntry 0 (fun e => { e with
      state := .listed, deck := none, releasePending := true, ticketCount := n }) exposing
    ((s 1).ticket 0).state.isLive = true ∧ ((s 1).ticket 0).slot = some 0 ∧ ((s 1).entry 0).releasePending = true ∧
    ((s 1).entry 0).ticketCount = 1 ∧ (s 1).activeAt 0 = some .a ∧
    ((s 2).ticket 0).state.isLive = true ∧ 1 < ((s 2).entry 0).ticketCount ∧ (s 2).activeAt 0 = some .a := by decide +kernel

/-- ChoiceByPriorityAndOrder: no active ticket; one that ticket 1 displaces; one of equal priority. A deck under way, the record
with no setpoint, with one the lens travels to, and with one where the lens stands. -/
theorem test_w_redirect :
    let way := served .moving .shuttle (deckIn .shuttling .moving)
    let more (p : Nat) : State := onTicket 1 (fun t => { t with priority := p }) (waitsToo way)
    let focused (l : Lens) : State := (way.setRecord 0 1 fun r => { r with setpoint := some 2176 }).setLens .a l
    (∀ s ∈ [waitsToo (mounted), more 0, more 1], (s.ticket 1).slot = some 0 ∧ (s.entry 0).deck = some .a) ∧
    ((waitsToo (mounted)).sched .a).active = none ∧
    (∀ s ∈ [more 0, more 1], (s.sched .a).active = some 0 ∧ (s.ticket 0).state = .moving ∧
      (s.ticket 0).cancelPending = false ∧ (s.sched .a).held = none ∧ (s.ticket 1).kind ≠ some .index ∧
      (s.ticket 1).current.getD 0 ≤ (s.entry 0).frameCount) ∧
    (((more 1).ticket 0).priority < ((more 1).ticket 1).priority ∧
      ¬ ((more 0).ticket 0).priority < ((more 0).ticket 1).priority) ∧
    (∀ s ∈ [way, focused (.idle 2048), focused (.idle 2176)], (s.ticket 0).slot = some 0 ∧ (s.ticket 0).current = some 1 ∧
      (s.deck .a).state = .shuttling ∧ (s.sched .a).active = some 0 ∧ (s.ticket 0).kind = some .fetch ∧
      s.params.policy ≠ .off) ∧
    (way.record 0 1).map (·.setpoint) = some none ∧
    (∀ l ∈ [Lens.idle 2048, .idle 2176], ((focused l).record 0 1).map (·.setpoint) = some (some 2176)) ∧
    ((focused (.idle 2048)).lensMove .a 2176 .scheduler).2 = none ∧
    ((focused (.idle 2176)).lensMove .a 2176 .scheduler).2 = some 2176 := by decide +kernel

/-- EncoderCountsTaken: a deck halted with its entry; a rewind; a mark in progress that the count lets run on, in READY and in
SEARCHING, and one that it abandons. -/
theorem test_w_encoderMarks :
    let marked (x : DeckState) (dir : Direction) : State :=
      onMark .a (fun m => { m with inProgress := some ⟨dir, 3, 90⟩ })
        (onPool .a (fun q => { q with crossing := [⟨1, false, false⟩] })
          (onDeck .a (fun k => { k with counter := 140 }) (twoRecords (mounted (deckIn x .moving)))))
    ((mounted (deckIn .halted)).entryOf .a = some 0 ∧ (mounted (deckIn .halted)).power .a = false ∧
      ((mounted (deckIn .halted)).deck .a).state ≠ .empty) ∧
    ((deckIn .rewinding .moving).power .a = true ∧ ((deckIn .rewinding .moving).deck .a).state.matching = false) ∧
    (∀ x ∈ [DeckState.ready, .searching], ∀ dir ∈ [Direction.forward, .backward],
      running (marked x dir) = true ∧ ((marked x dir).deck .a).state.matching = true ∧ (marked x dir).entryOf .a = some 0 ∧
      (((marked x dir).mark .a).inProgress.map (·.direction)) = some dir) ∧
    (let s := marked .ready .forward
     inWindow s (recordOf 1 100) 140 = true ∧ inWindow s (recordOf 1 100) 141 = false) := by decide +kernel

/-- ShuttleArrives: the command at a deck READY on either side of the band's edge, under HOLD, in SHUTTLING, and in no state that
takes one; the capstan of a deck in SHUTTLING below, at and above its target, the film travelling either way. -/
theorem test_w_shuttleCommand :
    let ready (c : Nat) : State := onDeck .a (fun k => { k with counter := c }) (deckIn .ready)
    let way (c : Nat) (dir : Option Direction) (stop : Bool) : State := onDeck .a (fun k => { k with
      counter := c, target := some 100, travel := dir, stopping := stop }) (deckIn .shuttling .moving)
    ((ready 96).deck .a).counter + 4 = 100 ∧ ((ready 95).deck .a).counter + 5 = 100 ∧
    ((held (ready 95)).pins.hold = true ∧ (held (ready 95)).opa.path.selected = .a) ∧
    (State.reset.deck .a).state ≠ .ready ∧ (State.reset.deck .a).state ≠ .shuttling ∧
    ((deckIn .shuttling .deferred).deck .a).motion ≠ .moving ∧
    (∀ c ∈ [99, 100, 101], ∀ dir ∈ [none, some Direction.forward, some .backward], ∀ stop : Bool,
      ((way c dir stop).deck .a).state = .shuttling ∧ ((way c dir stop).deck .a).motion = .moving ∧
      ((way c dir stop).deck .a).stopping = stop ∧ ((way c dir stop).deck .a).target = some 100) := by decide +kernel

/-- SearchCommandAndChoice: a VERIFIED record found at its own position; the last record found beyond the extent. -/
theorem test_w_searchFound :
    let sought (c : Condition) (f p : Nat) : State :=
      onMark .a (fun m => { m with searchReference := some 100, searchCandidate := some p })
        (onPool .a (fun q => { q with searchRecord := some f })
          ((twoRecords (mounted (deckIn .ready))).setRecord 0 f fun r => { r with condition := c }))
    ((sought .verified 1 100).entryOf .a = some 0 ∧ ((sought .verified 1 100).pool .a).searchRecord = some 1 ∧
      (sought .verified 1 100).record 0 1 = some { recordOf 1 100 with condition := .verified } ∧
      ((sought .verified 1 100).mark .a).searchCandidate = some 100) ∧
    ((sought .seen 2 240).entryOf .a = some 0 ∧ ((sought .seen 2 240).pool .a).searchRecord = some 2 ∧
      (sought .seen 2 240).record 0 2 = some (recordOf 2 200) ∧ orderOk ((sought .seen 2 240).chain 0) 2 240 = true ∧
      2 = ((sought .seen 2 240).entry 0).frameCount ∧ ((sought .seen 2 240).entry 0).extent < 240) := by decide +kernel

/-- FilmComesToRest: an active ticket's motion at rest in each step of INDEXING, at the film end and short of it, with a cancel
pending and a track sweep pending; a REMOUNT whose reading agrees with the deck's entry and one whose does not; the stage going on
after its track sweep, its target reached, the film end met, and neither, under HOLD and not. -/
theorem test_w_stageEnds :
    let rests (step : Machine.Step) (atEnd : Bool) (s : State := State.reset) : State :=
      served .indexing step (onDeck .a (fun k => { k with stopping := true, runMetEnd := atEnd })
        (deckIn .indexing .moving s))
    let pend (s : State) : State := onTicket 0 (fun t => { t with cancelPending := true }) s
    let reached (s : State) : State := onSched .a (fun c => { c with targetReached := true }) s
    let goesOn := served .indexing .track (deckIn .ready)
    (∀ s ∈ [rests .closing false, rests .run true, rests .run false, reached (rests .run true),
        tracked false false (rests .track true), rests .track false, rests .approach false, pend (rests .run true)],
      running s = true ∧ (s.deck .a).motion = .moving ∧ (s.deck .a).state = .indexing ∧ (s.deck .a).stopping = true ∧
      (s.sched .a).active = some 0) ∧
    (((rests .run true).deck .a).runMetEnd = true ∧ ((rests .run true).sched .a).targetReached = false ∧
      ((reached (rests .run true)).sched .a).targetReached = true ∧ ((rests .track false).sched .a).track = none) ∧
    (((pend (rests .run true)).ticket 0).cancelPending = true ∧ ((rests .run true).ticket 0).cancelPending = false) ∧
    ((mounted).entryOf .a = some 0 ∧ ((mounted).entry 0).tag = some 5 ∧ ¬ ((mounted).entry 0).tag = some 6 ∧
      ((mounted).entry 0).tag.isSome = true ∧ (mounted).fseq.sweep = none) ∧
    (∀ s ∈ [goesOn, reached goesOn, onSched .a (fun c => { c with filmEndMet := true }) goesOn, held goesOn],
      (s.sched .a).active = some 0 ∧ (s.sched .a).step = some .track ∧ (s.sched .a).track = none ∧
      (s.deck .a).state = .ready ∧ (s.ticket 0).cancelPending = false ∧ (s.sched .a).held = none ∧
      (s.sensors .a).filmEnd = false) ∧
    ((held goesOn).opa.path.selected = .a ∧ (held goesOn).pins.hold = true ∧ goesOn.pins.hold = false) := by decide +kernel

/-- SearchTurnsAndCompletes: leg 1 and leg 2 five and four counts short of the high end; a ticket in step SEARCH with and without a
candidate, the record beyond the arrival band and within it; both legs at their ends. -/
theorem test_w_searchLegs :
    let legs (two : Bool) (c : Nat) (s : State) : State := onDeck .a (fun k => { k with
      search := some ⟨20, 400, two⟩, counter := c }) (deckIn .searching .moving s)
    let seeks (p : Option Nat) (c : Nat) : State :=
      onMark .a (fun m => { m with searchReference := some 100, searchCandidate := p })
        (onPool .a (fun q => { q with searchRecord := some 1 }) (served .searching .search (legs true c State.reset)))
    (∀ x ∈ [(true, 395), (true, 396), (true, 399), (true, 400), (false, 396), (false, 20), (false, 21)],
      let s := legs x.1 x.2 State.reset
      running s = true ∧ (s.deck .a).state = .searching ∧ (s.deck .a).motion = .moving ∧
      (s.deck .a).search = some ⟨20, 400, x.1⟩ ∧ (s.deck .a).stopping = false) ∧
    (min (400 : Int) 2097151 ≤ ((396 : Nat) : Int) + 4 ∧ ¬ min (400 : Int) 2097151 ≤ ((395 : Nat) : Int) + 4) ∧
    schedIdle (legs true 396 State.reset) = true ∧
    (∀ x ∈ [(none, 396), (some 104, 396), (some 400, 396)],
      let s := seeks x.1 x.2
      (s.sched .a).active = some 0 ∧ (s.sched .a).step = some .search ∧ (s.pool .a).searchRecord = some 1) ∧
    ((readyAs (seeks none 396) .a).searchChoice .a).2 = none ∧
    ((readyAs (seeks (some 104) 396) .a).searchChoice .a).2 = some 104 := by decide +kernel

/-- A sweep of ticket 0 in ORDER, its TEST order in flight. -/
def testing : State :=
  onHlp (fun h => { h with order := some { captureOrder with request := { captureOrder.request with kind := .test } } })
    (onOpa (fun o => { o with path := .atGate .a, holder := some .a, job := true, moveTimer := none, requests := ⟨true, false⟩ })
      (sweptBy false (.order 2048) (served .focusing .sweep (deckIn .ready))))

/-- SweepStepOrdered: sweeps in ORDER at the first and at the last enabled step, and aborting; a TEST order in flight that serves a
ticket. -/
theorem test_w_sweepOrders :
    (sweepIn (.order 2048)).phase = .order 2048 ∧ (sweepIn (.aborting .cancel)).phase = .aborting .cancel ∧
    DeckId.b ≠ (sweepIn .lens).deck ∧
    (1 ∈ Plan.default.enabledSteps ∧ (sweepIn (.order 2048)).step < 1 ∧ (∀ m ∈ Plan.default.enabledSteps, 0 < m → 1 ≤ m)) ∧
    (∀ m ∈ Plan.default.enabledSteps, ¬ 6 < m) ∧
    (running testing = true ∧ testing.fseq.sweep = some (sweepIn (.order 2048)) ∧ (sweepIn (.order 2048)).track = false ∧
      (testing.hlp.order.map fun o => (o.started, o.request.kind, o.timeout.isSome)) = some (true, .test, true) ∧
      (testing.sched .a).active = some 0 ∧ (testing.sched .a).step = some .sweep ∧ (testing.sched .a).held = none ∧
      (testing.ticket 0).cancelPending = false ∧ testing.hlp.receiver = .hunt) := by decide +kernel

/-- SweepWriteAndCompletion, track sweeps: frames 1 and 16 under TRACK and frame 2; barred by another's tenure, by a sweep and by
one called for already; begun, skipped without READY, not begun; running with a failure held, a cancel pending, and neither. -/
theorem test_w_trackSweeps :
    let runs (s : State) : State := { s with params := { s.params with policy := .track } }
    let called := runs (served .indexing .run (deckIn .indexing .moving))
    let waits (arrived : Bool) : State :=
      onOpa (fun o => { o with path := .atGate .a, holder := some .a, requests := ⟨true, false⟩, moveTimer := none })
        (tracked false arrived (served .indexing .track (deckIn .ready)))
    let dark (s : State) : State := { s with pins := { s.pins with ready := false } }
    let busy := tracked true true (served .indexing .track (deckIn .ready))
    (called.params.policy = .track ∧ called.params.trackInterval = 16 ∧ 16 % 16 = 0 ∧ ¬ (2 = 1 ∨ 2 % 16 = 0)) ∧
    (¬ (called.opa.holder = some DeckId.a.other ∨ called.fseq.sweep ≠ none ∨ (called.sched .a).track ≠ none) ∧
      (called.deck .a).motion ≠ .deferred) ∧
    ((onOpa (fun o => { o with holder := some .b }) called).opa.holder = some DeckId.a.other ∧
      (sweptBy true .lens called).fseq.sweep ≠ none ∧ ((tracked false false called).sched .a).track ≠ none) ∧
    (∀ s ∈ [waits true, waits false, dark (waits true), busy], (s.sched .a).active = some 0 ∧ s.entryOf .a = some 0 ∧
      (s.ticket 0).cancelPending = false ∧ (s.sched .a).held = none ∧ s.fseq.sweep = none) ∧
    (((waits true).sched .a).track = some ⟨1, 100, false, true⟩ ∧ ((waits false).sched .a).track = some ⟨1, 100, false, false⟩ ∧
      (waits true).opa.holder = some .a ∧ ((waits true).deck .a).state = .ready ∧ (waits true).pins.ready = true ∧
      (dark (waits true)).pins.ready = false ∧ (busy.sched .a).track = some ⟨1, 100, true, true⟩) ∧
    (let h := onSched .a (fun c => { c with held := some .halted }) busy
     (h.sched .a).held = some .halted ∧ (h.sched .a).track = some ⟨1, 100, true, true⟩) ∧
    (let h := onTicket 0 (fun t => { t with cancelPending := true }) busy
     (h.ticket 0).cancelPending = true ∧ (h.sched .a).held = none) := by decide +kernel

/-- PathMovesEnd: a grant at gate A while deck B's track sweep is pending; a move that times out with a request of a ticket, of a
pending track sweep, and of each deck. -/
theorem test_w_pathRequests :
    let moves (a b : Bool) (s : State) : State := onOpa (fun o => { o with requests := ⟨a, b⟩ }) s
    let other := onSched .b (fun c => { c with active := some 1, track := some ⟨1, 100, false, false⟩ })
      (moves true false (served .focusing .sweepWait (deckIn .ready)))
    let ticket := moves true false (served .moving .shuttle (deckIn .shuttling .moving))
    let track := moves true true (tracked false true (served .indexing .track (deckIn .ready)))
    (∀ s ∈ [other, ticket, track], running s = true ∧ s.opa.path = .moving .a ∧ s.opa.moveTimer = some ⟨4000, 0⟩ ∧
      s.opa.holder = none ∧ s.opa.requests.get .a = true ∧ s.opa.wanted = none) ∧
    ((other.sched DeckId.a.other).track.any (fun tr => !tr.running) = true ∧
      (ticket.sched DeckId.a.other).track.all (·.running) = true) ∧
    ((ticket.sched .a).active = some 0 ∧ (ticket.sched .a).track = none ∧ (ticket.deck .a).state = .shuttling ∧
      (track.sched .a).track.isSome = true ∧ track.opa.requests.get .b = true) := by decide +kernel

/-- HeadLinkReportsTaken: an order that waits behind an earlier one's bytes, READY high and low; a report that names it. -/
theorem test_w_waitingOrder :
    let order : Order := { captureOrder with started := false, timeout := none }
    let waits := onHlp (fun h => { h with order := some order, sending := [[1], [2]] })
    let dark : State := { waits with pins := { waits.pins with ready := false } }
    (∀ s ∈ [waits, dark], running s = true ∧ s.hlp.sending = [[1], [2]] ∧ s.hlp.order = some order ∧ order.started = false ∧
      s.hlp.receiver = .hunt) ∧
    waits.pins.ready = true ∧ dark.pins.ready = false ∧
    (let three := onHlp (fun h => { h with order := some order, sending := [[1], [2], [3]] })
     three.hlp.sending = [[1], [2], [3]] ∧ three.pins.ready = true) := by decide +kernel

/-- CaptureEndsFetch: a failure held, a cancel pending; a RANGE whose next frame is withdrawn, to the last frame and beyond it. -/
theorem test_w_rangeBoundary :
    let o := exposing
    let held (h : HeldOutcome) : State := onSched .a (fun c => { c with held := some h }) o
    let pend := onTicket 0 (fun t => { t with cancelPending := true }) o
    let range (last : Nat) : State := onTicket 0 (fun t => { t with kind := some .range, last := some last })
      (o.setRecord 0 2 fun r => { r with withdrawn := true })
    (∀ s ∈ [held .halted, held .removed, pend, range 2, range 3], running s = true ∧ s.hlp.order = some captureOrder ∧
      (s.sched .a).active = some 0 ∧ s.hlp.receiver = .hunt ∧ s.fseq.sweep = none) ∧
    captureOrder.started = true ∧
    (((held .halted).sched .a).held = some .halted ∧ ((held .removed).sched .a).held = some .removed) ∧
    ((pend.sched .a).held = none ∧ (pend.ticket 0).cancelPending = true) ∧
    (∀ last ∈ [2, 3], ((range last).ticket 0).kind = some .range ∧ ((range last).ticket 0).slot = some 0 ∧
      ((range last).ticket 0).current = some 1 ∧ ((range last).ticket 0).last = some last ∧
      ((range last).record 0 2).map (·.withdrawn) = some true ∧ (range last).record 0 3 = none) ∧
    ((1 < 3 ∧ 2 ≤ 2 ∧ ¬ 3 ≤ 2) ∧ (1 < 3 ∧ 2 ≤ 3 ∧ 3 ≤ 3)) := by decide +kernel

/-- HoldAndReadyTaken: HOLD standing over the path at gate A with no holder and no request, each of the five motions of deck A
deferred, threading and rewind with film in the gate and without; the
motions of an active ticket: a shuttle, an index run, a search. -/
theorem test_w_deferred :
    let waits (x : DeckState) (film : Bool) : State :=
      held (onOpa (fun o => { o with path := .atGate .a, moveTimer := none })
        (onPins .a (fun p => { p with filmInGate := film })
          (onDeck .a (fun k => { k with purpose := some .unmount }) (deckIn x .deferred))))
    let works (kind : TicketKind) (x : TicketState) (step : Machine.Step) (k : DeckState) : State :=
      onTicket 0 (fun t => { t with kind := some kind })
        (served x step (held (onOpa (fun o => { o with path := .atGate .a, moveTimer := none }) (deckIn k .deferred))))
    (∀ x ∈ [DeckState.shuttling, .indexing, .searching, .threading, .rewinding], ∀ film : Bool,
      let s := waits x film
      running s = true ∧ s.pins.hold = true ∧ s.opa.requests = ⟨false, false⟩ ∧ s.opa.wanted = none ∧
      s.opa.path = .atGate .a ∧ s.opa.holder = none ∧ (s.deck .a).motion = .deferred ∧
      (s.deck DeckId.a.other).motion ≠ .deferred ∧ (s.deck .a).state = x ∧ (s.sensors .a).filmInGate = film ∧
      schedIdle s = true ∧ s.fseq.sweep = none) ∧
    (∀ x ∈ [(TicketKind.locate, TicketState.moving, Machine.Step.shuttle, DeckState.shuttling),
        (.index, .indexing, .run, .indexing), (.locate, .searching, .search, .searching)],
      let s := works x.1 x.2.1 x.2.2.1 x.2.2.2
      running s = true ∧ s.opa.requests = ⟨false, false⟩ ∧ s.opa.wanted = none ∧ s.opa.path = .atGate .a ∧
      s.opa.holder = none ∧ (s.deck .a).motion = .deferred ∧ (s.deck .b).motion ≠ .deferred ∧ (s.deck .a).state = x.2.2.2 ∧
      (s.sched .a).active = some 0 ∧ (s.sched .a).step = some x.2.2.1) := by
  decide +kernel

/-- SearchCommandAndChoice and MatchedAndUnmatchedMarksTaken: the states of their VERIFIED clauses number their records as R65 does,
and the deck has the entry. -/
theorem test_w_numbered :
    (∀ x ∈ [DeckState.ready, .indexing], ∀ c ∈ [Condition.verified, .seen],
      let s := (twoRecords (mounted (deckIn x .moving))).setRecord 0 1 fun r => { r with condition := c }
      numberLaw s = true ∧ s.entryOf .a = some 0) := by decide +kernel

/-- EventsHaltDeck and FilmInGateClearedEndsRewind: the leader travel one count short of its limit in both states that seek the
leader; the two rewinds that a forward advance follows, with no stop taken. -/
theorem test_w_leaderAndAdvance :
    let near (s : State) : State := onDeck .a (fun k => { k with leaderTravel := 59999 }) s
    let seek := near (onDeck .a (fun k => { k with phase := some .advance }) (deckIn .threading .moving))
    let back := onDeck .a (fun k => { k with phase := some .rewind, travel := some .backward }) (deckIn .threading .moving)
    let remount := onDeck .a (fun k => { k with purpose := some .remount, travel := some .backward })
      (deckIn .rewinding .moving)
    (∀ s ∈ [seek, near (deckIn .identifying .moving)], running s = true ∧ s.power .a = true ∧ deckUnused s .a = true ∧
      59999 ≤ (s.deck .a).leaderTravel ∧ (s.deck .a).motion = .moving) ∧
    ((seek.deck .a).state = .threading ∧ (seek.deck .a).phase = some .advance) ∧
    (((near (deckIn .identifying .moving)).deck .a).state = .identifying ∧
      ((near (deckIn .identifying .moving)).deck .a).reading = none) ∧
    (∀ s ∈ [back, remount], running s = true ∧ (s.deck .a).motion = .moving ∧ (s.deck .a).stopping = false ∧
      (after (.filmInGateCleared .a) s).isSome = true) ∧
    ((back.deck .a).state = .threading ∧ (back.deck .a).phase = some .rewind) ∧
    ((remount.deck .a).state = .rewinding ∧ (remount.deck .a).purpose = some .remount) := by decide +kernel

/-- A mark of deck A in progress, opened at a position, of a width. -/
def passing (opening width : Nat) (s : State) : State :=
  onMark .a (fun m => { m with accepted := some true, inProgress := some ⟨.forward, width, opening⟩ }) s

/-- MarksClassifiedAndCounted, where a record can match: noise, a fault, and a mark 40 and 41 positions from a record in READY and
in SEARCHING; in a run, beyond the extent with and without a free record, and at the extent. -/
theorem test_w_closingEdges :
    let at' (x : DeckState) : State := onDeck .a (fun k => { k with counter := 150 }) (twoRecords (mounted (deckIn x .moving)))
    let few : State := { at' .indexing with freeCount := 0 }
    let beyond (s : State) : State := passing 241 5 s
    let result (s : State) : MarkReport := (s.unmatched .a 0 .minor 241).2
    (∀ x ∈ [DeckState.ready, .shuttling, .indexing, .searching], ∀ w ∈ [1, 5, 61],
      let s := passing 140 w (at' x)
      running s = true ∧ (s.deck .a).state.matching = true ∧ s.entryOf .a = some 0 ∧ (s.mark .a).accepted ≠ some false ∧
      (s.mark .a).inProgress = some ⟨.forward, w, 140⟩) ∧
    (classify Params.default 1 = .noise ∧ classify Params.default 5 = .mark .minor ∧ classify Params.default 61 = .fault) ∧
    (nearest 140 ((at' .ready).chain 0) = some (recordOf 1 100) ∧ inWindow (at' .ready) (recordOf 1 100) 140 = true ∧
      (recordOf 1 100).position ≤ 2097151) ∧
    (nearest 241 ((at' .ready).chain 0) = some (recordOf 2 200) ∧ inWindow (at' .ready) (recordOf 2 200) 241 = false) ∧
    (result (beyond (at' .indexing)) = .newRecord 3 241 ∧ result (beyond few) = .exhausted ∧
      result (beyond (at' .ready)) = .none) := by decide +kernel

/-- MarksClassifiedAndCounted, the noting of a search and the report: a mark of the search record's class at either end of the span
and outside it, nearer than the candidate and as near; no active ticket, one in INDEXING in RUN, TRACK and CLOSING with its target
and without, with a cancel pending; a stop of a motion begun and one deferred. -/
theorem test_w_notesAndReports :
    let seeks := onMark .a (fun m => { m with searchReference := some 100, searchCandidate := some 104 })
      (onPool .a (fun q => { q with searchRecord := some 1 })
        (onDeck .a (fun k => { k with search := some ⟨96, 400, true⟩ }) (twoRecords (mounted (deckIn .searching .moving)))))
    let runs (step : Machine.Step) (target : Option Nat) : State :=
      onSched .a (fun c => { c with indexTarget := target }) (served .indexing step (deckIn .indexing .moving))
    ((seeks.pool .a).searchRecord = some 1 ∧ (seeks.deck .a).search = some ⟨96, 400, true⟩ ∧
      (seeks.mark .a).searchReference = some 100 ∧ seeks.record 0 1 = some (recordOf 1 100) ∧
      (recordOf 1 100).cls = .minor ∧ ((State.reset).pool .a).searchRecord = none) ∧
    ((97 : Int) - 100).natAbs < ((104 : Int) - 100).natAbs ∧ ¬ ((96 : Int) - 100).natAbs < ((104 : Int) - 100).natAbs ∧
    (State.reset.sched .a).active = none ∧
    (∀ step ∈ [Machine.Step.run, .track, .closing], ∀ target ∈ [none, some 3], let s := runs step target
      (s.sched .a).active = some 0 ∧ (s.ticket 0).state = .indexing ∧ (s.ticket 0).cancelPending = false ∧
      (s.sched .a).step = some step ∧ (s.sched .a).indexTarget = target) ∧
    ((served .moving .shuttle).ticket 0).state ≠ .indexing ∧
    (((runs .run (some 3)).callTrack .a 3 300).sched .a).step = some .run ∧
    (∀ x ∈ [DeckState.shuttling, .indexing, .searching], ∀ m ∈ [Motion.moving, .deferred],
      ((deckIn x m).deck .a).state = x ∧ ((deckIn x m).deck .a).motion = m) := by decide +kernel

/-- ChoiceByPriorityAndOrder, the start of work: a READY deck that chooses; an INDEX with its target at the frame count and one
above it and to the end, the entry COMPLETE and not; a FETCH at the count and one beyond it; entries with records and without; the
arrival in APPROACH at both edges of the band; a run that begins and one at the film end. -/
theorem test_w_beginWork :
    let waits (x : TicketKind) (first current : Option Nat) (complete : Bool) : State :=
      onTicket 1 (fun t => { t with kind := some x, first := first, current := current })
        (waitsToo { onEntry 0 (fun e => { e with complete := complete }) (twoRecords (mounted (deckIn .ready))) with
          admission := [1] })
    let approach (c : Nat) : State := onDeck .a (fun k => { k with counter := c, target := some 200 })
      (served .indexing .approach (deckIn .shuttling .moving))
    let ready (film : Bool) (s : State) : State := onPins .a (fun p => { p with filmEnd := film }) s
    (∀ b : Bool, ∀ x ∈ [(TicketKind.index, some 2, none), (.index, some 3, none), (.index, none, none),
        (.fetch, some 1, some 2), (.range, some 1, some 3)],
      let s := waits x.1 x.2.1 x.2.2 b
      (s.deck .a).state = .ready ∧ (s.sched .a).active = none ∧ s.orderFor .a = false ∧ s.entryOf .a = some 0 ∧
      s.choose 0 = some 1 ∧ (s.ticket 1).kind = some x.1 ∧ (s.ticket 1).first = x.2.1 ∧ (s.ticket 1).current = x.2.2 ∧
      (s.entry 0).complete = b ∧ (s.entry 0).frameCount = 2) ∧
    (((waits .index none none false).chain 0).getLast? = some (recordOf 2 200) ∧ (mounted).chain 0 = []) ∧
    (∀ c ∈ [196, 204], let s := approach c
      running s = true ∧ (s.sched .a).active ≠ none ∧ (s.sched .a).step = some .approach ∧ (s.deck .a).state = .shuttling ∧
      (s.deck .a).motion = .moving ∧ (s.deck .a).stopping = false ∧ (s.deck .a).target = some 200 ∧
      (s.deck .a).counter ≤ 200 + 4 ∧ 200 ≤ (s.deck .a).counter + 4) ∧
    (∀ film : Bool, ∀ reached : Bool, ∀ pending : Bool,
      let s := ready film (onSched .a (fun c => { c with targetReached := reached })
        (onTicket 0 (fun t => { t with cancelPending := pending }) (served .indexing .approach (deckIn .ready))))
      (s.deck .a).state = .ready ∧ (s.sensors .a).filmEnd = film ∧ (s.sched .a).active = some 0 ∧ s.entryOf .a = some 0 ∧
      (s.sched .a).targetReached = reached ∧ (s.ticket 0).cancelPending = pending) := by decide +kernel

/-- ChoiceByPriorityAndOrder, MOVING at a READY deck: a record beyond the arrival band and within it, its arrival confirmed and not,
for a LOCATE and a FETCH; a lens that travels to the setpoint and one that stands there. -/
theorem test_w_movingAtOnce :
    let ready (c : Nat) (x : TicketKind) (found : Option Nat) : State := onTicket 0 (fun t => { t with kind := some x })
      (onPool .a (fun q => { q with found := found })
        (onDeck .a (fun k => { k with counter := c }) (served .moving .shuttle (deckIn .ready))))
    let focused (l : Lens) : State := ((ready 100 .fetch none).setRecord 0 1 fun r => { r with setpoint := some 2176 }).setLens .a l
    (∀ c ∈ [95, 96, 105], ∀ x ∈ [TicketKind.locate, .fetch], ∀ found ∈ [none, some 1], let s := ready c x found
      (s.ticket 0).slot = some 0 ∧ (s.ticket 0).current = some 1 ∧ s.record 0 1 = some (recordOf 1 100) ∧
      (s.deck .a).state = .ready ∧ (s.ticket 0).kind = some x ∧
      (s.shuttle .a 100 (some 1)).2.map (·.confirmed) = if c = 96 then some found.isSome else none) ∧
    (∀ l ∈ [Lens.idle 2048, .idle 2176], let s := focused l
      (s.deck .a).state = .ready ∧ s.params.policy ≠ .off ∧ (s.sched .a).active = some 0 ∧
      (s.record 0 1).map (·.setpoint) = some (some 2176)) ∧
    (((focused (.idle 2048)).lensMove .a 2176 .scheduler).2 = none ∧
      ((focused (.idle 2176)).lensMove .a 2176 .scheduler).2 = some 2176) := by decide +kernel

/-- SweepStepOrdered, the focus stage: a FOCUS ticket; each policy with and without a setpoint; SWEEP_WAIT and CAPTURE_WAIT without
tenure, with it, with READY low, with a sweep or an order in the way; a step whose lens travels and one whose lens stands there,
with a pause and without. -/
theorem test_w_focusStage :
    let focus (x : TicketKind) (p : Policy) (point : Option Nat) : State :=
      let s := (onTicket 0 (fun t => { t with kind := some x }) (served .moving .shuttle (deckIn .ready))).setRecord 0 1 fun r =>
        { r with setpoint := point }
      { s with params := { s.params with policy := p } }
    let waits (step : Machine.Step) (holder : Option DeckId) (ready : Bool) : State :=
      let s := onSched .a (fun c => { c with capturePos := some 2048 })
        (onOpa (fun o => { o with path := .atGate .a, holder := holder, moveTimer := none })
          (served (if step = .sweepWait then .focusing else .exposing) step (deckIn .ready)))
      { s with pins := { s.pins with ready := ready } }
    (∀ x ∈ [TicketKind.focus, .fetch, .range], ∀ p ∈ [Policy.off, .onDemand, .track], ∀ point ∈ [none, some 2176],
      let s := focus x p point
      (s.ticket 0).slot = some 0 ∧ (s.ticket 0).current = some 1 ∧ (s.record 0 1).map (·.setpoint) = some point ∧
      (s.ticket 0).kind = some x ∧ s.params.policy = p ∧ (s.sched .a).active = some 0) ∧
    (∀ step ∈ [Machine.Step.sweepWait, .captureWait], ∀ holder ∈ [none, some DeckId.a], ∀ ready : Bool,
      let s := waits step holder ready
      (s.sched .a).active = some 0 ∧ s.entryOf .a = some 0 ∧ (s.ticket 0).current = some 1 ∧ (s.ticket 0).slot = some 0 ∧
      (s.sched .a).step = some step ∧ (s.sched .a).capturePos = some 2048 ∧ s.opa.holder = holder ∧ s.pins.ready = ready ∧
      s.fseq.sweep = none ∧ s.hlp.order = none ∧ (s.deck .a).state = .ready ∧ (s.sched .a).held = none ∧
      (s.ticket 0).cancelPending = false) ∧
    ((sweptBy true .lens (waits .sweepWait (some .a) true)).fseq.sweep ≠ none ∧
      (onHlp (fun h => { h with order := some captureOrder }) (waits .captureWait (some .a) true)).hlp.order ≠ none) ∧
    (0 ∈ Plan.default.enabledSteps ∧ (∀ m ∈ Plan.default.enabledSteps, 0 ≤ m) ∧
      Plan.default.steps.toList[0]? = some ⟨true, -96⟩ ∧ Plan.default.pause ≠ 0) ∧
    (((waits .sweepWait (some .a) true).setLens .a (.idle 1952)).lensMove .a ((2048 : Int) + -96) .sequencer).2 = some 1952 ∧
    (((waits .sweepWait (some .a) true).setLens .a (.idle 2048)).lensMove .a ((2048 : Int) + -96) .sequencer).2 = none := by
  decide +kernel

/-- The capstan on small states: forward from the end of a rewind phase and from the turn of a search, whichever way the film still
travels; a shuttle that must reverse brakes (R9, R14, R17). -/
theorem test_capstanTurns :
    ((after (.filmInGateCleared .a) (onDeck .a (fun k => { k with phase := some .rewind, travel := some .backward })
      (deckIn .threading .moving))).map fun t => t.capstan .a) = some (.drive .forward) ∧
    ((after (.searchLowEndTurn .a) (onDeck .a (fun k => { k with search := some ⟨20, 400, false⟩, counter := 20, travel := some .backward })
      (deckIn .searching .moving))).map fun t => t.capstan .a) = some (.drive .forward) ∧
    (onDeck .a (fun k => { k with target := some 90, counter := 50, travel := some .backward })
      (deckIn .shuttling .moving)).capstan .a = .brake := by decide +kernel

/-- EncoderCountsTaken: counts clamped at either bound, in READY and in a run, with no mark in progress, with one that goes on and
with one that the count abandons. -/
theorem test_w_clampedCounts :
    let clamped (x : DeckState) (m : Option MarkInProgress) (c : Nat) : State :=
      onMark .a (fun k => { k with inProgress := m }) (onPool .a (fun q => { q with crossing := [⟨1, false, false⟩] })
        (onDeck .a (fun k => { k with counter := c }) (twoRecords (mounted (deckIn x .moving)))))
    (∀ x ∈ [DeckState.ready, .indexing], ∀ m ∈ [none, some ⟨Direction.forward, 3, 0⟩, some ⟨.backward, 3, 0⟩],
      let s := clamped x m 0
      running s = true ∧ (s.deck .a).state.matching = true ∧ s.entryOf .a = some 0 ∧ (s.deck .a).counter = 0 ∧
      (s.mark .a).inProgress = m) ∧
    (let s := clamped .indexing none 2097151
     (s.deck .a).motion ≠ .deferred ∧ (s.pool .a).exhausted = false ∧ (s.entry 0).extent < 2097151 - 1) ∧
    (after (.encoderCount .a .backward) (clamped .ready none 0)).map (fun t => ((t.pool .a).crossing, t.chain 0)) =
      some ([⟨1, false, false⟩], [recordOf 1 100, recordOf 2 200]) ∧
    (after (.encoderCount .a .backward) (clamped .ready (some ⟨.forward, 3, 0⟩) 0)).map
      (fun t => ((t.pool .a).crossing, (t.record 0 1).map (·.missCount))) = some ([], some 1) := by decide +kernel

/-- RecordReadsAnswered: READ FRAMES of two records, and of the second alone; a record that fills its fields.
LinkReadsAndEventsAnswered: no sweep result, and one with two figures, beside a sweep in progress. -/
theorem test_w_layouts :
    let full := { recordOf 2 200 with
      withdrawn := true, setpoint := some 4095, source := some .host, figure := some 9, missCount := 3, condition := .verified }
    let s := (twoRecords (mounted State.reset)).setChain 0 [recordOf 1 100, full]
    let w : State := { sweeping .lens (.idle 5) with fseq := { (sweeping .lens (.idle 5)).fseq with
      result := some ⟨.b, 3, 2, 2048, 2, [⟨3, 2000, 9⟩, ⟨4, 2032, 7⟩], 3, .soft, some 2000⟩ } }
    linkIdle s = true ∧ ((s.chain 0).drop 0).take 2 = [recordOf 1 100, full] ∧ ((s.chain 0).drop 1).take 2 = [full] ∧
    (after (.readFrames 0 1 2) s).any (fun t => t.rlp.processing.any fun p => p.answer.data.length == 34) = true ∧
    (linkIdle State.reset = true ∧ State.reset.fseq.result = none ∧ State.reset.fseq.sweep = none) ∧
    (linkIdle w = true ∧ w.fseq.result.isSome = true ∧ w.fseq.sweep.isSome = true) ∧
    (after .readSweepResult w).any (fun t => t.rlp.processing.any fun p =>
      p.answer.data == [0x3B, 3, 0, 2, 8, 0, 2, 3, 2, 0x07, 0xD0, 3, 0, 9, 4, 0, 7]) = true := by decide +kernel

/-- AdmissionsTaken: what R147 asks on. An active FETCH in each state that needs the path, a track sweep alone, a cancel pending, a
failure held, no active ticket; each with the request flag up and down, and with tenure held and not. -/
theorem test_w_requests :
    let asks (b : Bool) (h : Option DeckId) (s : State) : State :=
      onOpa (fun o => { o with path := .atGate .a, holder := h, requests := ⟨b, false⟩, moveTimer := none }) s
    let wants := [served .moving .shuttle (deckIn .shuttling), served .searching .search (deckIn .searching),
      served .focusing .sweepWait (deckIn .ready), served .exposing .captureWait (deckIn .ready)]
    let track := tracked false true (served .indexing .track (deckIn .ready))
    let pend := onTicket 0 (fun t => { t with cancelPending := true }) (served .moving .shuttle (deckIn .shuttling))
    let failed (s : State) : State := onSched .a (fun c => { c with held := some .halted }) s
    (∀ b : Bool, ∀ h ∈ [none, some DeckId.a],
      (∀ w ∈ wants, let s := asks b h w
        s.opa.requests.get .a = b ∧ s.opa.holder = h ∧ (s.sched .a).active = some 0 ∧ (s.sched .a).held = none ∧
        (s.ticket 0).kind = some .fetch ∧ (s.ticket 0).cancelPending = false ∧ (s.requestAction .a).isNone = b ∧
        ((s.showPathWait .a).ticket 0).pathWait = h.isNone) ∧
      (let s := asks b h track
       (s.sched .a).track.isSome = true ∧ (s.ticket 0).state = .indexing ∧ (s.requestAction .a).isNone = b ∧
       ((s.showPathWait .a).ticket 0).pathWait = false) ∧
      (∀ w ∈ [pend, failed track, State.reset], let s := asks b h w
        s.opa.requests.get .a = b ∧ (s.requestAction .a).isNone = !b)) := by decide +kernel

/-- AdmissionsTaken: an idle scheduler with one ticket to choose, a LOCATE or a FETCH, at a deck READY five off the record; the path
moving, set at the gate and set at the other's; HOLD clear and standing. One count nearer the clause has no case. -/
theorem test_w_settles :
    let idle (kind : TicketKind) (p : PathState) (h : Bool) (counter : Nat) : State :=
      onTicket 0 (fun t => { t with state := .queued, kind := some kind, slot := some 0, first := some 1, current := some 1 })
        (twoRecords (mounted (onDeck .a (fun k => { k with state := .ready, counter := counter })
          { onOpa (fun o => { o with path := p }) with
            admission := [0], pins := { State.reset.pins with hold := h }, params := { State.reset.params with policy := .off } })))
    (∀ kind ∈ [TicketKind.locate, .fetch], ∀ p ∈ [PathState.moving .a, .atGate .a, .atGate .b], ∀ h : Bool,
      ∀ counter ∈ [95, 105],
      let s := idle kind p h counter
      s.scheds = ⟨Sched.reset, Sched.reset⟩ ∧ s.opa.requests = ⟨false, false⟩ ∧ (s.deck .a).state = .ready ∧
      s.orderFor .a = false ∧ s.entryOf .a = some 0 ∧ s.choose 0 = some 0 ∧ (s.ticket 0).slot = some 0 ∧
      (s.ticket 0).current = some 1 ∧ s.record 0 1 = some (recordOf 1 100) ∧ 1 ≤ (s.entry 0).frameCount ∧
      (counter + 4 < 100 ∨ 100 + 4 < counter) ∧ (s.deck DeckId.a.other).state ≠ .ready ∧ (s.ticket 0).kind = some kind ∧
      (s.ticket 0).cancelPending = false ∧ (recordOf 1 100).setpoint = none ∧
      (s.settle.ticket 0).state = .moving ∧ (s.settle.deck .a).state = .shuttling ∧
      (s.settle.opa.requests.get .a = (kind == .fetch)) ∧
      (s.settle.ticket 0).pathWait = (kind == .fetch && p != .atGate .a)) ∧
    ¬ (96 + 4 < 100 ∨ 100 + 4 < 96) := by decide +kernel

/-- AdmissionsTaken: the chain of a deck's actions, with a ticket to choose and without, and with a stage to go on. -/
theorem test_w_deckActions :
    let queued := waitsToo { twoRecords (mounted (deckIn .ready)) with admission := [1] }
    let stage := served .indexing .track (deckIn .ready)
    (queued.deckAction .a).isSome = true ∧ queued.choose 0 = some 1 ∧ queued.nextAction.isSome = true ∧
    (stage.deckAction .a).isSome = true ∧ (stage.continueStage .a).isSome = true ∧
    State.reset.nextAction = none ∧ State.reset.deckAction .a = none := by decide +kernel

/-- SweepWriteAndCompletion: the end of a pass with its best at the first, at the last and at a middle step of seven, in the first
pass and the second, with extension on and off, and with one step enabled. -/
theorem test_w_passEnds :
    let w (p step : Nat) : Sweep := { sweepIn (.order 2048) with
      pass := p, figures := [⟨0, 1952, if step = 0 then 9 else 1⟩, ⟨3, 2048, if step = 3 then 9 else 1⟩,
        ⟨6, 2144, if step = 6 then 9 else 1⟩] }
    let withPlan (x : Bool) (one : Bool) : State :=
      { State.reset with fseq := { State.reset.fseq with plan :=
        { Plan.default with
          extension := x, steps := if one then (Vector.replicate 12 ⟨false, 0⟩).set 3 ⟨true, 0⟩ else Plan.default.steps } } }
    (∀ step ∈ [0, 3, 6], ∀ p ∈ [1, 2], (bestFigure (w p step).figures).map (·.step) = some step) ∧
    (∀ x : Bool, (withPlan x false).fseq.plan.enabledSteps = [0, 1, 2, 3, 4, 5, 6] ∧
      (withPlan x true).fseq.plan.enabledSteps = [3]) ∧
    (∀ step ∈ [0, 6], (((withPlan true false).passEnded (w 1 step)).1.fseq.sweep.map fun v => (v.pass, v.step)) = some (2, 0)) ∧
    (∀ x ∈ [(true, 1, 3), (true, 2, 0), (false, 1, 6)],
      ((withPlan x.1 false).passEnded (w x.2.1 x.2.2)).1.fseq.sweep = none) ∧
    ((withPlan true true).passEnded { w 1 3 with figures := [⟨3, 2048, 9⟩] }).1.fseq.sweep = none := by decide +kernel

/-- ArbitrationAndTenureDecided: a request up and down, the holder with its job and without, and another; the first request at FAULT;
a claim on the path given up. -/
theorem test_w_requestFlags :
    let p (h : Option DeckId) (j b c : Bool) (x : PathState) : State :=
      onOpa fun o => { o with path := x, holder := h, job := j, requests := ⟨b, c⟩, moveTimer := none, wanted := some .a
                              faultFirst := some .a }
    (∀ b c : Bool, ∀ x ∈ [PathState.atGate .b, .moving .b, .fault .b],
      (∀ j : Bool, ∀ h ∈ [none, some DeckId.a, some .b], let s := p h j b c x
        s.opa.requests.get .a = b ∧ s.opa.holder = h ∧ s.opa.job = j ∧ s.opa.path = x ∧
        ((s.withdraw .a).opa.requests.get .a = false) ∧ ((s.raise .a).opa.requests.get .a = true)) ∧
      ((held (p none false b c x)).withdraw .a).opa.faultFirst = (if b then (if c then some .b else none) else some .a)) ∧
    (∀ j : Bool, (((p (some .a) j true true (.atGate .a)).closeTenure .a).opa.closing,
      ((p (some .a) j true true (.atGate .a)).closeTenure .a).opa.holder) = (j, some DeckId.a)) ∧
    ((p (some .b) false true true (.atGate .b)).closeTenure .a).opa.holder = some .b ∧
    (State.raise (held (onOpa fun o => { o with path := .fault .b, wanted := some .b })) .a).opa.faultFirst = some .a := by
  decide +kernel

/-- ArbitrationAndTenureDecided: each decision carried out. -/
theorem test_w_carriedOut :
    let p (x : PathState) (w : Option DeckId) (b c : Bool) : State :=
      onOpa (fun o => { o with path := x, holder := none, wanted := w, requests := ⟨b, c⟩, moveTimer := none })
    let at' (l m : Bool) (s : State) : State := { s with pins := { s.pins with limits := ⟨l, m⟩ } }
    let ordered (s : State) : State := onHlp (fun h => { h with order := some captureOrder }) s
    ((p (.atGate .a) none true false).opa.decide none = .grant .a ∧ (p (.atGate .a) none false true).opa.decide none = .want .b ∧
      (p (.atGate .a) (some .b) false false).opa.decide none = .clear ∧ (p (.moving .a) none true true).opa.decide none = .keep ∧
      (p (.fault .a) (some .b) true true).opa.decide none = .keep) ∧
    ((p (.atGate .a) none true false).arbitrateNow none).opa.holder = some .a ∧
    ((p (.atGate .a) (some .b) false false).arbitrateNow none).opa.wanted = none ∧
    (∀ x ∈ [p (.atGate .a) none false true, p (.fault .a) (some .b) false true, p (.moving .b) (some .b) false true],
      (x.arbitrateNow none).opa.path = .moving .b ∧ (x.arbitrateNow none).opa.moveTimer = some ⟨4000, 0⟩ ∧
      (∀ y ∈ [held x, ordered x],
        (y.arbitrateNow none).opa.path = x.opa.path ∧ (y.arbitrateNow none).opa.wanted = some .b) ∧
      ((at' false true x).arbitrateNow none).opa.holder = some .b) ∧
    ((at' false true (p (.fault .a) (some .b) false false)).arbitrateNow none).opa.path = .atGate .b ∧
    ((at' false true (p (.fault .a) (some .b) true false)).arbitrateNow none).opa.path = .moving .a ∧
    ((at' true true (p (.fault .a) (some .b) true false)).arbitrateNow none).opa.holder = some .a := by decide +kernel

/-- HoldAndReadyTaken: a move that waits at the other's gate, and at FAULT toward either gate, for HOLD; an order in flight too; the
limit open and made; the other deck's track sweep pending and not. -/
theorem test_w_moveBegins :
    let waits (x : PathState) (made ordered pending : Bool) : State :=
      let s := held (onOpa fun o => { o with path := x, wanted := some .a, requests := ⟨true, true⟩, moveTimer := none })
      let s := { s with pins := { s.pins with limits := ⟨made, false⟩ } }
      let s := if ordered then onHlp (fun h => { h with order := some captureOrder }) s else s
      if pending then onSched .b (fun c => { c with track := some ⟨1, 100, false, false⟩ }) s else s
    (∀ x ∈ [PathState.atGate .b, .fault .a, .fault .b], ∀ made ordered pending : Bool,
      let s := waits x made ordered pending
      running s = true ∧ (s.deck .a).motion ≠ .deferred ∧ (s.deck .b).motion ≠ .deferred ∧ s.opa.holder = none ∧ s.opa.wanted = some .a ∧
      s.opa.path = x ∧ s.opa.requests.get .a = true ∧ s.hlp.order.isSome = ordered ∧ s.pins.limits.get .a = made ∧
      (s.sched DeckId.a.other).track.any (fun tr => !tr.running) = pending ∧
      (after .holdReleased s).any (fun t => made || t.opa.path == (if ordered then x else .moving .a)) = true) := by decide +kernel

end Sys2Proof.Tests
end

section
/-! PROOFS. The seat contacts of a deck: what a change of a contact comes to, and the removal of a cartridge from SEATED (R6). -/

namespace Sys2Proof.Machine

/-! ## The level of a contact -/

@[simp] theorem DeckPins.contact_setContact (p : DeckPins) (c : Contact) (made : Bool) :
    (p.setContact c made).contact c = made := by
  cases c <;> rfl

theorem DeckPins.not_both_of_contact_open {p : DeckPins} {c : Contact} (h : p.contact c = false) :
    (p.seat1 && p.seat2) = false := by
  cases c with
  | seat1 => rw [show p.seat1 = false from h, Bool.false_and]
  | seat2 => rw [show p.seat2 = false from h, Bool.and_false]

/-! ## Detection -/

/-- With a contact open the seating time does not run, and the disagreement time runs where the contacts differ (R4, R5). -/
theorem Deck.startDetection_of_contact_open (k : Deck) {p : DeckPins} {c : Contact} (h : p.contact c = false) :
    k.startDetection p.seat1 p.seat2 =
      { k with seating := none, disagreement := if p.seat1 = p.seat2 then none else some ⟨1000, 0⟩ } := by
  simp [Deck.startDetection, DeckPins.not_both_of_contact_open h, Timer.start, Config.disagreementTime, ite_not]

/-- Detection begun at a deck that has just changed. -/
theorem detect_modDeck (s : State) (d : DeckId) (f : Deck → Deck) :
    (s.modDeck d f).detect d =
      s.setDeck d ((f (s.deck d)).startDetection (s.sensors d).seat1 (s.sensors d).seat2) := by
  simp [State.detect, State.modDeck]

/-! ## A contact that changes -/

theorem exec_seatContactChange (d : DeckId) (c : Contact) (made : Bool) (s : State) :
    exec (.seatContactChange d c made) s = .next (seatContact d c made s) := rfl

/-- A contact that changes its level while the part runs is taken by the deck with the new level in place (R4 to R7). -/
theorem seatContact_of_changed {s : State} {d : DeckId} {c : Contact} {made : Bool} (hrun : running s = true)
    (hc : (s.sensors d).contact c ≠ made) : seatContact d c made s =
      (s.setSensors d ((s.sensors d).setContact c made)).seatChanged d made := by
  have hr : (s.modSensors d (·.setContact c made)).pins.resetAsserted = false := by
    simpa [running, State.modSensors] using hrun
  rw [seatContact, if_neg hc, live_of_running hr, State.modSensors]

/-! ## Removal from SEATED -/

theorem seatChanged_open_of_seated {s : State} {d : DeckId} (h : (s.deck d).state = .seated) :
    s.seatChanged d false = s.removeSeated d := by
  simp [State.seatChanged, h]

/-- The removal changes the deck's own items alone (R6). -/
theorem removeSeated_of_contact_open {s : State} {d : DeckId} {c : Contact} (h : (s.sensors d).contact c = false) :
    s.removeSeated d = s.setDeck d { s.deck d with
      state := .empty, kind := none, counter := 0, anchored := false
      events := { (s.deck d).events with removed := true }
      seating := none
      disagreement := if (s.sensors d).seat1 = (s.sensors d).seat2 then none else some ⟨1000, 0⟩ } := by
  rw [State.removeSeated, detect_modDeck, Deck.startDetection_of_contact_open _ h]
  rfl

/-- Settles O33: the opened contact reaches a deck in SEATED, whose removal is `removeSeated_of_contact_open`. -/
theorem removalFromSeated : Obligations.RemovalFromSeated := by
  intro s d c hrun hseated hmade k p
  have hchanged : (s.sensors d).contact c ≠ false := by simp [hmade]
  have hstate : ((s.setSensors d p).deck d).state = .seated := by rw [State.deck_setSensors, hseated]
  have hopen : ((s.setSensors d p).sensors d).contact c = false := by
    rw [State.sensors_setSensors_self, DeckPins.contact_setContact]
  rw [exec_seatContactChange, seatContact_of_changed hrun hchanged, seatChanged_open_of_seated hstate,
    removeSeated_of_contact_open hopen, State.sensors_setSensors_self]
  rfl

end Sys2Proof.Machine
end

section
/-! PROOFS. A request taken whole on an idle link, the reading of a slot number, and RETIRE ROLL (R62, R55). -/

namespace Sys2Proof.Machine

/-! ## A request and its reply -/

/-- On an idle link a request whose body reads back is answered with what its owner returns (R173, R174). -/
theorem receiveRequest_of_reply {s t : State} {r : Request} {c : ResultCode} {data : List Byte}
    (hidle : linkIdle s = true) (hwf : r.wf = true) (hlen : r.body.length ≤ 255) (hparse : parseBody r.body = .ok r)
    (hreply : carryOut r s = ⟨t, c, data⟩) : receiveRequest r s = .next (answered t r c data) := by
  rw [receiveRequest_of_idle hidle hwf hlen, takeMessage_of_parsed hparse, hreply, send_eq_answered]

/-! ## Slot numbers -/

/-- A slot number above 15 names no entry (R188). -/
theorem slotOf_of_ge {slot : Byte} (h : 16 ≤ slot.toNat) : slotOf slot = none :=
  dif_neg (Nat.not_lt.mpr h)

theorem slotOf_of_toNat_eq {slot : Byte} {k : Slot} (h : slot.toNat = k.val) : slotOf slot = some k := by
  have hlt : slot.toNat < 16 := h ▸ k.isLt
  rw [slotOf, dif_pos hlt, Option.some.injEq]
  exact Fin.ext h

/-! ## RETIRE ROLL -/

theorem retireRoll_of_no_slot (s : State) {slot : Byte} (h : slotOf slot = none) :
    s.retireRoll slot = s.refuse .badArgument := by
  rw [State.retireRoll, h]

/-- The checks of R62 in their order, on the entry that the slot number names. -/
theorem retireRoll_of_slot (s : State) {slot : Byte} {k : Slot} (h : slotOf slot = some k) :
    s.retireRoll slot =
      if (s.entry k).state = .free then s.refuse .notListed
      else if (s.entry k).state = .mounted then s.refuse .state
      else if (s.entry k).ticketCount > 0 then s.refuse .held
      else (s.freeEntry k).answer [] := by
  rw [State.retireRoll, h]

/-- A LISTED entry passes the checks of its state, and its ticket count decides. -/
theorem retireRoll_of_listed {s : State} {slot : Byte} {k : Slot} (h : slotOf slot = some k)
    (hlisted : (s.entry k).state = .listed) :
    s.retireRoll slot = if (s.entry k).ticketCount > 0 then s.refuse .held else (s.freeEntry k).answer [] := by
  rw [retireRoll_of_slot s h, if_neg (by simp [hlisted]), if_neg (by simp [hlisted])]

/-- RETIRE ROLL sent whole on an idle link is answered with its reply. -/
theorem exec_retireRoll_of_reply {s t : State} {slot : Byte} {c : ResultCode} (hidle : linkIdle s = true)
    (hreply : s.retireRoll slot = ⟨t, c, []⟩) :
    exec (.retireRoll slot) s = .next (answered t (.retireRoll slot) c []) :=
  receiveRequest_of_reply (r := .retireRoll slot) hidle rfl (Nat.le_of_ble_eq_true rfl) rfl hreply

/-- Settles O21: each outcome on an entry is a branch of `retireRoll_of_slot`, and the state it leaves is that of `State.freeEntry`. -/
theorem retireRollTaken : Obligations.RetireRollTaken := by
  intro s slot hidle does
  refine ⟨fun hge => exec_retireRoll_of_reply hidle (retireRoll_of_no_slot s (slotOf_of_ge hge)), ?_⟩
  intro k hk e
  have hslot := slotOf_of_toNat_eq hk
  refine ⟨fun hfree => ?free, fun hmounted => ?mounted, fun hlisted htickets => ?held, fun hlisted htickets => ?freed⟩
  case free =>
    exact exec_retireRoll_of_reply hidle (by rw [retireRoll_of_slot s hslot, if_pos hfree]; rfl)
  case mounted =>
    have not_free : ¬ e.state = .free := by simp [hmounted]
    exact exec_retireRoll_of_reply hidle (by rw [retireRoll_of_slot s hslot, if_neg not_free, if_pos hmounted]; rfl)
  case held =>
    exact exec_retireRoll_of_reply hidle (by rw [retireRoll_of_listed hslot hlisted, if_pos htickets]; rfl)
  case freed =>
    have no_ticket : ¬ e.ticketCount > 0 := by simp [htickets]
    exact exec_retireRoll_of_reply hidle (by rw [retireRoll_of_listed hslot hlisted, if_neg no_ticket]; rfl)

end Sys2Proof.Machine
end

section
/-! PROOFS. The reading of a ticket number, final tickets, and COLLECT (R143, R124). -/

namespace Sys2Proof.Machine

/-! ## Ticket numbers -/

/-- A ticket number above 15 names no ticket (R188). -/
theorem ticketOf_of_ge {b : Byte} (h : 16 ≤ b.toNat) : ticketOf b = none :=
  dif_neg (Nat.not_lt.mpr h)

theorem ticketOf_of_toNat_eq {b : Byte} {t : TicketNo} (h : b.toNat = t.val) : ticketOf b = some t := by
  have hlt : b.toNat < 16 := h ▸ t.isLt
  rw [ticketOf, dif_pos hlt, Option.some.injEq]
  exact Fin.ext h

/-! ## Final tickets -/

/-- The final states are DONE, FAILED and CANCELLED (R126). -/
theorem TicketState.isFinal_iff {x : TicketState} :
    x.isFinal = true ↔ x = .done ∨ x = .failed ∨ x = .cancelled := by
  cases x <;> simp [TicketState.isFinal]

/-- The ticket cause of the attention line ceases exactly when no ticket is final (R176). -/
theorem finalWaiting_eq_false_iff {s : State} :
    s.finalWaiting = false ↔ ∀ n, (s.ticket n).state.isFinal = false := by
  simp [State.finalWaiting, mem_allTickets]

/-- The only final ticket made FREE leaves none final. -/
theorem finalWaiting_setTicket_free {s : State} {t : TicketNo}
    (h : ∀ n, n ≠ t → (s.ticket n).state.isFinal = false) : (s.setTicket t Ticket.free).finalWaiting = false := by
  rw [finalWaiting_eq_false_iff]
  intro n
  by_cases hn : n = t
  · rw [hn, State.ticket_setTicket_self]
    rfl
  · rw [State.ticket_setTicket_of_ne s Ticket.free hn]
    exact h n hn

/-! ## COLLECT -/

theorem collectTicket_of_no_ticket (s : State) {b : Byte} (h : ticketOf b = none) :
    s.collectTicket b = s.refuse .badArgument := by
  rw [State.collectTicket, h]

/-- The ticket that the number names is collected where it is final, and refused elsewhere (R143). -/
theorem collectTicket_of_ticket (s : State) {b : Byte} {t : TicketNo} (h : ticketOf b = some t) :
    s.collectTicket b =
      if (s.ticket t).state.isFinal then (s.setTicket t Ticket.free).answer (ticketData t (s.ticket t))
      else s.refuse .state := by
  rw [State.collectTicket, h]

/-- COLLECT sent whole on an idle link is answered with its reply. -/
theorem exec_collect_of_reply {s t : State} {b : Byte} {c : ResultCode} {data : List Byte} (hidle : linkIdle s = true)
    (hreply : s.collectTicket b = ⟨t, c, data⟩) : exec (.collect b) s = .next (answered t (.collect b) c data) :=
  receiveRequest_of_reply (r := .collect b) hidle rfl (Nat.le_of_ble_eq_true rfl) rfl hreply

/-- Settles O29: each outcome on a ticket is a branch of `collectTicket_of_ticket`, and the ticket it leaves is `Ticket.free`. -/
theorem collectFreesTicket : Obligations.CollectFreesTicket := by
  intro s b hidle
  refine ⟨fun hge => exec_collect_of_reply hidle (collectTicket_of_no_ticket s (ticketOf_of_ge hge)), ?_⟩
  intro t hb x final
  have hticket := ticketOf_of_toNat_eq hb
  have hfinal : (s.ticket t).state.isFinal = true ↔ final := TicketState.isFinal_iff
  refine ⟨fun hlive => ?refused, fun hdone => ⟨?collected, finalWaiting_setTicket_free⟩⟩
  case refused =>
    exact exec_collect_of_reply hidle (by rw [collectTicket_of_ticket s hticket, if_neg (mt hfinal.mp hlive)]; rfl)
  case collected =>
    exact exec_collect_of_reply hidle (by rw [collectTicket_of_ticket s hticket, if_pos (hfinal.mpr hdone)]; rfl)

end Sys2Proof.Machine
end

section
/-! PROOFS. A byte received on the request link (R169), and IDENTIFY (R177). -/

namespace Sys2Proof.Machine

/-! ## The receiver set -/

/-- Inside a message the gap is timed anew from the byte just received (R170). -/
theorem receive_of_ne_hunt (s : State) {r : Receiver} (h : r ≠ .hunt) :
    s.receive r = { s with rlp := { s.rlp with receiver := r, gapTimer := some ⟨10, 0⟩ } } := by
  rw [State.receive, if_neg h]
  rfl

theorem receive_hunt (s : State) :
    s.receive .hunt = { s with rlp := { s.rlp with receiver := .hunt, gapTimer := none } } := by
  rw [State.receive, if_pos rfl]

/-! ## A byte received, by the state of the receiver -/

theorem exec_requestByteReceived {s : State} (b : Byte) (h : running s = true) :
    exec (.requestByteReceived b) s = .next (requestByte b s) := by
  have not_reset : s.pins.resetAsserted = false := by simpa [running] using h
  calc exec (.requestByteReceived b) s
      = .next (live s (requestByte b)) := rfl
    _ = .next (requestByte b s) := by rw [live_of_running not_reset]

section
variable {s : State} {b : Byte}

theorem requestByte_of_hunt (h : s.rlp.receiver = .hunt) :
    requestByte b s = if b = 0xD5 then s.receive .length else s.setNoise := by
  rw [requestByte, h]
  rfl

theorem requestByte_of_length (h : s.rlp.receiver = .length) :
    requestByte b s = if b = 0 then (s.receive .hunt).setNoise else s.receive (.body b b.toNat []) := by
  rw [requestByte, h]

/-- A body byte is appended whatever its value, and the last one leads to CHECK. -/
theorem requestByte_of_body {len : Byte} {left : Nat} {got : List Byte} (h : s.rlp.receiver = .body len left got) :
    requestByte b s = if left ≤ 1 then s.receive (.check len (got ++ [b]) none)
      else s.receive (.body len (left - 1) (got ++ [b])) := by
  rw [requestByte, h]

theorem requestByte_of_check_first {len : Byte} {body : List Byte} (h : s.rlp.receiver = .check len body none) :
    requestByte b s = s.receive (.check len body (some b)) := by
  rw [requestByte, h]

/-- The second CRC byte completes the message, which goes to the buffer unchecked. -/
theorem requestByte_of_check_second {len high : Byte} {body : List Byte}
    (h : s.rlp.receiver = .check len body (some high)) :
    requestByte b s = (s.receive .hunt).placeMessage ⟨len, body, high ++ b⟩ := by
  rw [requestByte, h]
  rfl

end

/-- Settles O8: each state of the receiver is its equation of `requestByte`, and the state it enters that of `State.receive`. -/
theorem requestBytesReceived : Obligations.RequestBytesReceived := by
  intro s b hrun goes hunts
  rw [exec_requestByteReceived b hrun]
  have goes_eq {r : Receiver} (h : r ≠ .hunt) : s.receive r = goes r := receive_of_ne_hunt s h
  refine ⟨fun hr hb => ?noise, fun hr hb => ?lead, fun hr hb => ?length, fun len left got hr hleft => ?body,
    fun len got hr => ?lastOfBody, fun len body hr => ?firstOfCrc, fun len body high hr => ?complete⟩
  case noise =>
    rw [requestByte_of_hunt hr, if_neg hb]
    rfl
  case lead => rw [requestByte_of_hunt hr, if_pos hb, goes_eq (by nofun)]
  case length => rw [requestByte_of_length hr, if_neg hb, goes_eq (by nofun)]
  case body =>
    have not_last : ¬ left ≤ 1 := by omega
    rw [requestByte_of_body hr, if_neg not_last, goes_eq (by nofun)]
  case lastOfBody => rw [requestByte_of_body hr, if_pos (Nat.le_refl 1), goes_eq (by nofun)]
  case firstOfCrc => rw [requestByte_of_check_first hr, goes_eq (by nofun)]
  case complete => rw [requestByte_of_check_second hr, receive_hunt]

/-! ## IDENTIFY -/

/-- The part code, the revision and the four capacities, most significant byte first (R177). -/
theorem identifyData_eq : identifyData = [0x08, 0x40, 1, 16, 0x40, 0x00, 16, 12] := by
  decide

/-- IDENTIFY is carried out in any state, and leaves it as it is. -/
theorem carryOut_identify (s : State) : carryOut .identify s = ⟨s, .ok, identifyData⟩ := rfl

/-- Settles O13: a request on an idle link, answered by `carryOut_identify` with the data of `identifyData_eq`. -/
theorem identifyAnswered : Obligations.IdentifyAnswered := by
  intro s hidle
  have hreply := carryOut_identify s
  rw [identifyData_eq] at hreply
  exact receiveRequest_of_reply (r := .identify) hidle rfl (Nat.le_of_ble_eq_true rfl) rfl hreply

end Sys2Proof.Machine
end

section
/-! PROOFS. The law of the waiting message and the law of the tenure holder: every step keeps both (R172, R106). -/

namespace Sys2Proof.Machine

/-! ## Steps -/

/-- A step is a chain of the updates of `Reach`, or half a millisecond that passes. -/
theorem step_cases {s t : State} (h : step s = .next t) :
    t = tick s ∨ ∃ rest, Reach { s with pending := rest } t := by
  unfold step at h
  split at h
  · exact .inr ⟨_, Reach.exec h⟩
  · cases h
    exact .inl rfl

/-- A law that the updates of `Reach` and the passing of time keep, and that does not speak of the queue, is kept by every step. -/
theorem step_keeps {law : State → Prop} (hreach : ∀ s t, Reach s t → law s → law t) (htick : ∀ s, law s → law (tick s))
    (hpending : ∀ s rest, law s → law { s with pending := rest }) {s t : State} (h : step s = .next t) (hs : law s) :
    law t := by
  obtain rfl | ⟨rest, hr⟩ := step_cases h
  · exact htick s hs
  · exact hreach _ t hr (hpending s rest hs)

/-! ## The waiting message -/

theorem waitingLaw_iff {s : State} :
    waitingLaw s = true ↔ (s.rlp.waiting = none ∨ s.rlp.processing.isSome = true) := by
  simp [waitingLaw]

/-- The blocks behind the links leave the request link port as it is. -/
theorem Inner.rlp_eq {s t : State} (h : Inner s t) : t.rlp = s.rlp := by
  induction h with
  | refl => rfl
  | _ => assumption

/-- Each change of the request link port leaves a message that waits only behind one that is processed. -/
theorem Rlp.Moves.waiting {r x : Rlp} (h : Rlp.Moves r x) (hr : r.waiting = none ∨ r.processing.isSome = true) :
    x.waiting = none ∨ x.processing.isSome = true := by
  rcases h with hprocessing | hwaiting | ⟨hprocessing, hwaiting⟩
  · exact .inr hprocessing
  · exact .inl hwaiting
  · rwa [hprocessing, hwaiting]

theorem Reach.waitingLaw {s t : State} (h : Reach s t) (hs : waitingLaw s = true) : waitingLaw t = true := by
  rw [waitingLaw_iff] at hs ⊢
  induction h with
  | refl => exact hs
  | inner _ i ih => rwa [i.rlp_eq]
  | rlp _ x g ih => exact g.waiting ih
  | reset _ _ => exact .inl rfl
  | pins _ _ ih | deckPins _ _ ih | rate _ _ ih | params _ _ ih | plan _ _ ih => exact ih

/-! ## The tenure holder -/

/-- A holder exists only while the path is set to its gate (R106). -/
def Opa.HolderAtGate (o : Opa) : Prop := ∀ d, o.holder = some d → o.path = .atGate d

theorem holderLaw_iff {s : State} : holderLaw s = true ↔ s.opa.HolderAtGate := by
  unfold holderLaw Opa.HolderAtGate
  cases s.opa.holder <;> simp

theorem Opa.Moves.holderAtGate {o p : Opa} (h : Opa.Moves o p) (ho : o.HolderAtGate) : p.HolderAtGate := by
  intro d hd
  cases h with
  | keep hholder hpath => exact hpath ▸ ho d (hholder ▸ hd)
  | drop hholder _ => simp [hholder] at hd
  | free _ hholder => simp [hholder] at hd
  | ends hpath hholder => exact absurd (ho d (hholder ▸ hd)) (hpath d)
  | grant e _ hpath hholder =>
    obtain rfl : e = d := Option.some.inj (hholder ▸ hd)
    exact hpath

theorem Inner.holderAtGate {s t : State} (h : Inner s t) (hs : s.opa.HolderAtGate) : t.opa.HolderAtGate := by
  induction h with
  | opa _ x g ih => exact g.holderAtGate ih
  | refl => exact hs
  | _ => assumption

theorem Opa.holderAtGate_reset : Opa.reset.HolderAtGate := by
  intro d hd
  cases hd

theorem Reach.holderLaw {s t : State} (h : Reach s t) (hs : holderLaw s = true) : holderLaw t = true := by
  rw [holderLaw_iff] at hs ⊢
  induction h with
  | refl => exact hs
  | inner _ i ih => exact i.holderAtGate ih
  | reset _ _ => exact Opa.holderAtGate_reset
  | pins _ _ ih | deckPins _ _ ih | rate _ _ ih | params _ _ ih | plan _ _ ih | rlp _ _ _ ih => exact ih

/-- Settles O57: a step is a chain of updates (`step_cases`), each of which keeps the two laws. -/
theorem linkAndHolderLawsKept : Obligations.LinkAndHolderLawsKept := fun _ _ h =>
  ⟨step_keeps (law := fun s => waitingLaw s = true) (fun _ _ => Reach.waitingLaw) (fun _ hs => hs) (fun _ _ hs => hs) h,
    step_keeps (law := fun s => holderLaw s = true) (fun _ _ => Reach.holderLaw) (fun _ hs => hs) (fun _ _ hs => hs) h⟩

end Sys2Proof.Machine
end

section
/-! PROOFS. What a command can do to decks, lenses and records, said once with the guards that the laws of power and of records
need: `Guarded s t` is `Inner` and `Reach` together, with each change of a deck, of a lens and of a chain under its guard. Every
operation is such a chain of updates. -/

-- one theorem checked after another: fewer threads in a whole compile
set_option Elab.async false

namespace Sys2Proof.Machine

/-- A change of a deck outside the switching off of its power: the deck is powered afterwards, or it was not powered before and is
not anchored by the change (R1, R2). -/
def Deck.Changes (k x : Deck) : Prop :=
  x.state.powered = true ∨ (k.state.powered = false ∧ (x.anchored = true → k.anchored = true))

/-- Chains of updates under the guards of the laws: a deck changes as `Deck.Changes` says, or loses its power and is then
unanchored with its lens UNHOMED; a lens leaves UNHOMED only with power; a record is appended only to an entry in use. -/
inductive Guarded (s : State) : State → Prop where
  | refl : Guarded s s
  | aside {t u : State} (h : Guarded s t) (hdecks : u.decks = t.decks) (hlenses : u.lenses = t.lenses)
      (hentries : u.entries = t.entries) (hchains : u.chains = t.chains) (hfree : u.freeCount = t.freeCount) : Guarded s u
  | deck {t : State} (h : Guarded s t) (d : DeckId) (x : Deck) (g : Deck.Changes (t.deck d) x) : Guarded s (t.setDeck d x)
  | unpowered {t : State} (h : Guarded s t) (d : DeckId) (x : Deck) (g : x.anchored = false) :
      Guarded s ((t.setDeck d x).setLens d .unhomed)
  | lens {t : State} (h : Guarded s t) (d : DeckId) (x : Lens)
      (g : t.power d = true ∨ (t.lens d = .unhomed → x = .unhomed)) : Guarded s (t.setLens d x)
  | entry {t : State} (h : Guarded s t) (k : Slot) (x : Entry) (g : x.frameCount = (t.entry k).frameCount)
      (i : x.state = .free → (t.entry k).state = .free) : Guarded s (t.setEntry k x)
  | created {t : State} (h : Guarded s t) (k : Slot) (x : Entry) (g : (t.entry k).state = .free) (i : x.frameCount = 0) :
      Guarded s (t.setEntry k x)
  | freed {t : State} (h : Guarded s t) (k : Slot) : Guarded s (t.freeEntry k)
  | record {t : State} (h : Guarded s t) (k : Slot) (f : FrameRecord → FrameRecord) (g : ∀ r, (f r).frame = r.frame) :
      Guarded s (t.setChain k ((t.chain k).map f))
  | appended {t : State} (h : Guarded s t) (k : Slot) (p : Nat) (c : MarkClass) (cond : Condition) (sp : Option Nat)
      (g : t.freeCount ≠ 0) (i : (t.entry k).state ≠ .free) : Guarded s (t.append k p c cond sp)
  | reset {t : State} (h : Guarded s t) : Guarded s t.enterReset

/-! ## Updates of the other parts -/

section
variable {s₀ s : State} (h : Guarded s₀ s)
include h

theorem Guarded.mark (d : DeckId) (x : Mark) : Guarded s₀ (s.setMark d x) := h.aside rfl rfl rfl rfl rfl
theorem Guarded.pool (d : DeckId) (x : PoolDeck) : Guarded s₀ (s.setPool d x) := h.aside rfl rfl rfl rfl rfl
theorem Guarded.sched (d : DeckId) (x : Sched) : Guarded s₀ (s.setSched d x) := h.aside rfl rfl rfl rfl rfl
theorem Guarded.ticket (n : TicketNo) (x : Ticket) : Guarded s₀ (s.setTicket n x) := h.aside rfl rfl rfl rfl rfl
theorem Guarded.sensors (d : DeckId) (x : DeckPins) : Guarded s₀ (s.setSensors d x) := h.aside rfl rfl rfl rfl rfl
theorem Guarded.mapTickets (f : Ticket → Ticket) : Guarded s₀ (s.mapTickets f) := h.aside rfl rfl rfl rfl rfl
theorem Guarded.admission (x : List TicketNo) : Guarded s₀ { s with admission := x } := h.aside rfl rfl rfl rfl rfl
theorem Guarded.fseq (x : Fseq) : Guarded s₀ { s with fseq := x } := h.aside rfl rfl rfl rfl rfl
theorem Guarded.hlp (x : Hlp) : Guarded s₀ { s with hlp := x } := h.aside rfl rfl rfl rfl rfl
theorem Guarded.opa (x : Opa) : Guarded s₀ { s with opa := x } := h.aside rfl rfl rfl rfl rfl
theorem Guarded.rlp (x : Rlp) : Guarded s₀ { s with rlp := x } := h.aside rfl rfl rfl rfl rfl
theorem Guarded.pins (x : Pins) : Guarded s₀ { s with pins := x } := h.aside rfl rfl rfl rfl rfl

/-- A deck changed without a change of its state, and not anchored by the change. -/
theorem Guarded.deckKeep (d : DeckId) (x : Deck) (hstate : x.state = (s.deck d).state)
    (hanchored : x.anchored = true → (s.deck d).anchored = true) : Guarded s₀ (s.setDeck d x) := by
  refine h.deck d x ?_
  cases hp : (s.deck d).state.powered with
  | true => exact .inl (hstate ▸ hp)
  | false => exact .inr ⟨hp, hanchored⟩

/-- A deck changed that keeps its state and whether it is anchored. -/
theorem Guarded.modDeckKeep (d : DeckId) {f : Deck → Deck} (hstate : ∀ k, (f k).state = k.state := by exact fun _ => rfl)
    (hanchored : ∀ k, (f k).anchored = k.anchored := by exact fun _ => rfl) : Guarded s₀ (s.modDeck d f) :=
  h.deckKeep d _ (hstate _) fun ha => hanchored _ ▸ ha

/-- A deck brought into a powered state. -/
theorem Guarded.modDeckPowered (d : DeckId) {f : Deck → Deck}
    (hp : ∀ k, (f k).state.powered = true := by exact fun _ => rfl) : Guarded s₀ (s.modDeck d f) :=
  h.deck d _ (.inl (hp _))

/-- Whatever becomes of a deck, the power that then goes leaves it unanchored and its lens UNHOMED (R2, R89). -/
theorem Guarded.switchOff (d : DeckId) (f : Deck → Deck) : Guarded s₀ ((s.modDeck d f).powerOff d) := by
  have hoff := h.unpowered d
    { f (s.deck d) with anchored := false, motion := .still, phase := none, reading := none, travel := none } rfl
  refine hoff.aside ?_ rfl rfl rfl rfl
  simp [State.powerOff, State.modDeck]

/-- An entry changed in fields that leave its frame count and state. -/
theorem Guarded.entryKeep (k : Slot) (x : Entry) (g : x.frameCount = (s.entry k).frameCount := by rfl)
    (i : x.state = (s.entry k).state := by rfl) : Guarded s₀ (s.setEntry k x) :=
  h.entry k x g fun e => i ▸ e

/-- A record of a frame changed, its number kept. -/
theorem Guarded.setRecord (k : Slot) (frame : Nat) (f : FrameRecord → FrameRecord)
    (g : ∀ r, (f r).frame = r.frame := by exact fun _ => rfl) : Guarded s₀ (s.setRecord k frame f) := by
  refine h.record k _ fun r => ?_
  split
  · exact g r
  · rfl

end

/-! ## The arbiter -/

/-- The other deck's pending track sweep goes with a grant, and nothing else outside the arbiter changes (R102). -/
theorem Guarded.grant {s₀ s : State} (h : Guarded s₀ s) (d : DeckId) : Guarded s₀ (s.grant d) := by
  unfold State.grant
  dsimp only
  (repeat' split) <;> exact h.aside rfl rfl rfl rfl rfl

theorem Guarded.apply {s₀ s : State} (h : Guarded s₀ s) (x : Decision) : Guarded s₀ (s.apply x) := by
  cases x with
  | grant d => exact h.grant d
  | want g => exact h.opa _
  | clear => exact h.opa _
  | keep => exact h

theorem Guarded.arbitrate {s₀ : State} (n : Nat) : ∀ {s : State} (_ : Guarded s₀ s) (limited : Option DeckId),
    Guarded s₀ (State.arbitrate n limited s) := by
  induction n with
  | zero => exact fun h _ => h
  | succ n ih =>
    intro s h limited
    have ha := h.apply (s.opa.decide limited)
    simp only [State.arbitrate]
    split
    · exact h
    · split
      · split
        · split
          · exact ih ((ha.opa _).opa _) none
          · exact ha.opa _
        · exact ha
      · exact ha

section
variable {s₀ s : State} (h : Guarded s₀ s)
include h

theorem Guarded.arbitrateNow (limited : Option DeckId) : Guarded s₀ (s.arbitrateNow limited) := h.arbitrate 4 limited

theorem Guarded.releaseTenure (limited : Option DeckId) : Guarded s₀ (s.releaseTenure limited) :=
  (h.opa _).arbitrateNow limited

theorem Guarded.decideTenure (d : DeckId) : Guarded s₀ (s.decideTenure d) := by
  unfold State.decideTenure
  (repeat' split) <;> solve_by_elim [Guarded.releaseTenure]

theorem Guarded.raise (d : DeckId) : Guarded s₀ (s.raise d) := by
  unfold State.raise
  split
  · exact h
  · exact (h.opa _).arbitrateNow none

theorem Guarded.withdraw (d : DeckId) : Guarded s₀ (s.withdraw d) := by
  have hlow : Guarded s₀ { s with opa := s.opa.lower d } := h.opa _
  unfold State.withdraw
  dsimp only
  split
  · split
    · split
      · exact hlow
      · exact hlow.decideTenure d
    · exact (hlow.opa _).arbitrateNow none
  · exact h

theorem Guarded.jobBegin (d : DeckId) : Guarded s₀ (s.jobBegin d) := by
  unfold State.jobBegin
  split
  · exact h.opa _
  · exact h

theorem Guarded.jobEnd (d : DeckId) : Guarded s₀ (s.jobEnd d) := by
  unfold State.jobEnd
  split
  · exact (h.opa _).decideTenure d
  · exact h

theorem Guarded.closeTenure (d : DeckId) : Guarded s₀ (s.closeTenure d) := by
  have hclosing : Guarded s₀ { s with opa := { s.opa with closing := true } } := h.opa _
  unfold State.closeTenure
  dsimp only
  split
  · split
    · exact hclosing
    · exact hclosing.decideTenure d
  · exact h

theorem Guarded.limitMade (g : DeckId) : Guarded s₀ (s.limitMade g) := by
  unfold State.limitMade
  split
  · exact (h.opa _).arbitrateNow none
  · exact h

theorem Guarded.enterFault : Guarded s₀ s.enterFault.1 := by
  unfold State.enterFault
  split
  · exact h.opa _
  · exact h

/-! ## Head link, lens and focus sequencer -/

theorem Guarded.handOver (r : OrderRequest) : Guarded s₀ (s.handOver r).1 := by
  unfold State.handOver
  (repeat' split) <;> solve_by_elim [Guarded.hlp]

theorem Guarded.clearOrder : Guarded s₀ s.clearOrder := h.hlp _

/-- A lens takes a move command only with power (R86). -/
theorem Guarded.lensMove (d : DeckId) (target : Int) (o : Holder) : Guarded s₀ (s.lensMove d target o).1 := by
  refine h.lens d _ ?_
  cases hp : s.power d with
  | true => exact .inl rfl
  | false => exact .inr fun hl => by simp [lensCommand, hl]

theorem Guarded.setSweep (w : Option Sweep) : Guarded s₀ (s.setSweep w) := h.fseq _

theorem Guarded.endAbort (w : Sweep) (cause : AbortCause) : Guarded s₀ (s.endAbort w cause).1 := (h.setSweep none).jobEnd _

theorem Guarded.pauseEnded (w : Sweep) (pos : Nat) : Guarded s₀ (s.pauseEnded w pos).1 := by
  have hover := h.handOver ⟨w.deck, .test, pos, w.slot, w.frame, w.tag⟩
  unfold State.pauseEnded
  dsimp only
  split
  · exact hover.setSweep _
  · exact hover.endAbort _ _
  · exact hover.setSweep _

theorem Guarded.stepArrived (w : Sweep) (pos : Nat) : Guarded s₀ (s.stepArrived w pos).1 := by
  unfold State.stepArrived
  split
  · exact h.pauseEnded w pos
  · exact h.setSweep _

theorem Guarded.beginStep (w : Sweep) (n : Nat) : Guarded s₀ (s.beginStep w n).1 := by
  have hmove := (h.setSweep (some { w with step := n, phase := .lens })).lensMove w.deck
    ((w.centre : Int) + s.fseq.plan.offset n) .sequencer
  unfold State.beginStep
  dsimp only
  split
  · exact hmove.stepArrived _ _
  · exact hmove

theorem Guarded.sweepWrite (w : Sweep) (setpoint figure : Nat) : Guarded s₀ (s.sweepWrite w setpoint figure) :=
  (h.setRecord _ _ _ fun r => r.sweepWrite_frame _ _ _).entryKeep _ _

theorem Guarded.completeSweep (w : Sweep) (best : Figure) : Guarded s₀ (s.completeSweep w best).1 := by
  unfold State.completeSweep
  refine Guarded.jobEnd (Guarded.setSweep (Guarded.lensMove ?_ _ _ _) _) _
  split
  · exact (h.fseq _).sweepWrite _ _ _
  · exact h.fseq _

theorem Guarded.passEnded (w : Sweep) : Guarded s₀ (s.passEnded w).1 := by
  unfold State.passEnded
  split
  · exact h.endAbort _ _
  · dsimp only
    split
    · exact h.beginStep _ _
    · exact h.completeSweep _ _

theorem Guarded.testEnded (e : OrderEnd) : Guarded s₀ (s.testEnded e).1 := by
  unfold State.testEnded
  dsimp only
  (repeat' split) <;> solve_by_elim [Guarded.beginStep, Guarded.endAbort, Guarded.passEnded, Guarded.setSweep]

theorem Guarded.abortSweep (d : DeckId) (cause : AbortCause) : Guarded s₀ (s.abortSweep d cause).1 := by
  unfold State.abortSweep
  (repeat' split) <;> solve_by_elim [Guarded.endAbort, Guarded.setSweep]

theorem Guarded.startSweep (d : DeckId) (k : Slot) (frame : Nat) (forFocus track : Bool) :
    Guarded s₀ (s.startSweep d k frame forFocus track).1 := by
  have hstep := (h.jobBegin d).beginStep
    { deck := d, slot := k, frame := frame, tag := (s.entry k).tag, forFocus := forFocus, track := track
      centre := s.sweepCentre k frame, pass := 1, step := 0, phase := .lens, figures := [] }
    (s.fseq.plan.enabledSteps.headD 0)
  unfold State.startSweep
  dsimp only
  split
  · exact hstep
  · split
    · exact hstep.abortSweep _ _
    · exact hstep

/-! ## Marks and records -/

theorem Guarded.rebuildCrossing (d : DeckId) : Guarded s₀ (s.rebuildCrossing d) := h.pool _ _

theorem Guarded.updateCrossing (d : DeckId) : Guarded s₀ (s.updateCrossing d) := by
  unfold State.updateCrossing
  split
  · exact h
  · dsimp only
    split
    · split
      · refine (h.pool _ _).record _ _ fun r => ?_
        split <;> rfl
      · exact h.pool _ _
    · exact h

theorem Guarded.holdCrossing (d : DeckId) (old : Nat) (excuse : Bool) : Guarded s₀ (s.holdCrossing d old excuse) := by
  unfold State.holdCrossing
  split
  · exact h
  · dsimp only
    split
    · exact h.pool _ _
    · exact h

/-- A slip correction anchors the deck, which has power (R1, R36). -/
theorem Guarded.slip (d : DeckId) (δ : Int) (hp : s.power d = true) : Guarded s₀ (s.slip d δ) := by
  have hstate : ((s.deck d).correct δ).state = (s.deck d).state := by
    unfold Deck.correct
    dsimp only
    (repeat' split) <;> rfl
  have hdeck := (h.deck d { (s.deck d).correct δ with search := (s.deck d).search.map (·.shift δ) }
    (.inl (by rw [hstate]; exact hp))).mark d ((s.mark d).shift δ)
  unfold State.slip
  dsimp only
  split
  · exact hdeck
  · split
    · exact (hdeck.holdCrossing _ _ _).updateCrossing _
    · exact hdeck.holdCrossing _ _ _

theorem Guarded.correctBy (d : DeckId) (k : Slot) (frame : Nat) (delta : Int) (hp : s.power d = true) :
    Guarded s₀ (s.correctBy d k frame delta) := by
  have hrecord := h.setRecord k frame (fun r => { r with missCount := 0 })
  unfold State.correctBy
  dsimp only
  split
  · exact (hrecord.entryKeep k _).slip d (-delta) hp
  · exact hrecord.slip d (-delta) hp

theorem Guarded.moveRecord (k : Slot) (frame p : Nat) : Guarded s₀ (s.moveRecord k frame p) := by
  have hrecord := h.setRecord k frame (fun r => { r with position := p, condition := .verified, missCount := 0 })
  unfold State.moveRecord
  dsimp only
  split
  · exact hrecord.entryKeep _ _
  · exact hrecord

theorem Guarded.damage (k : Slot) (frame : Nat) : Guarded s₀ (s.damage k frame) := h.setRecord k frame _

theorem Guarded.matchRecord (d : DeckId) (k : Slot) (r : FrameRecord) (c : MarkClass) (p : Nat) (hp : s.power d = true) :
    Guarded s₀ (s.matchRecord d k r c p).1 := by
  unfold State.matchRecord
  dsimp only
  split
  · exact h.damage _ _
  · split
    · exact h.setRecord _ _ _
    · exact h.correctBy _ _ _ _ hp
    all_goals
      split
      · exact h.moveRecord _ _ _
      · exact h.damage _ _

/-- A new record is appended to the chain of an entry in use (R38). -/
theorem Guarded.unmatched (d : DeckId) (k : Slot) (c : MarkClass) (p : Nat) (hk : (s.entry k).state ≠ .free) :
    Guarded s₀ (s.unmatched d k c p).1 := by
  unfold State.unmatched
  dsimp only
  split
  · exact h.entryKeep _ _
  · split
    · split
      · exact (h.entryKeep k { s.entry k with indexFull := true, extent := _ }).pool _ _
      · rename_i hfree
        exact ((h.appended k p c .seen none hfree hk).entryKeep k
          { (s.append k p c .seen none).entry k with extent := p, indexFull := false }).pool _ _
    · exact h

theorem Guarded.noteSearch (d : DeckId) (k : Slot) (c : MarkClass) (p : Nat) (matched : Option Nat) :
    Guarded s₀ (s.noteSearch d k c p matched) := by
  unfold State.noteSearch
  dsimp only
  (repeat' split) <;> solve_by_elim [Guarded.mark]

theorem Guarded.matchMark (d : DeckId) (k : Slot) (c : MarkClass) (p : Nat) (hp : s.power d = true)
    (hk : (s.entry k).state ≠ .free) : Guarded s₀ (s.matchMark d k c p).1 := by
  unfold State.matchMark
  split
  · rename_i r _
    have hmatch : Guarded s₀ ((s.setPool d ((s.pool d).noteMatch r.frame)).matchRecord d k r c p).1 :=
      (h.pool d _).matchRecord d k r c p hp
    dsimp only
    split
    · exact hmatch.noteSearch _ _ _ _ _
    · exact hmatch
  · have hun := h.unmatched d k c p hk
    dsimp only
    split
    · exact hun.noteSearch _ _ _ _ _
    · exact hun

theorem Guarded.failSearch (k : Slot) (frame : Nat) : Guarded s₀ (s.failSearch k frame) :=
  h.setRecord k frame _

theorem Guarded.searchChoice (d : DeckId) (hp : s.power d = true) : Guarded s₀ (s.searchChoice d).1 := by
  have hdrop := (h.mark d (s.mark d).dropSearch).pool d { s.pool d with searchRecord := none }
  unfold State.searchChoice
  dsimp only
  split
  · split
    · exact hdrop
    · split
      · exact hdrop.failSearch _ _
      · split
        · exact (hdrop.correctBy _ _ _ _ hp).pool _ _
        · exact (hdrop.setRecord _ _ _).pool _ _
        all_goals
          split
          · exact (hdrop.moveRecord _ _ _).pool _ _
          · exact (hdrop.damage _ _).failSearch _ _
  · exact hdrop

/-! ## Tickets and the catalogue -/

theorem Guarded.uncount (k : Slot) : Guarded s₀ (s.uncount k) := by
  have hcount := h.entryKeep k { s.entry k with ticketCount := (s.entry k).ticketCount - 1 }
  unfold State.uncount
  dsimp only
  split
  · exact hcount.freed k
  · exact hcount

theorem Guarded.finalize (t : TicketNo) (o : TicketOutcome) : Guarded s₀ (s.finalize t o) := by
  unfold State.finalize
  dsimp only
  (repeat' split) <;> solve_by_elim [Guarded.sched, Guarded.ticket, Guarded.uncount, Guarded.admission]

theorem Guarded.takeAdmission (a : Admission) (t : TicketNo) : Guarded s₀ (s.takeAdmission a t) :=
  ((h.ticket t _).entryKeep a.slot { s.entry a.slot with ticketCount := (s.entry a.slot).ticketCount + 1 }).admission _

theorem Guarded.bind (k : Slot) (d : DeckId) : Guarded s₀ (s.bind k d) :=
  ((h.entry k { s.entry k with state := .mounted, deck := some d, interrupted := false } rfl nofun).mapTickets
    _).rebuildCrossing d

theorem Guarded.releaseTagged (k : Slot) (removal : Bool) : Guarded s₀ (s.releaseTagged k removal) :=
  (h.entry k { s.entry k with state := .listed, deck := none, interrupted := (s.entry k).interrupted || removal } rfl
    nofun).mapTickets _

end

theorem Guarded.finalizeAll {s₀ : State} (o : TicketOutcome) (ts : List TicketNo) :
    ∀ {s : State} (_ : Guarded s₀ s), Guarded s₀ (ts.foldl (fun s t => s.finalize t o) s) := by
  induction ts with
  | nil => exact fun h => h
  | cons t ts ih => exact fun h => ih (h.finalize t o)

theorem entryOf_mounted {s : State} {d : DeckId} {k : Slot} (h : s.entryOf d = some k) :
    (s.entry k).state = .mounted ∧ (s.entry k).deck = some d := by
  simpa using List.find?_some h

theorem entryOf_ne_free {s : State} {d : DeckId} {k : Slot} (h : s.entryOf d = some k) : (s.entry k).state ≠ .free := by
  simp [(entryOf_mounted h).1]

section
variable {s₀ s : State} (h : Guarded s₀ s)
include h

theorem Guarded.releaseTransient (k : Slot) : Guarded s₀ (s.releaseTransient k) := by
  have hfail := h.finalizeAll .unlisted (s.unlistedTickets k)
  unfold State.releaseTransient
  dsimp only
  split
  · exact hfail.freed k
  · exact hfail.entry k _ rfl nofun

theorem Guarded.releaseEntry (k : Slot) (d : DeckId) (removal : Bool) : Guarded s₀ (s.releaseEntry k d removal) := by
  unfold State.releaseEntry
  dsimp only
  split
  · exact (h.pool _ _).releaseTagged _ _
  · exact (h.pool _ _).releaseTransient _

theorem Guarded.releaseDeck (d : DeckId) : Guarded s₀ (s.releaseDeck d) := by
  unfold State.releaseDeck
  split
  · exact (h.abortSweep _ _).releaseEntry _ _ _
  · exact h

theorem Guarded.createEntry (k : Slot) (d : DeckId) (tag : Option Nat) (hk : (s.entry k).state = .free) :
    Guarded s₀ (s.createEntry k d tag) :=
  (h.created k _ hk rfl).bind k d

theorem Guarded.resolveFresh (d : DeckId) (r : Reading) : Guarded s₀ (s.resolveFresh d r).1 := by
  unfold State.resolveFresh
  split
  · split
    · exact h.createEntry _ _ _ (State.freeSlot_free (by assumption))
    · exact h
  · split
    · split
      · exact h
      · split
        · exact h.bind _ _
        · exact h
    · split
      · exact h.createEntry _ _ _ (State.freeSlot_free (by assumption))
      · exact h

theorem Guarded.resolve (d : DeckId) (i : Option Identification) (r : Reading) : Guarded s₀ (s.resolve d i r).1 := by
  unfold State.resolve
  split
  · split
    · exact h
    · exact (h.releaseDeck d).resolveFresh d r
  · exact h.resolveFresh d r

/-! ## The decks -/

theorem Guarded.dropLeader (d : DeckId) : Guarded s₀ (s.dropLeader d) := by
  unfold State.dropLeader
  split <;> solve_by_elim [Guarded.mark]

theorem Guarded.dropShares (d : DeckId) : Guarded s₀ (s.dropShares d) := (h.pool _ _).mark _ _

theorem Guarded.rewindEnd (d : DeckId) : Guarded s₀ (s.rewindEnd d) := by
  unfold State.rewindEnd
  split
  · exact ((h.switchOff d _).releaseDeck d).modDeckKeep d
  · exact h.modDeckPowered d
  · exact h

/-- The motion of a deck begins in the state it has. -/
theorem Guarded.motionBegins (d : DeckId) : Guarded s₀ (s.motionBegins d) := by
  have hmoving : Guarded s₀ (s.modDeck d fun k => { k with motion := .moving }) :=
    h.modDeckKeep d
  unfold State.motionBegins
  dsimp only
  split
  · exact h.modDeckKeep d
  · split
    · exact hmoving
    · exact hmoving.rewindEnd d
  · exact hmoving
  · exact hmoving
  · exact hmoving
  all_goals exact h

theorem Guarded.beginMotion (d : DeckId) : Guarded s₀ (s.beginMotion d) := by
  unfold State.beginMotion
  split
  · exact h.modDeckKeep d
  · exact h.motionBegins d

theorem Guarded.answerArrival (d : DeckId) : Guarded s₀ (s.answerArrival d).1 := h.pool _ _

theorem Guarded.shuttle (d : DeckId) (target : Nat) (frame : Option Nat) : Guarded s₀ (s.shuttle d target frame).1 := by
  have hwatch := h.pool d ((s.pool d).watch frame)
  unfold State.shuttle
  dsimp only
  split
  · split
    · exact hwatch.answerArrival d
    · exact (hwatch.modDeckPowered d).beginMotion d
  · dsimp only
    exact hwatch.modDeckKeep d
  all_goals exact h

theorem Guarded.toReady (d : DeckId) : Guarded s₀ (s.toReady d) := (h.modDeckPowered d).pool _ _

theorem Guarded.stop (d : DeckId) : Guarded s₀ (s.stop d).1 := by
  have hdrop := (h.pool d { s.pool d with watched := none, searchRecord := none }).mark d (s.mark d).dropSearch
  unfold State.stop
  dsimp only
  split
  case h_1 | h_2 | h_3 =>
    split
    · exact hdrop.toReady d
    · dsimp only
      exact hdrop.modDeckKeep d
  all_goals exact h

theorem Guarded.setComplete (d : DeckId) : Guarded s₀ (s.setComplete d) := by
  unfold State.setComplete
  split
  · exact h.entryKeep _ _
  · exact h

theorem Guarded.indexRun (d : DeckId) : Guarded s₀ (s.indexRun d).1 := by
  unfold State.indexRun
  split
  · split
    · exact h.setComplete d
    · exact ((h.pool d _).modDeckPowered d).beginMotion d
  · exact h

theorem Guarded.searchFor (d : DeckId) (target frame : Nat) : Guarded s₀ (s.searchFor d target frame) := by
  unfold State.searchFor
  dsimp only
  split
  · exact (((h.pool d _).mark d _).modDeckPowered d).beginMotion d
  · exact h

theorem Guarded.restInPlace (d : DeckId) : Guarded s₀ (s.restInPlace d) := h.modDeckKeep d

theorem Guarded.rest (d : DeckId) : Guarded s₀ (s.rest d).1 := by
  unfold State.rest
  dsimp only
  (repeat' split) <;> solve_by_elim [Guarded.answerArrival, Guarded.toReady, Guarded.restInPlace]

theorem Guarded.identify (d : DeckId) (r : Reading) : Guarded s₀ (s.identify d r) :=
  ((h.resolve d _ r).modDeckPowered d).rebuildCrossing d

end

/-! ## The deck scheduler -/

section
variable {s₀ s : State} (h : Guarded s₀ s)
include h

theorem Guarded.modSched (d : DeckId) (f : Sched → Sched) : Guarded s₀ (s.modSched d f) := h.sched d _

theorem Guarded.modTicket (t : TicketNo) (f : Ticket → Ticket) : Guarded s₀ (s.modTicket t f) := h.ticket t _

theorem Guarded.stage (t : TicketNo) (x : TicketState) : Guarded s₀ (s.stage t x) := h.modTicket t _

theorem Guarded.skipTrack (d : DeckId) : Guarded s₀ (s.skipTrack d) := (h.modSched d _).fseq _

theorem Guarded.enterExposing (d : DeckId) (t : TicketNo) (pos : Nat) : Guarded s₀ (s.enterExposing d t pos) :=
  (h.stage t _).modSched d _

theorem Guarded.schedLens (d : DeckId) (pos : Nat) : Guarded s₀ (s.schedLens d pos) := by
  unfold State.schedLens
  split <;> solve_by_elim [Guarded.enterExposing, Guarded.modSched]

theorem Guarded.schedMove (d : DeckId) (target : Nat) : Guarded s₀ (s.schedMove d target) := by
  have hmove := h.lensMove d (target : Int) .scheduler
  unfold State.schedMove
  dsimp only
  split
  · exact hmove.schedLens d _
  · exact hmove

theorem Guarded.enterFocusing (d : DeckId) (t : TicketNo) : Guarded s₀ (s.enterFocusing d t) := by
  have hstage := h.stage t .focusing
  unfold State.enterFocusing
  dsimp only
  split
  · exact hstage.modSched d _
  · exact (hstage.modSched d _).schedMove d _

theorem Guarded.movingArrived (d : DeckId) (t : TicketNo) (a : Arrived) : Guarded s₀ (s.movingArrived d t a) := by
  unfold State.movingArrived
  dsimp only
  split
  · split
    · exact h.finalize _ _
    · exact h.enterFocusing d t
  · split
    · split
      · exact ((h.stage _ _).modSched d _).searchFor d _ _
      · exact h
    · exact h

theorem Guarded.shuttleTo (d : DeckId) (t : TicketNo) (pos frame : Nat) : Guarded s₀ (s.shuttleTo d t pos frame) := by
  have hshuttle := h.shuttle d pos (some frame)
  unfold State.shuttleTo
  dsimp only
  split
  · exact hshuttle.movingArrived d t _
  · exact hshuttle

theorem Guarded.enterMoving (d : DeckId) (t : TicketNo) : Guarded s₀ (s.enterMoving d t) := by
  have hstage : Guarded s₀ ((s.stage t .moving).modSched d fun c => { c with step := some .shuttle }) :=
    (h.stage t .moving).modSched d _
  unfold State.enterMoving
  dsimp only
  split
  · split
    · refine Guarded.shuttleTo ?_ d t _ _
      split
      · exact hstage.schedMove d _
      · exact hstage
    · exact hstage
  · exact hstage

theorem Guarded.searchEnded (d : DeckId) (hp : s.power d = true) : Guarded s₀ (s.searchEnded d) := by
  have hchoice := h.searchChoice d hp
  unfold State.searchEnded
  dsimp only
  split
  · split
    · exact ((hchoice.stage _ _).modSched d _).shuttleTo d _ _ _
    · exact hchoice.finalize _ _
  · exact hchoice

theorem Guarded.closeIndexing (d : DeckId) (t : TicketNo) : Guarded s₀ (s.closeIndexing d t) := by
  unfold State.closeIndexing
  split
  · exact h.finalize _ _
  · exact h.enterMoving d t

theorem Guarded.filmEndOutcome (d : DeckId) (t : TicketNo) : Guarded s₀ (s.filmEndOutcome d t) := by
  unfold State.filmEndOutcome
  (repeat' split) <;> solve_by_elim [Guarded.closeIndexing, Guarded.finalize]

theorem Guarded.trackShuttle (d : DeckId) (tr : Track) : Guarded s₀ (s.trackShuttle d tr) := by
  have hshuttle := h.shuttle d tr.pos (some tr.frame)
  unfold State.trackShuttle
  dsimp only
  split
  · exact hshuttle.modSched d _
  · exact hshuttle

theorem Guarded.runRested (d : DeckId) (atEnd : Bool) : Guarded s₀ (s.runRested d atEnd) := by
  have hend : Guarded s₀ (if atEnd then s.modSched d fun c => { c with filmEndMet := true } else s) := by
    split
    · exact h.modSched d _
    · exact h
  unfold State.runRested
  split
  · exact h
  · dsimp only
    generalize (if atEnd then s.modSched d fun c => { c with filmEndMet := true } else s) = u at hend ⊢
    (repeat' split) <;> solve_by_elim [Guarded.closeIndexing, Guarded.filmEndOutcome, Guarded.finalize,
      Guarded.trackShuttle]

theorem Guarded.startRun (d : DeckId) : Guarded s₀ (s.startRun d) := by
  have hrun := (h.modSched d fun c => { c with step := some .run, filmEndMet := false }).indexRun d
  unfold State.startRun
  dsimp only
  split
  · exact hrun.runRested d true
  · exact hrun

theorem Guarded.enterIndexing (d : DeckId) (t : TicketNo) (k : Slot) (target : Option Nat) :
    Guarded s₀ (s.enterIndexing d t k target) := by
  have hstage := (h.stage t .indexing).modSched d fun c =>
    { c with step := some .approach, indexTarget := target, targetReached := false }
  unfold State.enterIndexing
  dsimp only
  (repeat' split) <;> solve_by_elim [Guarded.shuttle, Guarded.startRun]

theorem Guarded.stopRun (d : DeckId) : Guarded s₀ (s.stopRun d) := by
  unfold State.stopRun
  dsimp only
  split
  · exact (h.stop d).runRested d false
  · exact h.stop d

theorem Guarded.callTrack (d : DeckId) (frame pos : Nat) : Guarded s₀ (s.callTrack d frame pos) := by
  unfold State.callTrack
  split
  · split
    · exact h.fseq _
    · exact (h.modSched d _).stopRun d
  · exact h

theorem Guarded.recordReported (d : DeckId) (frame pos : Nat) : Guarded s₀ (s.recordReported d frame pos) := by
  unfold State.recordReported
  dsimp only
  (repeat' split) <;> solve_by_elim [Guarded.callTrack, Guarded.modSched, Guarded.modTicket, Guarded.stopRun]

theorem Guarded.poolExhausted (d : DeckId) : Guarded s₀ (s.poolExhausted d) := by
  unfold State.poolExhausted
  refine Guarded.stopRun ?_ d
  (repeat' split) <;> solve_by_elim [Guarded.finalize]

theorem Guarded.deckArrived (d : DeckId) (a : Arrived) : Guarded s₀ (s.deckArrived d a) := by
  unfold State.deckArrived
  split <;> solve_by_elim [Guarded.modSched, Guarded.movingArrived, Guarded.startRun]

/-- The choice at the completion of a search can anchor the deck, so the deck has power where a search is reported (R45). -/
theorem Guarded.rested (d : DeckId) (r : RestReport) (hp : ∀ low high, r = .searched low high → s.power d = true) :
    Guarded s₀ (s.rested d r) := by
  cases r with
  | none => exact h
  | arrived a => exact h.deckArrived d a
  | atRest => exact h.runRested d false
  | filmEnd => exact h.runRested d true
  | searched low high => exact h.searchEnded d (hp low high rfl)
  | identified r => exact h.identify d r

theorem Guarded.endTicket (d : DeckId) (t : TicketNo) (o : TicketOutcome) : Guarded s₀ (s.endTicket d t o) := by
  unfold State.endTicket
  (repeat' split) <;> solve_by_elim [Guarded.finalize]

theorem Guarded.trackEnded (d : DeckId) (t : TicketNo) (e : SweepEnd) : Guarded s₀ (s.trackEnded d t e) := by
  unfold State.trackEnded
  (repeat' split) <;> solve_by_elim [Guarded.endTicket, Guarded.modSched, Guarded.skipTrack]

theorem Guarded.sweepFinished (d : DeckId) (t : TicketNo) (e : SweepEnd) : Guarded s₀ (s.sweepFinished d t e) := by
  unfold State.sweepFinished
  dsimp only
  (repeat' split) <;> solve_by_elim [Guarded.endTicket, Guarded.modSched, Guarded.schedLens]

theorem Guarded.sweepReported (r : SweepReport) : Guarded s₀ (s.sweepReported r) := by
  unfold State.sweepReported
  dsimp only
  (repeat' split) <;> solve_by_elim [Guarded.sweepFinished, Guarded.trackEnded]

theorem Guarded.frameBoundary (d : DeckId) (t : TicketNo) : Guarded s₀ (s.frameBoundary d t) := by
  unfold State.frameBoundary
  dsimp only
  (repeat' split) <;> solve_by_elim [Guarded.finalize, Guarded.modSched, Guarded.modTicket]

theorem Guarded.captureEnded (d : DeckId) (e : OrderEnd) : Guarded s₀ (s.captureEnded d e) := by
  unfold State.captureEnded
  dsimp only
  (repeat' split) <;> solve_by_elim [Guarded.endTicket, Guarded.frameBoundary, Guarded.jobEnd, Guarded.modTicket]

theorem Guarded.activate (d : DeckId) (t : TicketNo) : Guarded s₀ (s.activate d t) := (h.modTicket t _).modSched d _

theorem Guarded.beginWork (d : DeckId) (k : Slot) (t : TicketNo) : Guarded s₀ (s.beginWork d k t) := by
  have hactive := h.activate d t
  unfold State.beginWork
  dsimp only
  (repeat' split) <;> solve_by_elim [Guarded.enterIndexing, Guarded.enterMoving, Guarded.finalize, Guarded.modTicket]

theorem Guarded.updateRequest (d : DeckId) : Guarded s₀ (s.updateRequest d) := by
  unfold State.updateRequest
  dsimp only
  split
  · exact (h.modSched d _).raise d
  · exact (h.modSched d _).withdraw d

theorem Guarded.showPathWait (d : DeckId) : Guarded s₀ (s.showPathWait d) := by
  unfold State.showPathWait
  split
  · exact h
  · exact h.modTicket _ _

end

theorem Guarded.sweepReport? {s₀ : State} {x : State × Option SweepReport} (h : Guarded s₀ x.1) :
    Guarded s₀ (State.sweepReport? x) := by
  unfold State.sweepReport?
  split
  · exact h.sweepReported _
  · exact h

/-! ## What the scheduler does between events -/

section
variable {s₀ s u : State} (h : Guarded s₀ s)
include h

theorem Guarded.beginTrack (d : DeckId) (e : s.beginTrack d = some u) : Guarded s₀ u := by
  unfold State.beginTrack at e
  (repeat' split at e) <;> cases e
  · exact ((h.modSched d _).startSweep _ _ _ _ _).sweepReport?
  · exact h.skipTrack d

theorem Guarded.continueStage (d : DeckId) (e : s.continueStage d = some u) : Guarded s₀ u := by
  unfold State.continueStage at e
  (repeat' split at e) <;> cases e
  · exact h.closeIndexing d _
  · exact h.filmEndOutcome d _
  · exact h.startRun d

theorem Guarded.beginSweep (d : DeckId) (e : s.beginSweep d = some u) : Guarded s₀ u := by
  unfold State.beginSweep at e
  (repeat' split at e) <;> cases e
  · exact ((h.modSched d _).startSweep _ _ _ _ _).sweepReport?
  · exact h.finalize _ _

theorem Guarded.beginCapture (d : DeckId) (e : s.beginCapture d = some u) : Guarded s₀ u := by
  unfold State.beginCapture at e
  dsimp only at e
  (repeat' split at e) <;> cases e
  · exact ((h.handOver _).modSched d _).jobBegin d
  · exact ((h.handOver _).jobBegin d).captureEnded d _

theorem Guarded.deckAction (d : DeckId) (e : s.deckAction d = some u) : Guarded s₀ u := by
  unfold State.deckAction at e
  split at e
  · cases e
    exact h.beginWork _ _ _
  · simp only [Option.orElse_eq_or, Option.or_eq_some_iff] at e
    rcases e with e | ⟨_, e | ⟨_, e | ⟨_, e⟩⟩⟩
    · exact h.continueStage d e
    · exact h.beginTrack d e
    · exact h.beginSweep d e
    · exact h.beginCapture d e

theorem Guarded.requestAction (d : DeckId) (e : s.requestAction d = some u) : Guarded s₀ u := by
  unfold State.requestAction at e
  split at e <;> cases e
  exact h.updateRequest d

theorem Guarded.nextAction (e : s.nextAction = some u) : Guarded s₀ u := by
  unfold State.nextAction at e
  simp only [Option.orElse_eq_or, Option.or_eq_some_iff] at e
  rcases e with e | ⟨_, e | ⟨_, e | ⟨_, e⟩⟩⟩
  · exact h.deckAction .a e
  · exact h.deckAction .b e
  · exact h.requestAction .a e
  · exact h.requestAction .b e

end

theorem Guarded.settleSteps {s₀ : State} (n : Nat) : ∀ {s : State} (_ : Guarded s₀ s), Guarded s₀ (State.settleSteps n s) := by
  induction n with
  | zero => exact fun h => h
  | succ n ih =>
    intro s h
    simp only [State.settleSteps]
    split
    · exact ih (h.nextAction (by assumption))
    · exact h

section
variable {s₀ s : State} (h : Guarded s₀ s)
include h

theorem Guarded.settle : Guarded s₀ s.settle := by
  have hshown : Guarded s₀ { State.settleSteps 128 s with
      scheds := ⟨{ (State.settleSteps 128 s).scheds.a with request := (State.settleSteps 128 s).opa.requests.a },
        { (State.settleSteps 128 s).scheds.b with request := (State.settleSteps 128 s).opa.requests.b }⟩ } :=
    (h.settleSteps 128).aside rfl rfl rfl rfl rfl
  exact (hshown.showPathWait .a).showPathWait .b

theorem Guarded.redirect (t : TicketNo) : Guarded s₀ (s.redirect t) := by
  unfold State.redirect
  (repeat' split) <;> solve_by_elim [Guarded.activate, Guarded.enterMoving, Guarded.modTicket]

theorem Guarded.deckFailed (d : DeckId) (o : HeldOutcome) : Guarded s₀ (s.deckFailed d o) := by
  unfold State.deckFailed
  (repeat' split) <;> solve_by_elim [Guarded.finalize, Guarded.modSched]

/-- What a halt changes before it is handed on. -/
theorem Guarded.haltLocal (d : DeckId) (cause : HaltCause) : Guarded s₀ (haltLocal s d cause) :=
  ((h.dropLeader d).switchOff d _).dropShares d

theorem Guarded.halt (d : DeckId) (cause : HaltCause) : Guarded s₀ (s.halt d cause) := by
  rw [halt_eq]
  exact (Guarded.sweepReport? ((((h.haltLocal d cause).deckFailed d _).updateRequest d).abortSweep d _)).closeTenure
    d |>.settle

theorem Guarded.pathFaulted (d : DeckId) : Guarded s₀ (s.pathFaulted d) := by
  unfold State.pathFaulted
  dsimp only
  (repeat' split) <;> solve_by_elim [Guarded.finalize, Guarded.modSched, Guarded.skipTrack, Guarded.stop]

end

/-! ## The requests -/

section
variable {s₀ s : State} (h : Guarded s₀ s)
include h

theorem Guarded.detect (d : DeckId) : Guarded s₀ (s.detect d) := h.deckKeep d _ rfl id

theorem Guarded.declareRoll (tag : BitVec 24) (width : Byte) : Guarded s₀ (s.declareRoll tag width).state := by
  unfold State.declareRoll
  split
  · exact h
  · split
    · exact h
    · split
      · exact h
      · split
        · exact h
        · exact h.created _ _ (State.freeSlot_free (by assumption)) rfl

theorem Guarded.nameRoll (slot : Byte) (tag : BitVec 24) : Guarded s₀ (s.nameRoll slot tag).state := by
  unfold State.nameRoll
  dsimp only
  (repeat' split) <;> first | exact h | exact h.entryKeep _ _

theorem Guarded.bindDeck (deck slot : Byte) : Guarded s₀ (s.bindDeck deck slot).state := by
  unfold State.bindDeck
  dsimp only
  (repeat' split) <;> first | exact h | exact ((h.releaseDeck _).bind _ _).settle

theorem Guarded.retireRoll (slot : Byte) : Guarded s₀ (s.retireRoll slot).state := by
  unfold State.retireRoll
  dsimp only
  (repeat' split) <;> first | exact h | exact h.freed _

theorem Guarded.frameRequest (slot : Byte) (frame : Half) (ok : Bool) (act : Slot → Nat → Reply)
    (g : ∀ k n, Guarded s₀ (act k n).state) : Guarded s₀ (s.frameRequest slot frame ok act).state := by
  unfold State.frameRequest
  (repeat' split) <;> first | exact h | exact g _ _

theorem Guarded.setFocus (slot : Byte) (frame : Half) (flags : Byte) (setpoint : Half) :
    Guarded s₀ (s.setFocus slot frame flags setpoint).state := by
  refine h.frameRequest _ _ _ _ fun k n => ?_
  split
  · have hrecord := h.setRecord k n fun r => { r with
      setpoint := some setpoint.toNat, source := some .host, figure := none }
    exact hrecord.entryKeep k { s.entry k with lastSetpoint := some setpoint.toNat }
  · exact h.setRecord _ _ _

theorem Guarded.withdrawFrame (slot : Byte) (frame : Half) : Guarded s₀ (s.withdrawFrame slot frame).state := by
  refine h.frameRequest _ _ _ _ fun k n => ?_
  split
  · exact h
  · exact h.setRecord _ _ _

theorem Guarded.poweredUp (d : DeckId) : Guarded s₀ (s.poweredUp d) := by
  unfold State.poweredUp
  split
  · exact h.halt d _
  · exact h.beginMotion d

theorem Guarded.startMount (d : DeckId) : Guarded s₀ (s.startMount d) := ((h.modDeckPowered d).mark d _).poweredUp d

theorem Guarded.mountDeck (deck : Byte) : Guarded s₀ (s.mountDeck deck).state := by
  unfold State.mountDeck
  (repeat' split) <;> first | exact h | exact h.startMount _

theorem Guarded.startUnmount (d : DeckId) : Guarded s₀ (s.startUnmount d) :=
  ((h.modDeckPowered d).pool d _).beginMotion d

theorem Guarded.unmountDeck (deck : Byte) : Guarded s₀ (s.unmountDeck deck).state := by
  unfold State.unmountDeck
  (repeat' split) <;> first | exact h | exact h.startUnmount _

theorem Guarded.startRemount (d : DeckId) : Guarded s₀ (s.startRemount d) := ((h.modDeckPowered d).mark d _).poweredUp d

/-- A deck without power brought into another state without power. -/
theorem Guarded.modDeckUnpowered (d : DeckId) {f : Deck → Deck} (hp : s.power d = false)
    (hanchored : ∀ k, (f k).anchored = true → k.anchored = true := by exact fun _ => id) : Guarded s₀ (s.modDeck d f) :=
  h.deck d _ (.inr ⟨hp, hanchored _⟩)

theorem Guarded.clearEmpty (d : DeckId) (hp : s.power d = false) : Guarded s₀ (s.clearEmpty d) := by
  unfold State.clearEmpty
  exact ((h.modDeckUnpowered d hp).releaseDeck d).modDeckKeep d

theorem Guarded.clearDeck (deck : Byte) : Guarded s₀ (s.clearDeck deck).state := by
  unfold State.clearDeck
  split
  · exact h
  · split
    · exact h
    · rename_i d _ hstate
      have hhalted : (s.deck d).state = .halted := of_not_not hstate
      split
      · exact h
      · dsimp only [State.answer]
        split
        · exact h.startRemount d
        · exact h.clearEmpty d (by simp [State.power, hhalted, DeckState.powered])

theorem Guarded.enterTicket (a : Admission) : Guarded s₀ (s.enterTicket a).state := by
  unfold State.enterTicket
  split
  · exact h
  · exact h
  · exact ((h.takeAdmission a _).redirect _).settle

theorem Guarded.admitChecked (slot priority : Byte) (ok : Bool) (a : Slot → Admission) :
    Guarded s₀ (s.admitChecked slot priority ok a).state := by
  unfold State.admitChecked
  (repeat' split) <;> first | exact h | exact h.enterTicket _

theorem Guarded.cancelMotion (d : DeckId) (t : TicketNo) : Guarded s₀ (s.cancelMotion d t) := by
  unfold State.cancelMotion
  dsimp only
  (repeat' split) <;> solve_by_elim [Guarded.finalize, Guarded.stop]

theorem Guarded.cancelSweep (d : DeckId) : Guarded s₀ (s.cancelSweep d) := (h.abortSweep d _).sweepReport?

theorem Guarded.cancelActive (d : DeckId) (t : TicketNo) : Guarded s₀ (s.cancelActive d t) := by
  unfold State.cancelActive
  (repeat' split) <;> solve_by_elim [Guarded.cancelMotion, Guarded.cancelSweep, Guarded.finalize, Guarded.modSched]

theorem Guarded.takeCancel (t : TicketNo) : Guarded s₀ (s.takeCancel t) := by
  unfold State.takeCancel
  dsimp only
  (repeat' split) <;> solve_by_elim [Guarded.cancelActive, Guarded.finalize, Guarded.modTicket]

theorem Guarded.cancelTicket (ticket : Byte) : Guarded s₀ (s.cancelTicket ticket).state := by
  unfold State.cancelTicket
  (repeat' split) <;> first | exact h | exact (h.takeCancel _).settle

theorem Guarded.collectTicket (ticket : Byte) : Guarded s₀ (s.collectTicket ticket).state := by
  unfold State.collectTicket
  (repeat' split) <;> first | exact h | exact h.ticket _ _

end

/-- Items are appended to an entry in use while the free list lasts (R76, R77). -/
theorem Guarded.appendItems {s₀ : State} (k : Slot) (items : List Item) : ∀ {s : State} (_ : Guarded s₀ s)
    (_ : items.length ≤ s.freeCount) (_ : (s.entry k).state ≠ .free), Guarded s₀ (s.appendItems k items) := by
  induction items with
  | nil => exact fun h _ _ => h
  | cons i items ih =>
    intro s h hfree hk
    rw [List.length_cons] at hfree
    refine ih (h.appended k i.pos i.cls .declared i.setpoint (by omega) hk) ?_ ?_
    · show items.length ≤ s.freeCount - 1
      omega
    · simpa [State.append, State.entry, State.setEntry, State.setChain] using hk

section
variable {s₀ s : State} (h : Guarded s₀ s)
include h

theorem Guarded.declareFrames (slot : Byte) (first : Half) (count : Byte) (items : List DeclItem) :
    Guarded s₀ (s.declareFrames slot first count items).state := by
  unfold State.declareFrames
  split
  · rename_i k xs _ _
    dsimp only
    split
    · exact h
    · split
      · exact h
      · rename_i hlisted
        have hk : (s.entry k).state ≠ .free := by
          intro hfree
          simp [hfree] at hlisted
        split
        · exact h
        · split
          · exact h
          · split
            · exact h
            · exact (h.appendItems k xs (by omega) hk).entryKeep k
                { (s.appendItems k xs).entry k with extent := max _ _ }
  · exact h

theorem Guarded.takeEvents : Guarded s₀ s.takeEvents.state :=
  (h.deckKeep .a { s.deck .a with events := EventSet.none } rfl id).deckKeep .b
    { s.deck .b with events := EventSet.none } rfl id

theorem Guarded.setParameters (b : ParamWire) : Guarded s₀ (s.setParameters b).state := by
  unfold State.setParameters
  (repeat' split) <;> first | exact h | exact h.aside rfl rfl rfl rfl rfl

theorem Guarded.setSweepPlan (p : PlanWire) : Guarded s₀ (s.setSweepPlan p).state := by
  unfold State.setSweepPlan
  (repeat' split) <;> first | exact h | exact h.fseq _

theorem Guarded.readRoll (slot : Byte) : Guarded s₀ (s.readRoll slot).state := by
  unfold State.readRoll
  split <;> exact h

theorem Guarded.findFrame (slot : Byte) (sec group idx : Half) : Guarded s₀ (s.findFrame slot sec group idx).state := by
  unfold State.findFrame
  (repeat' split) <;> exact h

theorem Guarded.queryTicket (ticket : Byte) : Guarded s₀ (s.queryTicket ticket).state := by
  unfold State.queryTicket
  split <;> exact h

theorem Guarded.carryOut (r : Request) : Guarded s₀ (carryOut r s).state := by
  cases r with
  | identify | status | readParameters | readSweepPlan | readSweepResult => exact h
  | events => exact h.takeEvents
  | setParameters block => exact h.setParameters _
  | restart => exact h.rlp _
  | declareRoll tag width => exact h.declareRoll _ _
  | declareFrames slot first count items => exact h.declareFrames _ _ _ _
  | readRoll slot => exact h.readRoll _
  | readFrames slot frame count => exact h.frameRequest _ _ _ _ fun _ _ => h
  | findFrame slot sec group idx => exact h.findFrame _ _ _ _
  | annotateFrame slot frame note => exact h.frameRequest _ _ _ _ fun _ _ => h.setRecord _ _ _
  | setFocus slot frame flags setpoint => exact h.setFocus _ _ _ _
  | withdrawFrame slot frame => exact h.withdrawFrame _ _
  | restoreFrame slot frame => exact h.frameRequest _ _ _ _ fun _ _ => h.setRecord _ _ _
  | retireRoll slot => exact h.retireRoll _
  | nameRoll slot tag => exact h.nameRoll _ _
  | bindDeck deck slot => exact h.bindDeck _ _
  | mount deck => exact h.mountDeck _
  | unmount deck => exact h.unmountDeck _
  | clearDeck deck => exact h.clearDeck _
  | fetch | range | locate | focus | index => exact h.admitChecked _ _ _ _
  | cancel ticket => exact h.cancelTicket _
  | queryTicket ticket => exact h.queryTicket _
  | collect ticket => exact h.collectTicket _
  | setSweepPlan plan => exact h.setSweepPlan _

/-! ## The request link -/

theorem Guarded.takeMessage (m : Message) : Guarded s₀ (s.takeMessage m) := by
  have hreply : Guarded s₀ (m.reply s).state := by
    unfold Message.reply
    (repeat' split) <;> first | exact h | exact h.carryOut _
  exact (hreply.rlp _).rlp _

theorem Guarded.placeMessage (m : Message) : Guarded s₀ (s.placeMessage m) := by
  unfold State.placeMessage
  split
  · exact h.takeMessage m
  all_goals exact h.rlp _

theorem Guarded.requestByte (b : Byte) : Guarded s₀ (requestByte b s) := by
  unfold Machine.requestByte
  split
  · split <;> exact h.rlp _
  · split
    · exact (h.rlp _).rlp _
    · exact h.rlp _
  · split <;> exact h.rlp _
  · exact h.rlp _
  · exact Guarded.placeMessage (h.rlp _) _

end

theorem Guarded.feedBytes {s₀ : State} (bytes : List Byte) : ∀ {s : State} (_ : Guarded s₀ s), Guarded s₀ (feedBytes bytes s) := by
  induction bytes with
  | nil => exact fun h => h
  | cons b bytes ih => exact fun h => ih (h.requestByte b)

section
variable {s₀ s : State} (h : Guarded s₀ s)
include h

theorem Guarded.requestGap : Guarded s₀ (requestGap s) := by
  unfold Machine.requestGap
  split
  · exact h
  all_goals exact (h.rlp _).rlp _

theorem Guarded.leaveReset (lr1 lr0 : Bool) : Guarded s₀ (s.leaveReset lr1 lr0) := by
  have hrate : Guarded s₀ { s with rate := rateOf lr1 lr0 } := h.aside rfl rfl rfl rfl rfl
  exact ((hrate.detect .a).detect .b).arbitrateNow none

theorem Guarded.answerSent (lr1 lr0 : Bool) : Guarded s₀ (answerSent lr1 lr0 s) := by
  unfold Machine.answerSent
  split
  · exact h
  · split
    · exact h.reset.leaveReset lr1 lr0
    · dsimp only
      split
      · exact (h.rlp _).takeMessage _
      · exact h.rlp _

/-! ## Events at the decks -/

theorem Guarded.removeSeated (d : DeckId) (hp : s.power d = false) : Guarded s₀ (s.removeSeated d) := by
  refine Guarded.detect (h.modDeckUnpowered d hp fun k hk => ?_) d
  cases hk

theorem Guarded.removeThreaded (d : DeckId) : Guarded s₀ (s.removeThreaded d) := by
  have hfailed := ((((h.dropLeader d).switchOff d fun k =>
    { k.dropMotion with state := .empty, kind := none, counter := 0 }.recordEvent .removed).dropShares d).deckFailed d
    .removed).updateRequest d
  unfold State.removeThreaded
  refine ((Guarded.sweepReport? (Guarded.abortSweep ?_ d .removal)).closeTenure d).detect d |>.settle
  split
  · exact hfailed.releaseEntry _ d true
  · exact hfailed

theorem Guarded.seatChanged (d : DeckId) (made : Bool) : Guarded s₀ (s.seatChanged d made) := by
  unfold State.seatChanged
  split
  · exact (h.modDeckKeep d).detect d
  · rename_i hseated
    split
    · exact h
    · exact h.removeSeated d (by simp [State.power, hseated, DeckState.powered])
  · split
    · exact h
    · exact h.removeThreaded d

theorem Guarded.seatingEnds (d : DeckId) (kind1 kind2 : Bool) : Guarded s₀ (seatingEnds d kind1 kind2 s) := by
  unfold Machine.seatingEnds
  split
  · rename_i hempty
    exact h.modDeckUnpowered d (by simp [State.power, hempty.1, DeckState.powered])
  · exact h

theorem Guarded.seatFaults (d : DeckId) : Guarded s₀ (seatFaults d s) := by
  unfold Machine.seatFaults
  split
  · refine h.modDeckKeep d (fun k => ?_) fun k => ?_ <;> split <;> rfl
  · exact h

theorem Guarded.raiseExtent (d : DeckId) (dir : Direction) : Guarded s₀ (s.raiseExtent d dir) := by
  unfold State.raiseExtent
  split
  · dsimp only
    split
    · exact h.entryKeep _ _
    · exact h
  · exact h

theorem Guarded.leaderLimit (d : DeckId) : Guarded s₀ (s.leaderLimit d) := by
  unfold State.leaderLimit
  split
  · exact h.halt d _
  · exact h

theorem Guarded.crossTravel (d : DeckId) (dir : Direction) (old : Nat) (marked : Bool) :
    Guarded s₀ (s.crossTravel d dir old marked) := by
  have hextent := h.raiseExtent d dir
  unfold State.crossTravel
  dsimp only
  split
  · split
    · exact hextent.updateCrossing d
    · exact hextent
  · split
    · exact h.holdCrossing d _ _
    · exact h

end

/-- A count of travel keeps the state, and anchors no deck (R1). -/
theorem Deck.count_keeps (k : Deck) (dir : Direction) :
    ((k.count dir).state = k.state) ∧ ((k.count dir).anchored = true → k.anchored = true) := by
  cases dir <;> unfold Deck.count <;> dsimp only <;> split <;> simp

theorem Deck.travelled_keeps (k : Deck) (dir : Direction) :
    (((k.count dir).countLeader dir).noteTravel dir).state = k.state ∧
      ((((k.count dir).countLeader dir).noteTravel dir).anchored = true → k.anchored = true) := by
  obtain ⟨hstate, hanchored⟩ := k.count_keeps dir
  unfold Deck.noteTravel Deck.countLeader
  (repeat' split) <;> exact ⟨hstate, hanchored⟩

section
variable {s₀ s : State} (h : Guarded s₀ s)
include h

theorem Guarded.encoderCounts (d : DeckId) (dir : Direction) : Guarded s₀ (encoderCounts d dir s) := by
  obtain ⟨hstate, hanchored⟩ := (s.deck d).travelled_keeps dir
  have hdeck : Guarded s₀ (s.modDeck d fun k => ((k.count dir).countLeader dir).noteTravel dir) :=
    h.deckKeep d _ hstate hanchored
  unfold Machine.encoderCounts
  dsimp only
  split
  · exact h
  · refine Guarded.leaderLimit (Guarded.crossTravel ?_ d dir _ _) d
    split
    · exact hdeck.mark d _
    · exact hdeck

theorem Guarded.leaderTravelEnds (d : DeckId) : Guarded s₀ (leaderTravelEnds d s) := by
  unfold Machine.leaderTravelEnds
  dsimp only
  split
  · exact Guarded.halt (h.modDeckKeep d) d _
  · exact h

theorem Guarded.tensionReads (d : DeckId) (reading : BitVec 10) : Guarded s₀ (tensionReads d reading s) := by
  have hdeck : Guarded s₀ (s.setDeck d ((s.deck d).tension (s.params.bands.get d) reading.toNat).1) := by
    unfold Deck.tension
    split <;> exact h.deckKeep d _ rfl id
  unfold Machine.tensionReads
  dsimp only
  split
  · split
    · exact hdeck.halt d _
    · exact hdeck
  · exact h

theorem Guarded.filmEndFired (d : DeckId) : Guarded s₀ (s.filmEndFired d) := by
  have hstop : Guarded s₀ (((s.setComplete d).modDeck d fun k => { k with runMetEnd := true }).stop d).1 :=
    ((h.setComplete d).modDeckKeep d).stop d
  unfold State.filmEndFired
  split
  · dsimp only
    split
    · exact (hstop.runRested d true).settle
    · exact hstop
  · exact h.halt d _
  · exact h.halt d _
  all_goals exact h

theorem Guarded.gateCleared (d : DeckId) : Guarded s₀ (s.gateCleared d) := by
  unfold State.gateCleared
  split
  · split
    · split
      · exact h.modDeckKeep d
      · exact h
    · exact h.rewindEnd d
    · exact h
  · exact h

end

/-- A deck whose search is reported complete is at rest in READY. -/
theorem rest_searched_power {s : State} {d : DeckId} {low high : Int} (hr : (s.rest d).2 = .searched low high) :
    (s.rest d).1.power d = true := by
  unfold State.rest at hr ⊢
  dsimp only at hr ⊢
  (repeat' split at hr) <;> simp_all [State.power, State.toReady, State.modDeck, DeckState.powered]

section
variable {s₀ s : State} (h : Guarded s₀ s)
include h

theorem Guarded.filmRests (d : DeckId) : Guarded s₀ (filmRests d s) := by
  have hrested : Guarded s₀ ((s.rest d).1.rested d (s.rest d).2) := (h.rest d).rested d _ fun _ _ => rest_searched_power
  unfold Machine.filmRests
  dsimp only
  split
  · exact h.rest d
  all_goals
    rename_i hr
    rw [hr] at hrested
    exact hrested.settle

theorem Guarded.searchTurns (d : DeckId) : Guarded s₀ (searchTurns d s) := by
  unfold Machine.searchTurns
  split
  · exact h.modDeckKeep d
  · exact h

/-! ## Events of the mark sensor -/

/-- The reference mark anchors the deck, which has power while its leader is read (R10). -/
theorem Guarded.leaderMark (d : DeckId) (c : WidthClass) (p : Nat) (hp : s.power d = true) :
    Guarded s₀ (s.leaderMark d c p) := by
  have hmark := h.mark d ((s.mark d).readLeader c p).1
  unfold State.leaderMark
  dsimp only
  split
  · exact hmark
  · exact hmark.modDeckPowered d
  · exact hmark.deck d _ (.inl hp)

theorem Guarded.deliverMark (d : DeckId) (dir : Direction) (c : WidthClass) (p : Nat) :
    Guarded s₀ (s.deliverMark d dir c p).1 := by
  have power_of {x : DeckState} (hx : (s.deck d).state = x) (hp : x.powered = true) : s.power d = true := by
    rw [State.power, hx, hp]
  unfold State.deliverMark
  split
  case h_1 hstate =>
    split
    · exact h.leaderMark d c p (power_of hstate rfl)
    · exact h
  case h_2 hstate =>
    split
    · exact h.leaderMark d c p (power_of hstate rfl)
    · exact h
  case h_3 hstate | h_4 hstate | h_5 hstate | h_6 hstate =>
    split
    · exact h.matchMark d _ _ p (power_of hstate rfl) (entryOf_ne_free (by assumption))
    · exact h
  all_goals exact h

theorem Guarded.markReported (d : DeckId) (r : MarkReport) : Guarded s₀ (s.markReported d r) := by
  cases r with
  | none => exact h
  | newRecord frame pos => exact (h.recordReported d frame pos).settle
  | exhausted => exact (h.poolExhausted d).settle

theorem Guarded.closeMark (d : DeckId) : Guarded s₀ (s.closeMark d) := by
  unfold State.closeMark
  split
  · exact h
  · exact (((h.mark d _).deliverMark d _ _ _).updateCrossing d).markReported d _

theorem Guarded.acceptLevel (d : DeckId) (level : Bool) : Guarded s₀ (s.acceptLevel d level) := by
  have haccepted := h.mark d { s.mark d with accepted := some level, candidate := false }
  unfold State.acceptLevel
  dsimp only
  split
  · exact haccepted.mark d _
  · exact haccepted.closeMark d

theorem Guarded.markSampled (d : DeckId) (level : Bool) : Guarded s₀ (markSampled d level s) := by
  unfold Machine.markSampled
  dsimp only
  (repeat' split) <;> solve_by_elim [Guarded.acceptLevel, Guarded.mark]

theorem Guarded.markEdge (d : DeckId) (level : Bool) : Guarded s₀ (markEdge d level s) := by
  unfold Machine.markEdge
  split
  · exact h.acceptLevel d level
  · exact h

/-! ## Events of the lenses, the path and the head link -/

theorem Guarded.fseqLens (d : DeckId) (pos : Nat) : Guarded s₀ (s.fseqLens d pos) := by
  unfold State.fseqLens
  split
  · split
    · exact (h.stepArrived _ pos).sweepReport?
    · exact h
  · exact h

/-- A lens that is UNHOMED does not move. -/
theorem Guarded.lensMoved (d : DeckId) (x : Lens × Option LensTarget) (hx : s.lens d = .unhomed → x.1 = .unhomed) :
    Guarded s₀ (s.lensMoved d x) := by
  have hlens := h.lens d x.1 (.inr hx)
  unfold State.lensMoved
  dsimp only
  split
  · exact hlens
  · split
    · exact (hlens.fseqLens d _).settle
    · exact (hlens.schedLens d _).settle

theorem Guarded.lensSteps (d : DeckId) : Guarded s₀ (lensSteps d s) := h.lensMoved d _ fun hl => by rw [hl]; rfl

theorem Guarded.lensHomingEnds (d : DeckId) : Guarded s₀ (lensHomingEnds d s) := h.lensMoved d _ fun hl => by rw [hl]; rfl

theorem Guarded.lensReaches (d : DeckId) : Guarded s₀ (lensReaches d s) := h.lensMoved d _ fun hl => by rw [hl]; rfl

theorem Guarded.settlePauseEnds : Guarded s₀ (settlePauseEnds s) := by
  unfold Machine.settlePauseEnds
  split
  · exact h
  · split
    · exact (h.pauseEnded _ _).sweepReport?.settle
    all_goals exact h

theorem Guarded.pathTimesOut : Guarded s₀ (pathTimesOut s) := by
  unfold Machine.pathTimesOut
  dsimp only
  refine Guarded.settle ?_
  (repeat' split) <;> solve_by_elim [Guarded.enterFault, Guarded.pathFaulted]

theorem Guarded.endDeferral (d : DeckId) : Guarded s₀ (s.endDeferral d) := by
  unfold State.endDeferral
  split
  · exact h.motionBegins d
  · exact h

theorem Guarded.endOrder (o : Order) (e : OrderEnd) : Guarded s₀ (s.endOrder o e) := by
  unfold State.endOrder
  dsimp only
  split
  · exact (h.clearOrder.testEnded e).sweepReport?
  · exact h.clearOrder.captureEnded _ e

theorem Guarded.endAbsent : Guarded s₀ s.endAbsent := by
  unfold State.endAbsent
  (repeat' split) <;> solve_by_elim [Guarded.endOrder]

theorem Guarded.orderByteSent : Guarded s₀ (orderByteSent s) := by
  unfold Machine.orderByteSent
  dsimp only
  split
  · exact h.hlp _
  · exact (h.hlp _).endAbsent.settle

theorem Guarded.takeReport (r : Report) : Guarded s₀ (s.takeReport r) := by
  unfold State.takeReport
  split
  · exact (h.endOrder _ _).settle
  · exact h.hlp _

theorem Guarded.reportByte (b : Byte) : Guarded s₀ (reportByte b s) := by
  unfold Machine.reportByte
  dsimp only
  split
  · exact (h.hlp _).takeReport _
  · exact h.hlp _

theorem Guarded.reportCut : Guarded s₀ (reportCut s) := by
  unfold Machine.reportCut
  split
  · exact h
  all_goals exact h.hlp _

theorem Guarded.headTimesOut : Guarded s₀ (headTimesOut s) := by
  unfold Machine.headTimesOut
  split
  · split
    · exact (h.endOrder _ _).settle
    · exact h
  · exact h

theorem Guarded.readyLost : Guarded s₀ s.readyLost := by
  unfold State.readyLost
  split
  · exact h
  · split
    case h_1 | h_2 => exact (h.abortSweep _ _).sweepReport?
    all_goals exact h

end

theorem Guarded.reportReceived {s₀ : State} (bytes : List Byte) :
    ∀ {s : State} (_ : Guarded s₀ s), Guarded s₀ (reportReceived bytes s) := by
  induction bytes with
  | nil => exact fun h => h
  | cons b bytes ih => exact fun h => ih (h.reportByte b)

/-! ## Every command -/

theorem Guarded.live {s₀ s : State} (h : Guarded s₀ s) {f : State → State} (g : ∀ t, Guarded s₀ t → Guarded s₀ (f t)) :
    Guarded s₀ (live s f) := by
  unfold Machine.live
  split
  · exact h
  · exact g s h

theorem Guarded.receiveRequest {r : Request} {s t : State} (h : receiveRequest r s = .next t) : Guarded s t := by
  unfold Machine.receiveRequest at h
  split at h <;> cases h
  exact Guarded.refl.live fun _ h => h.feedBytes _

/-- The events that bring a level of a pin, taken with the level in place (R184). -/
theorem Guarded.seatContact (d : DeckId) (c : Contact) (made : Bool) (s : State) : Guarded s (seatContact d c made s) := by
  unfold Machine.seatContact
  split
  · exact .refl
  · exact (Guarded.refl.sensors d _).live fun _ h => h.seatChanged d made

theorem Guarded.driveFaults (d : DeckId) (active : Bool) (s : State) : Guarded s (driveFaults d active s) := by
  refine (Guarded.refl.sensors d _).live fun _ h => ?_
  split
  · exact h.halt d _
  · exact h

theorem Guarded.filmEndFires (d : DeckId) (s : State) : Guarded s (filmEndFires d s) := by
  unfold Machine.filmEndFires
  split
  · exact .refl
  · exact (Guarded.refl.sensors d _).live fun _ h => h.filmEndFired d

theorem Guarded.lensHomeInput (d : DeckId) (made : Bool) (s : State) : Guarded s (lensHomeInput d made s) := by
  refine (Guarded.refl.sensors d _).live fun _ h => ?_
  split
  · exact h.lensHomingEnds d
  · exact h

theorem Guarded.pathLimit (g : DeckId) (made : Bool) (s : State) : Guarded s (pathLimit g made s) := by
  refine Guarded.live (Guarded.refl.pins _) fun _ h => ?_
  split
  · exact (h.limitMade g).settle
  · exact h

theorem Guarded.holdAsserts (s : State) : Guarded s (holdAsserts s) := by
  unfold Machine.holdAsserts
  split
  · exact .refl
  · refine Guarded.live (Guarded.refl.pins _) fun _ h => ?_
    split
    · exact h.hlp _
    · exact h

theorem Guarded.holdReleases (s : State) : Guarded s (holdReleases s) :=
  Guarded.live (Guarded.refl.pins _) fun _ h => (((h.endDeferral .a).endDeferral .b).arbitrateNow none).settle

theorem Guarded.readyDrops (s : State) : Guarded s (readyDrops s) :=
  Guarded.live (Guarded.refl.pins _) fun _ h => h.endAbsent.readyLost.settle

theorem Guarded.resetnReleased (lr1 lr0 : Bool) (s : State) : Guarded s (if s.pins.resetAsserted then
    ({ s with pins := { s.pins with resetAsserted := false } }).leaveReset lr1 lr0 else s) := by
  split
  · exact Guarded.leaveReset (Guarded.refl.pins _) lr1 lr0
  · exact .refl

/-- A coming to rest that is taken in one state of the deck only. -/
theorem Guarded.filmRestsIn (d : DeckId) (x : DeckState) {s₀ s : State} (h : Guarded s₀ s) :
    Guarded s₀ (if (s.deck d).state = x then Machine.filmRests d s else s) := by
  split
  · exact h.filmRests d
  · exact h

/-- Whatever a command does is a chain of the guarded updates. -/
theorem Guarded.exec {c : Instr} {s t : State} (h : exec c s = .next t) : Guarded s t := by
  have event {f : State → State} (g : ∀ u, Guarded s u → Guarded s (f u)) : Guarded s (Machine.live s f) :=
    Guarded.refl.live g
  cases c
  case identify => exact receiveRequest (r := .identify) h
  case status => exact receiveRequest (r := .status) h
  case events => exact receiveRequest (r := .events) h
  case setParameters b => exact receiveRequest (r := .setParameters b) h
  case readParameters => exact receiveRequest (r := .readParameters) h
  case restart => exact receiveRequest (r := .restart) h
  case declareRoll a b => exact receiveRequest (r := .declareRoll a b) h
  case declareFrames a b c => exact receiveRequest (r := .declareFrames a b (num8 c.length) c) h
  case readRoll a => exact receiveRequest (r := .readRoll a) h
  case readFrames a b c => exact receiveRequest (r := .readFrames a b c) h
  case findFrame a b c d => exact receiveRequest (r := .findFrame a b c d) h
  case annotateFrame a b c => exact receiveRequest (r := .annotateFrame a b c) h
  case setFocus a b c d => exact receiveRequest (r := .setFocus a b c d) h
  case withdrawFrame a b => exact receiveRequest (r := .withdrawFrame a b) h
  case restoreFrame a b => exact receiveRequest (r := .restoreFrame a b) h
  case retireRoll a => exact receiveRequest (r := .retireRoll a) h
  case nameRoll a b => exact receiveRequest (r := .nameRoll a b) h
  case bindDeck a b => exact receiveRequest (r := .bindDeck a b) h
  case mount a => exact receiveRequest (r := .mount a) h
  case unmount a => exact receiveRequest (r := .unmount a) h
  case clearDeck a => exact receiveRequest (r := .clearDeck a) h
  case fetch a b c d => exact receiveRequest (r := .fetch a b c d) h
  case range a b c d e => exact receiveRequest (r := .range a b c d e) h
  case locate a b c d => exact receiveRequest (r := .locate a b c d) h
  case focus a b c d => exact receiveRequest (r := .focus a b c d) h
  case index a b c d => exact receiveRequest (r := .index a b c d) h
  case cancel a => exact receiveRequest (r := .cancel a) h
  case queryTicket a => exact receiveRequest (r := .queryTicket a) h
  case collect a => exact receiveRequest (r := .collect a) h
  case setSweepPlan a => exact receiveRequest (r := .setSweepPlan a) h
  case readSweepPlan => exact receiveRequest (r := .readSweepPlan) h
  case readSweepResult => exact receiveRequest (r := .readSweepResult) h
  all_goals cases h
  case requestMessageComplete b => exact event fun _ h => h.requestByte b
  case noiseByte b => exact event fun _ h => h.requestByte b
  case zeroLengthByte => exact event fun _ h => h.requestByte 0
  case gap => exact event fun _ h => h.requestGap
  case brokenByte => exact event fun _ h => (h.rlp _).rlp _
  case answerSent lr1 lr0 => exact event fun _ h => h.answerSent lr1 lr0
  case resetnAsserted => exact Guarded.refl.reset.pins _
  case resetnReleased lr1 lr0 => exact Guarded.resetnReleased lr1 lr0 s
  case seatContactChange d c made => exact Guarded.seatContact d c made s
  case seatingTimeEnd d k1 k2 => exact event fun _ h => h.seatingEnds d k1 k2
  case seatFault d => exact event fun _ h => h.seatFaults d
  case encoderCount d dir => exact event fun _ h => h.encoderCounts d dir
  case leaderTravelLimit d => exact event fun _ h => h.leaderTravelEnds d
  case markOpeningEdge d => exact event fun _ h => h.markEdge d true
  case markClosingEdge d => exact event fun _ h => h.markEdge d false
  case tensionReading d r => exact event fun _ h => h.tensionReads d r
  case tensionTrip d r => exact event fun _ h => h.tensionReads d r
  case driveFault d a => exact Guarded.driveFaults d a s
  case filmEndFires d => exact Guarded.filmEndFires d s
  case filmInGateCleared d => exact (Guarded.refl.sensors d _).live fun _ h => h.gateCleared d
  case arrival d => exact event fun _ h => h.filmRestsIn d .shuttling
  case filmAtRest d => exact event fun _ h => h.filmRests d
  case searchLowEndTurn d => exact event fun _ h => h.searchTurns d
  case searchCompletion d => exact event fun _ h => h.filmRestsIn d .searching
  case lensHomeReached d m => exact Guarded.lensHomeInput d m s
  case lensHomingLimit d => exact event fun _ h => h.lensHomingEnds d
  case lensArrival d => exact event fun _ h => h.lensReaches d
  case settlePauseEnd => exact event fun _ h => h.settlePauseEnds
  case pathLimitReached g m => exact Guarded.pathLimit g m s
  case pathMoveTimeout => exact event fun _ h => h.pathTimesOut
  case orderLastByteSent => exact event fun _ h => h.orderByteSent
  case headReport n o v c => exact event fun _ h => h.reportReceived _
  case reportGap => exact event fun _ h => h.reportCut
  case headBrokenByte => exact event fun _ h => h.reportCut
  case headTimeout => exact event fun _ h => h.headTimesOut
  case readyFalls => exact Guarded.readyDrops s
  case readyRises => exact Guarded.refl.pins _
  case holdAsserted => exact Guarded.holdAsserts s
  case holdReleased => exact Guarded.holdReleases s
  case markSensorSample d m => exact event fun _ h => h.markSampled d m
  case lensStep d => exact event fun _ h => h.lensSteps d
  case requestByteReceived b => exact event fun _ h => h.requestByte b
  case reportByteReceived b => exact event fun _ h => h.reportByte b
  case filmEndCleared d => exact Guarded.refl.sensors d _
  case filmInGateShowsFilm d => exact Guarded.refl.sensors d _

/-- A step is a chain of the guarded updates, or half a millisecond that passes. -/
theorem Guarded.step_cases {s t : State} (h : step s = .next t) : t = tick s ∨ ∃ rest, Guarded { s with pending := rest } t := by
  unfold step at h
  split at h
  · exact .inr ⟨_, Guarded.exec h⟩
  · cases h
    exact .inl rfl

end Sys2Proof.Machine
end

section
/-! PROOFS. The laws of power and of records, kept by every chain of guarded updates (R1, R2, R57, R64, R65, R89). -/

-- one theorem checked after another: fewer threads in a whole compile
set_option Elab.async false

namespace Sys2Proof.Machine

/-! ## The laws of power -/

/-- A deck has power, or it is unanchored and its lens UNHOMED (R1, R2, R89). -/
def PowerLaw (s : State) : Prop := ∀ d, s.power d = true ∨ (s.lens d = .unhomed ∧ (s.deck d).anchored = false)

theorem PowerLaw.iff {s : State} : PowerLaw s ↔ lensLaw s = true ∧ anchorLaw s = true := by
  have both {p : DeckId → Prop} : (∀ d, p d) ↔ p .a ∧ p .b :=
    ⟨fun h => ⟨h .a, h .b⟩, fun h d => by cases d <;> simp [h]⟩
  simp only [PowerLaw, both, lensLaw, anchorLaw, Bool.and_eq_true, Bool.or_eq_true, beq_iff_eq, Bool.not_eq_eq_eq_not,
    Bool.not_true]
  tauto

/-- The law speaks of the decks and lenses alone. -/
theorem PowerLaw.congr {s t : State} (h : PowerLaw s) (hdecks : t.decks = s.decks) (hlenses : t.lenses = s.lenses) :
    PowerLaw t := by
  simpa only [PowerLaw, State.power, State.deck, State.lens, hdecks, hlenses] using h

theorem PowerLaw.setDeck {s : State} (h : PowerLaw s) {d : DeckId} {x : Deck} (g : Deck.Changes (s.deck d) x) :
    PowerLaw (s.setDeck d x) := by
  intro e
  by_cases he : e = d
  · subst he
    have hd := h e
    simp only [State.power, State.deck_setDeck_self, State.lens_setDeck] at hd ⊢
    rcases g with hp | ⟨hp, hanchored⟩
    · exact .inl hp
    · obtain ⟨hlens, hold⟩ := hd.resolve_left (by simp [hp])
      exact .inr ⟨hlens, by simpa [hold] using hanchored⟩
  · simpa only [State.power, State.deck_setDeck, if_neg he, State.lens_setDeck] using h e

theorem PowerLaw.setLens {s : State} (h : PowerLaw s) {d : DeckId} {x : Lens}
    (g : s.power d = true ∨ (s.lens d = .unhomed → x = .unhomed)) : PowerLaw (s.setLens d x) := by
  intro e
  by_cases he : e = d
  · subst he
    have hd := h e
    simp only [State.power, State.deck_setLens, State.lens_setLens_self] at hd g ⊢
    tauto
  · simpa only [State.power, State.deck_setLens, State.lens_setLens, if_neg he] using h e

/-- Where the power of a deck goes, the law holds of it whatever its state. -/
theorem PowerLaw.unpowered {s : State} (h : PowerLaw s) {d : DeckId} {x : Deck} (g : x.anchored = false) :
    PowerLaw ((s.setDeck d x).setLens d .unhomed) := by
  intro e
  by_cases he : e = d
  · subst he
    exact .inr ⟨by simp, by simpa using g⟩
  · simpa only [State.power, State.deck_setLens, State.deck_setDeck, State.lens_setLens, State.lens_setDeck, if_neg he]
      using h e

theorem Guarded.powerLaw {s t : State} (h : Guarded s t) (hs : PowerLaw s) : PowerLaw t := by
  induction h with
  | refl => exact hs
  | aside _ hdecks hlenses _ _ _ ih => exact ih.congr hdecks hlenses
  | deck _ d x g ih => exact ih.setDeck g
  | unpowered _ d x g ih => exact ih.unpowered g
  | lens _ d x g ih => exact ih.setLens g
  | entry _ _ _ _ _ ih | created _ _ _ _ _ ih | freed _ _ ih | record _ _ _ _ ih | appended _ _ _ _ _ _ _ _ ih =>
    exact ih.congr rfl rfl
  | reset _ _ => intro d; cases d <;> exact .inr ⟨rfl, rfl⟩

/-- Settles O58: every chain of guarded updates keeps the two laws together, and so does the passing of time. -/
theorem powerLawsKept : Obligations.PowerLawsKept := by
  intro s t hstep hlens hanchor
  rw [← PowerLaw.iff]
  have hs : PowerLaw s := PowerLaw.iff.mpr ⟨hlens, hanchor⟩
  obtain rfl | ⟨rest, hguarded⟩ := Guarded.step_cases hstep
  · intro d
    cases d
    · exact hs .a
    · exact hs .b
  · exact hguarded.powerLaw (hs.congr rfl rfl)

/-! ## The laws of records -/

/-- Free records and frame counts make 16,384, a FREE entry has no frames, and the records of each entry are numbered from 1 to
its frame count (R57, R64, R65). -/
structure RecordLaw (s : State) : Prop where
  total : s.freeCount + ∑ k, (s.entry k).frameCount = Config.poolRecords
  free (k : Slot) : (s.entry k).state = .free → (s.entry k).frameCount = 0
  numbered (k : Slot) : (s.chain k).map (·.frame) = List.range' 1 (s.entry k).frameCount

theorem sum_allSlots (f : Slot → Nat) : (allSlots.map f).sum = ∑ k, f k := by
  simp [allSlots, Fin.sum_univ_succ]

theorem RecordLaw.iff {s : State} : RecordLaw s ↔ recordLaw s = true ∧ numberLaw s = true := by
  have hall {p : Slot → Bool} : allSlots.all p = true ↔ ∀ k, p k = true := by
    simp [List.all_eq_true, mem_allSlots]
  simp only [recordLaw, numberLaw, Bool.and_eq_true, hall, beq_iff_eq, Bool.or_eq_true, bne_iff_ne, ne_eq, sum_allSlots,
    ← imp_iff_not_or]
  exact ⟨fun h => ⟨⟨h.total, h.free⟩, h.numbered⟩, fun h => ⟨h.1.1, h.1.2, h.2⟩⟩

theorem RecordLaw.congr {s t : State} (h : RecordLaw s) (hentries : t.entries = s.entries) (hchains : t.chains = s.chains)
    (hfree : t.freeCount = s.freeCount) : RecordLaw t where
  total := by simpa only [State.entry, hentries, hfree] using h.total
  free k := by simpa only [State.entry, hentries] using h.free k
  numbered k := by simpa only [State.entry, State.chain, hentries, hchains] using h.numbered k

/-- What one entry's frame count and the counts of the others make. -/
theorem sum_frameCount_setEntry (s : State) (k : Slot) (x : Entry) :
    (∑ j, ((s.setEntry k x).entry j).frameCount) + (s.entry k).frameCount = (∑ j, (s.entry j).frameCount) + x.frameCount := by
  have hothers : ∀ j ∈ Finset.univ.erase k, ((s.setEntry k x).entry j).frameCount = (s.entry j).frameCount := fun j hj => by
    rw [State.entry_setEntry_of_ne _ _ (Finset.ne_of_mem_erase hj)]
  rw [← Finset.add_sum_erase _ _ (Finset.mem_univ k), ← Finset.add_sum_erase _ (fun j => (s.entry j).frameCount)
      (Finset.mem_univ k),
    Finset.sum_congr rfl hothers, State.entry_setEntry_self]
  omega

/-- An entry, its chain and the free count changed together, in step with each other. -/
theorem RecordLaw.update {s t : State} (h : RecordLaw s) (k : Slot) {x : Entry} {rs : List FrameRecord}
    (hentries : t.entries = (s.setEntry k x).entries) (hchains : t.chains = (s.setChain k rs).chains)
    (hcount : t.freeCount + x.frameCount = s.freeCount + (s.entry k).frameCount)
    (hfree : x.state = .free → x.frameCount = 0) (hrs : rs.map (·.frame) = List.range' 1 x.frameCount) : RecordLaw t := by
  have hentry (j : Slot) : t.entry j = (s.setEntry k x).entry j := by simp only [State.entry, hentries]
  have hchain (j : Slot) : t.chain j = (s.setChain k rs).chain j := by simp only [State.chain, hchains]
  have hsum := sum_frameCount_setEntry s k x
  have htotal := h.total
  refine ⟨?_, fun j => ?_, fun j => ?_⟩
  · simp only [hentry]
    omega
  · rw [hentry, State.entry_setEntry]
    split
    · exact hfree
    · exact h.free j
  · rw [hentry, hchain, State.entry_setEntry, State.chain_setChain]
    split
    · exact hrs
    · exact h.numbered j

theorem RecordLaw.setEntry {s : State} (h : RecordLaw s) (k : Slot) (x : Entry)
    (hcount : x.frameCount = (s.entry k).frameCount) (hfree : x.state = .free → (s.entry k).state = .free) :
    RecordLaw (s.setEntry k x) :=
  h.update k rfl (rs := s.chain k) (by simp [State.setChain, State.chain]) (by simp [hcount])
    (fun hx => hcount ▸ h.free k (hfree hx)) (hcount ▸ h.numbered k)

theorem RecordLaw.reset (pins : Pins) (deckPins : Pair DeckPins) (rate : Rate) (pending : List Instr) :
    RecordLaw { State.reset with pins := pins, deckPins := deckPins, rate := rate, opa := Opa.reset, pending := pending } := by
  have hchain (k : Slot) : (Vector.replicate 16 ([] : List FrameRecord))[k] = [] := by simp
  refine ⟨?_, fun k hk => ?_, fun k => ?_⟩
  · simp [State.reset, State.entry, Entry.free]
  · simp [State.reset, State.entry, Entry.free]
  · simp [State.reset, State.entry, State.chain, hchain, Entry.free]

theorem Guarded.recordLaw {s t : State} (h : Guarded s t) (hs : RecordLaw s) : RecordLaw t := by
  induction h with
  | refl => exact hs
  | aside _ _ _ hentries hchains hfree ih => exact ih.congr hentries hchains hfree
  | deck _ _ _ _ ih | unpowered _ _ _ _ ih | lens _ _ _ _ ih => exact ih.congr rfl rfl rfl
  | entry _ k x g i ih => exact ih.setEntry k x g i
  | created _ k x g i ih => exact ih.setEntry k x (i.trans (ih.free k g).symm) fun _ => g
  | freed _ k ih => exact ih.update k (x := Entry.free) (rs := []) rfl rfl rfl (fun _ => rfl) rfl
  | record _ k f g ih =>
    refine ih.update k (x := State.entry _ k) ?_ rfl rfl (ih.free k) ?_
    · simp [State.setEntry, State.setChain, State.entry]
    · rw [List.map_map, ← ih.numbered k]
      exact List.map_congr_left fun r _ => g r
  | @appended t _ k p c cond sp g i ih =>
    refine ih.update k (x := { t.entry k with frameCount := (t.entry k).frameCount + 1 }) rfl rfl ?_ (fun hx => absurd hx i) ?_
    · show t.freeCount - 1 + ((t.entry k).frameCount + 1) = t.freeCount + (t.entry k).frameCount
      omega
    · rw [List.map_append, ih.numbered k, List.range'_concat]
      simp [newRecord, Nat.add_comm]
  | reset _ _ => exact RecordLaw.reset _ _ _ _

/-- Settles O59: every chain of guarded updates keeps the two laws together, and the passing of time touches no record. -/
theorem recordLawsKept : Obligations.RecordLawsKept := by
  intro s t hstep hrecord hnumber
  rw [← RecordLaw.iff]
  have hs : RecordLaw s := RecordLaw.iff.mpr ⟨hrecord, hnumber⟩
  obtain rfl | ⟨rest, hguarded⟩ := Guarded.step_cases hstep
  · exact hs.congr rfl rfl rfl
  · exact hguarded.recordLaw (hs.congr rfl rfl rfl)

end Sys2Proof.Machine
end

section
/-! PROOFS. Steps, time and the values at reset; the part held in reset, and its release (R184, R122, R27, R168, R183). -/

namespace Sys2Proof.Machine

/-! ## Steps and time -/

/-- Settles O1: `step` looks at the front of the queue. -/
theorem stepTakesFrontCommand : Obligations.StepTakesFrontCommand := fun _ _ _ => rfl

theorem step_of_empty {s : State} (h : s.pending = []) : step s = .next (tick s) := by
  unfold step
  rw [h]

/-- Settles O2: a step on an empty queue is `tick`, whose phases are those of the statement. -/
theorem emptyQueueLetsTimePass : Obligations.EmptyQueueLetsTimePass := by
  intro s h later deck phase
  have hphase (x : SweepPhase) : x.tick = phase x := by cases x <;> rfl
  rw [step_of_empty h]
  simp only [tick, hphase]
  rfl

/-! ## The values at reset -/

theorem ticket_reset (t : TicketNo) : State.reset.ticket t = Ticket.free := by
  simp [State.reset, State.ticket]

theorem entry_reset (k : Slot) : State.reset.entry k = Entry.free := by
  simp [State.reset, State.entry]

theorem chain_reset (k : Slot) : State.reset.chain k = [] := by
  simp [State.reset, State.chain]

theorem atn_reset : State.reset.atn = false := by
  have hfinal : State.reset.finalWaiting = false := finalWaiting_eq_false_iff.mpr fun t => by rw [ticket_reset]; rfl
  have hevents : State.reset.eventsWaiting = false := rfl
  have hflags : State.reset.rlp.flags.any = false := rfl
  simp [State.atn, hfinal, hevents, hflags]

/-- Settles O4: the fields of `State.reset`, the entries, chains and tickets by their lemmas. -/
theorem resetValues : Obligations.ResetValues :=
  ⟨rfl, rfl, rfl, ticket_reset, fun k => ⟨entry_reset k, chain_reset k⟩, rfl, rfl, rfl, rfl, rfl, rfl, rfl, rfl, rfl, rfl,
    rfl, rfl, rfl, rfl, rfl, rfl, rfl, atn_reset, rfl⟩

/-- Settles O60: reset has no message, no holder, no power and no record. -/
theorem lawsHoldAtReset : Obligations.LawsHoldAtReset := by
  have hpower : PowerLaw State.reset := fun d => .inr (by cases d <;> exact ⟨rfl, rfl⟩)
  have hrecord : RecordLaw State.reset :=
    (RecordLaw.reset State.reset.pins State.reset.deckPins State.reset.rate []).congr rfl rfl rfl
  obtain ⟨hlens, hanchor⟩ := PowerLaw.iff.mp hpower
  exact ⟨rfl, hlens, hanchor, rfl, RecordLaw.iff.mp hrecord⟩

/-! ## The part held in reset -/

/-- Settles O5: the reset values, with every deck in EMPTY. -/
theorem resetAssertedHoldsThePart : Obligations.ResetAssertedHoldsThePart := by
  intro s
  refine ⟨_, rfl, rfl, ?_, rfl, rfl, fun d => ?_⟩
  · simp [State.atn]
  · cases d <;> exact ⟨rfl, rfl, rfl, rfl⟩

/-! ## The release of reset -/

theorem startDetection_reset (p : DeckPins) : Deck.reset.startDetection p.seat1 p.seat2 = { Deck.reset with
    seating := if p.seat1 = true ∧ p.seat2 = true then some ⟨100, 0⟩ else none
    disagreement := if p.seat1 ≠ p.seat2 then some ⟨1000, 0⟩ else none } := by
  simp [Deck.startDetection, Timer.start, Config.seatingTime, Config.disagreementTime]

/-- The reset move, wanted while nothing holds the path, begins unless HOLD is asserted, and ends at once where its limit input
shows made, with no request to grant (R107, R122). -/
theorem arbitrateNow_of_resetMove {s : State} (horder : s.hlp.order = none)
    (hopa : s.opa = ⟨.moving .a, none, 0, ⟨false, false⟩, false, false, some .a, none, none⟩) :
    s.arbitrateNow none = { s with opa :=
      if s.pins.hold then s.opa
      else if s.pins.limits.a then { s.opa with path := .atGate .a, wanted := none }
      else { s.opa with wanted := none, moveTimer := some ⟨4000, 0⟩ } } := by
  have hopa' : ({ s with opa := s.opa } : State) = s := rfl
  by_cases hhold : s.pins.hold = true
  · simp [State.arbitrateNow, State.arbitrate, hopa, Opa.decide, State.apply, State.moveMayBegin, hhold]
    rw [← hopa]
  · by_cases hlimit : s.pins.limits.a = true
    · simp [State.arbitrateNow, State.arbitrate, hopa, Opa.decide, State.apply, State.moveMayBegin, hhold, horder,
        State.beginMove, State.endMove, hlimit, Pair.get, DeckId.other]
    · simp [State.arbitrateNow, State.arbitrate, hopa, Opa.decide, State.apply, State.moveMayBegin, hhold, horder,
        State.beginMove, hlimit, Pair.get, Timer.start, Config.pathMoveTime]

theorem exec_resetnReleased (lr1 lr0 : Bool) (s : State) : exec (.resetnReleased lr1 lr0) s =
    .next (if s.pins.resetAsserted then
      ({ s with pins := { s.pins with resetAsserted := false } }).leaveReset lr1 lr0 else s) := rfl

/-- Detection at both decks of a part that leaves reset (R27). -/
theorem detect_both {s : State} (h : s.decks = State.reset.decks) : (s.detect .a).detect .b = { s with
    decks := ⟨Deck.reset.startDetection s.deckPins.a.seat1 s.deckPins.a.seat2,
      Deck.reset.startDetection s.deckPins.b.seat1 s.deckPins.b.seat2⟩ } := by
  simp [State.detect, State.setDeck, State.deck, State.sensors, Pair.get, Pair.set, h, State.reset]

/-- A part that reset holds leaves it: the straps, the detection of both decks, and the reset move (R184, R168, R27, R122). -/
theorem leaveReset_of_resetMove {s : State} (lr1 lr0 : Bool) (hdecks : s.decks = State.reset.decks) (horder : s.hlp.order = none)
    (hopa : s.opa = ⟨.moving .a, none, 0, ⟨false, false⟩, false, false, some .a, none, none⟩) :
    s.leaveReset lr1 lr0 = { s with
      rate := rateOf lr1 lr0
      decks := ⟨Deck.reset.startDetection s.deckPins.a.seat1 s.deckPins.a.seat2,
        Deck.reset.startDetection s.deckPins.b.seat1 s.deckPins.b.seat2⟩
      opa :=
        if s.pins.hold then s.opa
        else if s.pins.limits.a then { s.opa with path := .atGate .a, wanted := none }
        else { s.opa with wanted := none, moveTimer := some ⟨4000, 0⟩ } } := by
  rw [State.leaveReset, detect_both (s := { s with rate := rateOf lr1 lr0 }) hdecks]
  exact arbitrateNow_of_resetMove horder hopa

/-- Settles O6: the straps, the detection of both decks, and the reset move by `arbitrateNow_of_resetMove`. -/
theorem resetReleasedStartsThePart : Obligations.ResetReleasedStartsThePart := by
  intro s lr1 lr0
  rw [exec_resetnReleased]
  refine ⟨fun hrun => ?running, ?released⟩
  case running =>
    rw [if_neg (by simpa [running] using hrun)]
  case released =>
    intro hreset hdecks horder hopa deck rate
    have hrate : rateOf lr1 lr0 = rate := by cases lr1 <;> cases lr0 <;> rfl
    let released : State := { s with pins := { s.pins with resetAsserted := false } }
    have hleave := leaveReset_of_resetMove (s := released) lr1 lr0 hdecks horder hopa
    rw [startDetection_reset, startDetection_reset, hrate] at hleave
    rw [if_pos hreset]
    exact congrArg Host.Outcome.next hleave

/-! ## RESTART -/

/-- Settles O7: RESTART is answered on an idle link; the end of its answer enters and leaves reset as RESETN does. -/
theorem restartResetsAfterItsAnswer : Obligations.RestartResetsAfterItsAnswer := by
  refine ⟨fun s hidle => ?answered, fun s p lr1 lr0 hrun hp hrestart => ?reset⟩
  case answered =>
    exact receiveRequest_of_reply (r := .restart) hidle rfl (Nat.le_of_ble_eq_true rfl) rfl rfl
  case reset =>
    have not_reset : s.pins.resetAsserted = false := by simpa [running] using hrun
    refine ⟨_, _, rfl, exec_resetnReleased lr1 lr0 _, ?_⟩
    show Host.Outcome.next (live s (answerSent lr1 lr0)) = _
    rw [live_of_running not_reset, answerSent, hp, if_pos rfl]
    simp only [hrestart, if_true, State.restartPart]
    rw [show s.enterReset = { s.enterReset with pins := { s.pins with resetAsserted := false } } by
      simp [State.enterReset, ← not_reset]]

end Sys2Proof.Machine
end

section
/-! PROOFS. Commands complete (log 23); the bytes and messages of the request link (R169 to R175); the summary byte and the
attention line (R175, R176). -/

namespace Sys2Proof.Machine

/-! ## Commands complete -/

theorem Inner.pending_eq {s t : State} (h : Inner s t) : t.pending = s.pending := by
  induction h with
  | refl => rfl
  | _ => assumption

/-- No command changes the queue of the commands that wait. -/
theorem Reach.pending_eq {s t : State} (h : Reach s t) : t.pending = s.pending := by
  induction h with
  | refl => rfl
  | inner _ i ih => exact i.pending_eq.trans ih
  | _ => assumption

theorem receiveRequest_of_wf {r : Request} (h : r.wf = true) (s : State) :
    receiveRequest r s = .next (live s fun s => feedBytes (frameBytes requestLead r.body) s) := if_pos h

theorem receiveRequest_of_not_wf {r : Request} (h : r.wf = false) (s : State) :
    receiveRequest r s = .fault .noSuchMessage := if_neg (by simp [h])

/-- Only DECLARE FRAMES and SET SWEEP PLAN have operands that no message can carry. -/
theorem exec_of_wf {c : Instr} (h : c.wf = true) (s : State) : ∃ t, exec c s = .next t := by
  cases c
  case declareFrames slot first items =>
    exact ⟨_, receiveRequest_of_wf ((Laws.Wellformed.ofItems slot first items _ rfl).mp h).1 s⟩
  case setSweepPlan plan => exact ⟨_, receiveRequest_of_wf ((Laws.Wellformed.ofPlan plan _ rfl).mp h).1 s⟩
  all_goals exact ⟨_, rfl⟩

theorem exec_of_not_wf {c : Instr} (h : c.wf = false) (s : State) : exec c s = .fault .noSuchMessage := by
  cases c
  case declareFrames slot first items =>
    have hitems : itemsWf items = false := h
    exact receiveRequest_of_not_wf (by simp [Request.wf, hitems]) s
  case setSweepPlan plan => exact receiveRequest_of_not_wf (r := .setSweepPlan plan) h s
  all_goals cases h

/-- Settles O3: `exec_of_wf` and `exec_of_not_wf`, and the queue by `Reach.pending_eq`. -/
theorem wellformedCommandsComplete : Obligations.WellformedCommandsComplete := by
  intro c s
  refine ⟨fun h => ?_, fun h => exec_of_not_wf h s⟩
  obtain ⟨t, ht⟩ := exec_of_wf h s
  exact ⟨t, ht, (Reach.exec ht).pending_eq⟩

/-! ## The other rows that bring a byte, and the gap -/

/-- An event carried out on a part that is not held in reset. -/
theorem next_live_of_running {s : State} (h : running s = true) (f : State → State) :
    (Host.Outcome.next (live s f) : Host.Outcome State Fault Refusal) = .next (f s) := by
  rw [live_of_running (by simpa [running] using h)]

theorem exec_gap {s : State} (h : running s = true) : exec .gap s = .next (requestGap s) := next_live_of_running h _

theorem requestBroken_eq (s : State) : requestBroken s =
    { s with rlp := { s.rlp with receiver := .hunt, gapTimer := none, flags := { s.rlp.flags with noise := true } } } := by
  rw [requestBroken, receive_hunt]
  rfl

/-- In HUNT no gap is timed; elsewhere the partial message is dropped and GAP is set (R170). -/
theorem requestGap_of_ne_hunt {s : State} (h : s.rlp.receiver ≠ .hunt) : requestGap s =
    { s with rlp := { s.rlp with receiver := .hunt, gapTimer := none, flags := { s.rlp.flags with gap := true } } } := by
  have hgap : requestGap s = (s.receive .hunt).setGap := by
    unfold requestGap
    split
    · exact absurd ‹_› h
    all_goals rfl
  rw [hgap, receive_hunt]
  rfl

theorem requestGap_of_hunt {s : State} (h : s.rlp.receiver = .hunt) : requestGap s = s := by
  rw [requestGap, h]

/-- Settles O9: the byte rows are one function, and the cuts are `requestBroken_eq` and the two cases of `requestGap`. -/
theorem otherByteRowsAndGaps : Obligations.OtherByteRowsAndGaps := by
  refine ⟨fun s b => ⟨rfl, rfl⟩, ?bytes, fun s hrun => ⟨fun hinside => ?gap, fun hhunt => ?hunt⟩⟩
  case bytes =>
    intro s hrun noisy
    refine ⟨(next_live_of_running hrun _).trans (congrArg _ (requestBroken_eq s)), fun hlength => ?_⟩
    have hbyte : requestByte 0 s = requestBroken s := by
      rw [requestByte_of_length hlength, if_pos rfl]
      rfl
    exact (next_live_of_running hrun _).trans (congrArg _ (hbyte.trans (requestBroken_eq s)))
  case gap => rw [exec_gap hrun, requestGap_of_ne_hunt hinside]
  case hunt => rw [exec_gap hrun, requestGap_of_hunt hhunt]

/-! ## Messages placed, checked and answered -/

theorem placeMessage_of_idle {s : State} (hp : s.rlp.processing = none) (hw : s.rlp.waiting = none) (m : Message) :
    s.placeMessage m = s.takeMessage m := by
  rw [State.placeMessage, hp, hw]

theorem placeMessage_of_processing {s : State} {p : Processing} (hp : s.rlp.processing = some p)
    (hw : s.rlp.waiting = none) (m : Message) : s.placeMessage m = { s with rlp := { s.rlp with waiting := some m } } := by
  rw [State.placeMessage, hp, hw]

theorem placeMessage_of_waiting {s : State} {w : Message} (hw : s.rlp.waiting = some w) (m : Message) :
    s.placeMessage m = s.setOverrun := by
  rw [State.placeMessage, hw]
  split <;> simp_all

theorem exec_requestMessageComplete {s : State} (hrun : running s = true) {b high len : Byte} {body : List Byte}
    (h : s.rlp.receiver = .check len body (some high)) : exec (.requestMessageComplete b) s =
      .next (State.placeMessage { s with rlp := { s.rlp with receiver := .hunt, gapTimer := none } } ⟨len, body, high ++ b⟩) := by
  rw [← receive_hunt, ← requestByte_of_check_second h]
  exact next_live_of_running hrun _

/-- The end of an answer that was not RESTART's frees the port, and a message that waits is taken (R172). -/
theorem answerSent_of_answered {s : State} {p : Processing} (hp : s.rlp.processing = some p)
    (hrestart : s.rlp.restartTaken = false) (lr1 lr0 : Bool) :
    answerSent lr1 lr0 s = match s.rlp.waiting with
      | some m => State.takeMessage { s with rlp := { s.rlp with processing := none, waiting := none } } m
      | none => { s with rlp := { s.rlp with processing := none, waiting := none } } := by
  rw [answerSent, hp]
  simp only [hrestart, Bool.false_eq_true, if_false] <;> rfl

theorem takeMessage_of_badCrc {s : State} {m : Message} (h : crcOf (m.length :: m.body) ≠ m.crc) :
    s.takeMessage m = (s.refuse .badCrc).send m := by
  rw [State.takeMessage, Message.reply, if_neg (by simpa [Message.crcOk] using h)]

/-- A message with its CRC right is answered by what its body reads as (R173, steps 2 to 4). -/
theorem takeMessage_of_crc {s : State} {m : Message} (h : crcOf (m.length :: m.body) = m.crc) :
    s.takeMessage m = Reply.send (match parseBody m.body with
      | .unknown => s.refuse .unknown
      | .badLength => s.refuse .badLength
      | .ok r => carryOut r s) m := by
  rw [State.takeMessage, Message.reply, if_pos (by simpa [Message.crcOk] using h)] <;> rfl

/-- The request codes of 10.3. -/
def requestCodes : List Nat :=
  [0x01, 0x02, 0x03, 0x04, 0x05, 0x06, 0x10, 0x11, 0x12, 0x13, 0x14, 0x15, 0x16, 0x17, 0x18, 0x19, 0x1A, 0x1B, 0x20, 0x21,
    0x22, 0x30, 0x31, 0x32, 0x33, 0x34, 0x35, 0x36, 0x37, 0x40, 0x41, 0x42]

theorem Parsed.ofOption_ne_unknown (x : Option Request) : Parsed.ofOption x ≠ .unknown := by
  cases x <;> nofun

/-- A body names no request exactly where its code is none of 10.3 (R173, step 2). -/
theorem parseArguments_eq_unknown_iff (code : Byte) (args : List Byte) :
    parseArguments code args = .unknown ↔ code.toNat ∉ requestCodes := by
  constructor
  · intro h hmem
    revert h
    unfold parseArguments
    split
    case h_33 => simp_all [requestCodes]
    all_goals (repeat' split) <;> first | exact Parsed.ofOption_ne_unknown _ | nofun
  · intro h
    unfold parseArguments
    split
    case h_33 => rfl
    all_goals simp_all [requestCodes]

/-- The answer being sent on a reply. -/
theorem Reply.send_eq (r : Reply) (m : Message) : r.send m = { r.state with rlp := { r.state.rlp with
    processing := some ⟨m, ⟨m.body.headD 0, r.result, r.state.summary, r.data⟩⟩, flags := ⟨false, false, false⟩ } } := rfl

/-- The CRC of the characters 1 to 9 (R174). -/
theorem crcOf_check : crcOf [0x31, 0x32, 0x33, 0x34, 0x35, 0x36, 0x37, 0x38, 0x39] = 0x29B1 := by
  decide +kernel

/-- Settles O10: where a message goes by `State.placeMessage`, what it answers by `takeMessage_of_badCrc` and `takeMessage_of_crc`. -/
theorem messagesPlacedAndChecked : Obligations.MessagesPlacedAndChecked := by
  refine ⟨fun s hrun => ⟨?placed, ?sent⟩, ⟨?taken, fun code args => parseArguments_eq_unknown_iff code args, crcOf_check⟩⟩
  case placed =>
    intro b high len body hr u m
    rw [exec_requestMessageComplete hrun hr]
    exact ⟨fun hp hw => congrArg _ (placeMessage_of_idle (s := u) hp hw _),
      fun p hp hw => congrArg _ (placeMessage_of_processing (s := u) hp hw _), fun p w _ hw =>
          congrArg _ (placeMessage_of_waiting (s := u) hw _)⟩
  case sent =>
    intro p lr1 lr0 hp hrestart u
    have hsent : exec (.answerSent lr1 lr0) s = .next (answerSent lr1 lr0 s) := next_live_of_running hrun _
    rw [hsent, answerSent_of_answered hp hrestart]
    exact ⟨fun hw => by rw [hw], fun m hw => by rw [hw]⟩
  case taken =>
    intro s m echo sent
    refine ⟨fun hbad => takeMessage_of_badCrc hbad, fun hcrc => ⟨fun hparse => ?_, fun hparse => ?_, fun r hparse => ?_⟩⟩
    all_goals
      rw [takeMessage_of_crc hcrc, hparse]
      rfl

/-! ## The summary byte and the attention line -/

theorem finalWaiting_iff {s : State} : s.finalWaiting = true ↔
    ∃ t, (s.ticket t).state = .done ∨ (s.ticket t).state = .failed ∨ (s.ticket t).state = .cancelled := by
  simp [State.finalWaiting, mem_allTickets, TicketState.isFinal_iff]

theorem EventSet.isEmpty_iff {e : EventSet} : e.isEmpty = true ↔ e = ⟨false, false, false, false, false, false⟩ := by
  cases e
  simp [EventSet.isEmpty, and_assoc]

theorem eventsWaiting_iff {s : State} :
    s.eventsWaiting = true ↔ ∃ d, (s.deck d).events ≠ ⟨false, false, false, false, false, false⟩ := by
  have both {p : DeckId → Prop} : (∃ d, p d) ↔ p .a ∨ p .b :=
    ⟨fun ⟨d, h⟩ => by cases d <;> simp [h], fun h => h.elim (⟨_, ·⟩) (⟨_, ·⟩)⟩
  simp only [State.eventsWaiting, Bool.or_eq_true, Bool.not_eq_true', ← Bool.not_eq_true, EventSet.isEmpty_iff, both, ne_eq]

theorem LinkFlags.any_iff {f : LinkFlags} : f.any = true ↔ f.gap = true ∨ f.noise = true ∨ f.overrun = true := by
  simp [LinkFlags.any, or_assoc]

theorem getLsbD_bitAt {n i : Nat} (hi : i < 8) (b : Bool) :
    (bitAt n b).getLsbD i = (b && decide (n = i)) := by
  cases b
  · simp [bitAt]
  · rw [bitAt, if_pos rfl, BitVec.getLsbD_ofNat, Nat.testBit_two_pow]
    simp [hi]

/-- The bits of a byte made of six flags. -/
theorem getLsbD_bitAt_or (b0 b1 b2 b3 b4 b5 : Bool) {i : Nat} (hi : i < 8) :
    (bitAt 0 b0 ||| bitAt 1 b1 ||| bitAt 2 b2 ||| bitAt 3 b3 ||| bitAt 4 b4 ||| bitAt 5 b5).getLsbD i =
      [b0, b1, b2, b3, b4, b5].getD i false := by
  simp only [BitVec.getLsbD_or, getLsbD_bitAt hi]
  interval_cases i <;> simp

/-- Settles O12: the bits of the summary and the causes of the attention line are the same flags. -/
theorem summaryAndAttention : Obligations.SummaryAndAttention := by
  intro s final events link
  have hbit {i : Nat} (hi : i < 8) : s.summary.getLsbD i =
      [s.finalWaiting, s.eventsWaiting, s.rlp.flags.any, s.rlp.flags.gap, s.rlp.flags.noise, s.rlp.flags.overrun].getD i false :=
    getLsbD_bitAt_or _ _ _ _ _ _ hi
  refine ⟨?_, ?_, ?_, hbit (i := 3) (by decide), hbit (i := 4) (by decide), hbit (i := 5) (by decide), hbit (i := 6)
      (by decide), hbit (i := 7) (by decide), ?_⟩
  · rw [hbit (by decide)]
    exact finalWaiting_iff
  · rw [hbit (by decide)]
    exact eventsWaiting_iff
  · rw [hbit (by decide)]
    exact LinkFlags.any_iff
  · simp only [State.atn, running, Bool.and_eq_true, Bool.or_eq_true, finalWaiting_iff, eventsWaiting_iff, LinkFlags.any_iff,
      or_assoc]
    rfl

end Sys2Proof.Machine
end

section
/-! PROOFS. The bodies of the requests and the reading of a body back into a request (R173, R189, 10.3). -/

namespace Sys2Proof.Machine

/-! ## Fields of two and three bytes -/

theorem join16_bytes (h : Half) : join16 (h.extractLsb' 8 8) (h.extractLsb' 0 8) = h := by
  unfold join16
  rw [BitVec.extractLsb'_append_extractLsb'_eq_extractLsb' (by rfl)]
  simp

theorem join24_bytes (h : BitVec 24) : join24 (h.extractLsb' 16 8) (h.extractLsb' 8 8) (h.extractLsb' 0 8) = h := by
  unfold join24
  rw [BitVec.extractLsb'_append_extractLsb'_eq_extractLsb' (by rfl)]
  rw [BitVec.extractLsb'_append_extractLsb'_eq_extractLsb' (by rfl)]
  simp

/-- The upper part of two words joined. -/
theorem extractLsb'_append_high {n m : Nat} (x : BitVec n) (y : BitVec m) : (x ++ y).extractLsb' m n = x := by
  apply BitVec.eq_of_getLsbD_eq
  intro i hi
  simp [BitVec.getLsbD_append, hi]

/-- A field that lies in the lower part of two words joined. -/
theorem extractLsb'_append_low {n m k j : Nat} (x : BitVec n) (y : BitVec m) (h : j + k ≤ m) :
    (x ++ y).extractLsb' j k = y.extractLsb' j k := by
  apply BitVec.eq_of_getLsbD_eq
  intro i hi
  simp [BitVec.getLsbD_append, show j + i < m by omega]

/-- A field that lies in the upper part of two words joined. -/
theorem extractLsb'_append_upper {n m k j : Nat} (x : BitVec n) (y : BitVec m) :
    (x ++ y).extractLsb' (m + j) k = x.extractLsb' j k := by
  apply BitVec.eq_of_getLsbD_eq
  intro i hi
  simp [BitVec.getLsbD_append, show ¬ m + j + i < m by omega, show m + j + i - m = j + i by omega]

theorem extractLsb'_byte (b : Byte) : b.extractLsb' 0 8 = b := by simp

theorem bytes16_join16 (b1 b0 : Byte) : bytes16 (join16 b1 b0) = [b1, b0] := by
  have high : (join16 b1 b0).extractLsb' 8 8 = b1 := extractLsb'_append_high b1 b0
  have low : (join16 b1 b0).extractLsb' 0 8 = b0 :=
    (extractLsb'_append_low b1 b0 (Nat.le_refl 8)).trans (extractLsb'_byte b0)
  rw [bytes16, high, low]

theorem bytes24_join24 (b2 b1 b0 : Byte) : bytes24 (join24 b2 b1 b0) = [b2, b1, b0] := by
  have high : (join24 b2 b1 b0).extractLsb' 16 8 = b2 :=
    (extractLsb'_append_upper (m := 8) (j := 8) (b2 ++ b1) b0).trans (extractLsb'_append_high b2 b1)
  have mid : (join24 b2 b1 b0).extractLsb' 8 8 = b1 :=
    (extractLsb'_append_upper (m := 8) (j := 0) (b2 ++ b1) b0).trans
      ((extractLsb'_append_low b2 b1 (Nat.le_refl 8)).trans (extractLsb'_byte b1))
  have low : (join24 b2 b1 b0).extractLsb' 0 8 = b0 :=
    (extractLsb'_append_low (b2 ++ b1) b0 (Nat.le_refl 8)).trans (extractLsb'_byte b0)
  rw [bytes24, high, mid, low]

/-! ## The items of a DECLARE FRAMES -/

theorem itemBytes_of_msb {c : Byte} (h : c.msb = true) (p : BitVec 24) (x : Half) :
    itemBytes ⟨p, c, x⟩ = bytes24 p ++ c :: bytes16 x := by
  simp [itemBytes, h]

theorem itemBytes_of_not_msb {c : Byte} (h : c.msb = false) (p : BitVec 24) (x : Half) :
    itemBytes ⟨p, c, x⟩ = bytes24 p ++ [c] := by
  simp [itemBytes, h]

theorem parseItems_bytes (items : List DeclItem) (h : items.all DeclItem.wf = true) :
    parseItems items.length (items.flatMap itemBytes) = some items := by
  induction items with
  | nil => rfl
  | cons i rest ih =>
    rw [List.all_cons, Bool.and_eq_true] at h
    obtain ⟨hi, hrest⟩ := h
    obtain ⟨position, c, setpoint⟩ := i
    cases hmsb : c.msb with
    | true =>
      rw [List.flatMap_cons, itemBytes_of_msb hmsb]
      simp [parseItems, bytes24, bytes16, hmsb, ih hrest, join24_bytes, join16_bytes]
    | false =>
      have hzero : setpoint = 0 := by simpa [DeclItem.wf, hmsb] using hi
      rw [List.flatMap_cons, itemBytes_of_not_msb hmsb]
      simp [parseItems, bytes24, hmsb, ih hrest, join24_bytes, hzero]

/-- Items sent with a setpoint where its flag is set. -/
def Sent (n : Nat) (items : List DeclItem) (bytes : List Byte) : Prop :=
  items.length = n ∧ items.all DeclItem.wf = true ∧ items.flatMap itemBytes = bytes

theorem Sent.nil : Sent 0 [] [] := ⟨rfl, rfl, rfl⟩

theorem Sent.cons_long {n : Nat} {items : List DeclItem} {bytes : List Byte} (h : Sent n items bytes)
    (p2 p1 p0 s1 s0 : Byte) {c : Byte} (hc : c.msb = true) :
    Sent (n + 1) (⟨join24 p2 p1 p0, c, join16 s1 s0⟩ :: items) (p2 :: p1 :: p0 :: c :: s1 :: s0 :: bytes) := by
  obtain ⟨hlen, hwf, hbytes⟩ := h
  refine ⟨by rw [List.length_cons, hlen], by simp [DeclItem.wf, hc, hwf], ?_⟩
  rw [List.flatMap_cons, hbytes, itemBytes_of_msb hc, bytes24_join24, bytes16_join16]
  rfl

theorem Sent.cons_short {n : Nat} {items : List DeclItem} {bytes : List Byte} (h : Sent n items bytes)
    (p2 p1 p0 : Byte) {c : Byte} (hc : c.msb = false) :
    Sent (n + 1) (⟨join24 p2 p1 p0, c, 0⟩ :: items) (p2 :: p1 :: p0 :: c :: bytes) := by
  obtain ⟨hlen, hwf, hbytes⟩ := h
  refine ⟨by rw [List.length_cons, hlen], by simp [DeclItem.wf, hwf], ?_⟩
  rw [List.flatMap_cons, hbytes, itemBytes_of_not_msb hc, bytes24_join24]
  rfl

theorem parseItems_sent (n : Nat) (bytes : List Byte) (items : List DeclItem) (h : parseItems n bytes = some items) :
    Sent n items bytes := by
  fun_induction parseItems n bytes generalizing items with
  | case1 => exact Option.some.inj h ▸ Sent.nil
  | case2 n p2 p1 p0 c hmsb s1 s0 rest ih =>
    obtain ⟨tail, htail, rfl⟩ := Option.map_eq_some_iff.mp h
    exact (ih _ htail).cons_long p2 p1 p0 s1 s0 hmsb
  | case3 => cases h
  | case4 n p2 p1 p0 c rest hmsb ih =>
    obtain ⟨tail, htail, rfl⟩ := Option.map_eq_some_iff.mp h
    exact (ih _ htail).cons_short p2 p1 p0 (by simpa using hmsb)
  | case5 => cases h

/-! ## The steps of a sweep plan -/

theorem parseSteps_bytes (steps : List StepWire) (rest : List Byte) :
    parseSteps steps.length (steps.flatMap stepBytes ++ rest) = some (steps, rest) := by
  induction steps with
  | nil => rfl
  | cons w steps ih => simp [stepBytes, bytes16, parseSteps, ih, join16_bytes]

theorem parseSteps_sent (n : Nat) (bytes : List Byte) (x : List StepWire × List Byte) (h : parseSteps n bytes = some x) :
    x.1.length = n ∧ x.1.flatMap stepBytes ++ x.2 = bytes := by
  fun_induction parseSteps n bytes generalizing x with
  | case1 bytes => exact Option.some.inj h ▸ ⟨rfl, rfl⟩
  | case2 n f o1 o0 bytes ih =>
    obtain ⟨tail, htail, rfl⟩ := Option.map_eq_some_iff.mp h
    obtain ⟨hlen, hbytes⟩ := ih _ htail
    refine ⟨by rw [List.length_cons, hlen], ?_⟩
    rw [← hbytes]
    simp [stepBytes, bytes16_join16]
  | case3 => cases h

/-! ## A body built and read -/

/-- The body of a request that a message can carry reads back as that request. -/
theorem parseBody_body {r : Request} (h : r.wf = true) : parseBody r.body = .ok r := by
  cases r
  case declareFrames slot first count items =>
    simp only [Request.wf, itemsWf, Bool.and_eq_true, beq_iff_eq] at h
    obtain ⟨hcount, hitems, -⟩ := h
    change Parsed.ofOption ((parseItems count.toNat (items.flatMap itemBytes)).map _) = _
    rw [hcount, parseItems_bytes items hitems, join16_bytes]
    rfl
  case setSweepPlan plan =>
    have hlen : plan.steps.length = 12 := by simpa [Request.wf, PlanWire.wf] using h
    have hread : parseSteps 12 (planBytes plan) = some (plan.steps, [plan.extension, plan.pause]) :=
      hlen ▸ parseSteps_bytes plan.steps _
    simp only [Request.body, Request.code, Request.arguments, parseBody, parseArguments, BitVec.reduceToNat, hread]
  all_goals
    change Parsed.ok _ = _
    simp only [join16_bytes, join24_bytes]

/-- What is read of arguments under a code is a request with that code and those arguments, one that a message can carry. -/
def ReadsBack (code : Byte) (args : List Byte) (p : Parsed) : Prop :=
  ∀ r, p = .ok r → (r.wf = true ∨ 255 < 1 + args.length) ∧ r.code = code ∧ r.arguments = args

theorem ReadsBack.ok {r : Request} {code : Byte} {args : List Byte} (hw : r.wf = true) (hc : r.code = code)
    (ha : r.arguments = args) : ReadsBack code args (.ok r) := by
  rintro _ ⟨⟩
  exact ⟨.inl hw, hc, ha⟩

theorem ReadsBack.badLength {code : Byte} {args : List Byte} : ReadsBack code args .badLength := by
  rintro _ ⟨⟩

theorem ReadsBack.unknown {code : Byte} {args : List Byte} : ReadsBack code args .unknown := by
  rintro _ ⟨⟩

theorem ReadsBack.ofArg0 {r : Request} {code : Byte} {args : List Byte} (hw : r.wf = true) (hc : r.code = code)
    (ha : r.arguments = []) : ReadsBack code args (.ofOption (arg0 r args)) := by
  match args with
  | [] => exact .ok hw hc ha
  | _ :: _ => exact .badLength

theorem ReadsBack.ofArg1 {f : Byte → Request} {code : Byte} {args : List Byte} (hw : ∀ a, (f a).wf = true)
    (hc : ∀ a, (f a).code = code) (ha : ∀ a, (f a).arguments = [a]) : ReadsBack code args (.ofOption (arg1 f args)) := by
  match args with
  | [] => exact .badLength
  | [a] => exact .ok (hw a) (hc a) (ha a)
  | _ :: _ :: _ => exact .badLength

theorem ReadsBack.ofArgFrame {f : Byte → Half → Request} {code : Byte} {args : List Byte} (hw : ∀ k n, (f k n).wf = true)
    (hc : ∀ k n, (f k n).code = code) (ha : ∀ k n, (f k n).arguments = k :: bytes16 n) :
    ReadsBack code args (.ofOption (argFrame f args)) := by
  unfold argFrame
  split
  · exact .ok (hw _ _) (hc _ _) (by rw [ha, bytes16_join16])
  · exact .badLength

theorem ReadsBack.ofArgAdmit {f : Byte → Half → Byte → Byte → Request} {code : Byte} {args : List Byte}
    (hw : ∀ k n p o, (f k n p o).wf = true) (hc : ∀ k n p o, (f k n p o).code = code)
    (ha : ∀ k n p o, (f k n p o).arguments = k :: bytes16 n ++ [p, o]) :
    ReadsBack code args (.ofOption (argAdmit f args)) := by
  unfold argAdmit
  split
  · exact .ok (hw _ _ _ _) (hc _ _ _ _) (by rw [ha, bytes16_join16]; rfl)
  · exact .badLength

theorem ReadsBack.ofParams {args : List Byte} :
    ReadsBack 0x04 args (.ofOption ((parseParams args).map .setParameters)) := by
  unfold parseParams
  split
  · exact .ok rfl rfl (by simp [Request.arguments, paramBytes, bytes16_join16])
  · exact .badLength

theorem ReadsBack.ofItems {k f1 f0 n : Byte} {rest : List Byte} : ReadsBack 0x11 (k :: f1 :: f0 :: n :: rest)
    (.ofOption ((parseItems n.toNat rest).map (.declareFrames k (join16 f1 f0) n))) := by
  intro r hr
  cases hitems : parseItems n.toNat rest with
  | none => simp [hitems, Parsed.ofOption] at hr
  | some items =>
    obtain ⟨hlen, hwf, hbytes⟩ := parseItems_sent _ _ _ hitems
    obtain rfl : Request.declareFrames k (join16 f1 f0) n items = r := by simpa [hitems, Parsed.ofOption] using hr
    have hsum : (items.map DeclItem.size).sum = rest.length := by rw [← Laws.Wellformed.items_length, hbytes]
    refine ⟨?_, rfl, by simp [Request.arguments, bytes16_join16, hbytes]⟩
    simp only [Request.wf, itemsWf, hlen, hwf, hsum, List.length_cons, beq_self_eq_true, Bool.true_and, decide_eq_true_eq]
    omega

theorem ReadsBack.ofSteps {args : List Byte} : ReadsBack 0x40 args (match parseSteps 12 args with
    | some (steps, [e, p]) => .ok (.setSweepPlan ⟨steps, e, p⟩)
    | _ => .badLength) := by
  split
  · rename_i steps e p hsteps
    obtain ⟨hlen, hbytes⟩ := parseSteps_sent _ _ _ hsteps
    exact .ok (by simp [Request.wf, PlanWire.wf, hlen]) rfl (by simp [Request.arguments, planBytes, ← hbytes])
  · exact .badLength

theorem readsBack_parseArguments (code : Byte) (args : List Byte) : ReadsBack code args (parseArguments code args) := by
  have literal : ∀ n : Nat, code.toNat = n → BitVec.ofNat 8 n = code := by rintro _ rfl; simp
  unfold parseArguments
  split
  all_goals (try rename_i hcode)
  all_goals (try obtain rfl := literal _ hcode)
  case h_4 => exact .ofParams
  case h_8 =>
    split
    · exact .ofItems
    · exact .badLength
  case h_30 => exact .ofSteps
  case h_33 => exact .unknown
  case h_1 | h_2 | h_3 | h_5 | h_6 | h_31 | h_32 => exact .ofArg0 rfl rfl rfl
  case h_9 | h_16 | h_19 | h_20 | h_21 | h_27 | h_28 | h_29 => exact .ofArg1 (fun _ => rfl) (fun _ => rfl) fun _ => rfl
  case h_14 | h_15 => exact .ofArgFrame (fun _ _ => rfl) (fun _ _ => rfl) fun _ _ => rfl
  case h_22 | h_24 | h_25 | h_26 =>
    exact .ofArgAdmit (fun _ _ _ _ => rfl) (fun _ _ _ _ => rfl) fun _ _ _ _ => rfl
  all_goals
    split
    · exact .ok rfl rfl (by simp [Request.arguments, bytes16_join16, bytes24_join24])
    · exact .badLength

/-- Settles O11: a request read of a body is one whose body this is, and the body of a request that a message can carry reads back
as that request. -/
theorem requestBodiesReadBack : Obligations.RequestBodiesReadBack := by
  intro body r hlen
  refine ⟨fun hread => ?_, fun ⟨hwf, hbody⟩ => hbody ▸ parseBody_body hwf⟩
  cases body with
  | nil => cases hread
  | cons code args =>
    obtain ⟨hwf, rfl, rfl⟩ := readsBack_parseArguments code args r hread
    rw [List.length_cons] at hlen
    exact ⟨hwf.resolve_right (by omega), rfl⟩

end Sys2Proof.Machine
end

section
/-! PROOFS. A request that no message bars, and its reply: refusals (R186, R75, R188), record writes (R72, R80 to R82), and the
requests that make and name entries (R58, R60). -/

namespace Sys2Proof.Machine

/-! ## A request and its reply -/

/-- On an idle link a request that a message can carry is answered with what its owner returns (R173, R174). -/
theorem receiveRequest_of_carryOut (r : Request) {s t : State} {c : ResultCode} {data : List Byte}
    (hidle : linkIdle s = true) (hwf : r.wf = true) (hlen : r.body.length.ble 255 = true)
    (hreply : carryOut r s = ⟨t, c, data⟩) : receiveRequest r s = .next (answered t r c data) :=
  receiveRequest_of_reply hidle hwf (Nat.le_of_ble_eq_true hlen) (parseBody_body hwf) hreply

/-- A reply that is either carried out or leaves the state as it was, without answer data. -/
def Reply.Honest (s : State) (r : Reply) : Prop := r.result ≠ .ok → r.state = s ∧ r.data = []

theorem Reply.Honest.refuse (s : State) (c : ResultCode) : (s.refuse c).Honest s := fun _ => ⟨rfl, rfl⟩

theorem Reply.Honest.answer (s t : State) (data : List Byte) : (t.answer data).Honest s := fun h => absurd rfl h

theorem Reply.Honest.frameRequest {s : State} {slot : Byte} {frame : Half} {ok : Bool} {act : Slot → Nat → Reply}
    (h : ∀ k f, (act k f).Honest s) : (s.frameRequest slot frame ok act).Honest s := by
  unfold State.frameRequest
  repeat' split
  all_goals first | exact .refuse _ _ | exact h _ _

theorem Reply.Honest.enterTicket (s : State) (a : Admission) : (s.enterTicket a).Honest s := by
  unfold State.enterTicket
  split
  · exact .refuse _ _
  · exact .refuse _ _
  · exact .answer _ _ _

theorem Reply.Honest.admitChecked (s : State) (slot priority : Byte) (ok : Bool) (a : Slot → Admission) :
    (s.admitChecked slot priority ok a).Honest s := by
  unfold State.admitChecked
  repeat' split
  · exact .refuse _ _
  · exact .refuse _ _
  · exact .enterTicket _ _

/-- Settles O17: each owner either answers or refuses, and `Reply.Honest` says what a refusal leaves. -/
theorem refusedRequestsChangeNothing : Obligations.RefusedRequestsChangeNothing := by
  intro r s
  change (carryOut r s).Honest s
  cases r
  case identify | status | events | readParameters | restart | readSweepPlan | readSweepResult => exact .answer _ _ _
  case fetch | range | locate | focus | index => exact .admitChecked _ _ _ _ _
  case readFrames | annotateFrame | restoreFrame => exact .frameRequest fun _ _ => .answer _ _ _
  case setFocus =>
    refine .frameRequest fun _ _ => ?_
    split
    · exact .answer _ _ _
    · exact .answer _ _ _
  case withdrawFrame =>
    refine .frameRequest fun _ _ => ?_
    split
    · exact .refuse _ _
    · exact .answer _ _ _
  all_goals
    simp only [carryOut, State.setParameters, State.declareRoll, State.declareFrames, State.readRoll, State.findFrame,
      State.retireRoll, State.nameRoll, State.bindDeck, State.mountDeck, State.unmountDeck, State.clearDeck,
      State.cancelTicket, State.queryTicket, State.collectTicket, State.setSweepPlan]
    repeat' split
    all_goals first | exact .refuse _ _ | exact .answer _ _ _

/-! ## Requests that name a frame -/

theorem slotOf_eq_none_iff {slot : Byte} : slotOf slot = none ↔ 16 ≤ slot.toNat := by simp [slotOf]

section
variable {s : State} {slot : Byte} {frame : Half} {ok : Bool} {act : Slot → Nat → Reply} {k : Slot}

theorem frameRequest_of_no_slot (h : 16 ≤ slot.toNat) : s.frameRequest slot frame ok act = s.refuse .badArgument := by
  rw [State.frameRequest, slotOf_of_ge h]

theorem frameRequest_of_bad_arguments (h : ok = false) : s.frameRequest slot frame ok act = s.refuse .badArgument := by
  unfold State.frameRequest
  split
  · rfl
  · rw [if_pos h]

theorem frameRequest_of_free (hk : slot.toNat = k.val) (hok : ok = true) (hfree : (s.entry k).state = .free) :
    s.frameRequest slot frame ok act = s.refuse .notListed := by
  simp only [State.frameRequest, slotOf_of_toNat_eq hk, hok, hfree, if_true, Bool.true_eq_false, if_false]

theorem frameRequest_of_outside (hk : slot.toNat = k.val) (hok : ok = true) (hfree : (s.entry k).state ≠ .free)
    (hout : frame.toNat = 0 ∨ (s.entry k).frameCount < frame.toNat) :
    s.frameRequest slot frame ok act = s.refuse .notFound := by
  simp only [State.frameRequest, slotOf_of_toNat_eq hk, hok, hfree, Bool.true_eq_false, if_false]
  exact if_pos hout

theorem frameRequest_of_frame (hk : slot.toNat = k.val) (hok : ok = true) (hfree : (s.entry k).state ≠ .free)
    (h1 : 1 ≤ frame.toNat) (h2 : frame.toNat ≤ (s.entry k).frameCount) :
    s.frameRequest slot frame ok act = act k frame.toNat := by
  simp only [State.frameRequest, slotOf_of_toNat_eq hk, hok, hfree, Bool.true_eq_false, if_false]
  exact if_neg (by omega)

end

theorem setFocus_eq (s : State) (slot : Byte) (frame : Half) (flags : Byte) (setpoint : Half) :
    s.setFocus slot frame flags setpoint =
      s.frameRequest slot frame (!flags.getLsbD 0 || decide (setpoint.toNat ≤ Config.maxLens)) fun k f =>
        if flags.getLsbD 0 then
          let s := s.setRecord k f fun r => { r with
            setpoint := some setpoint.toNat, source := some .host, figure := none }
          (s.setEntry k { s.entry k with lastSetpoint := some setpoint.toNat }).answer []
        else (s.setRecord k f fun r => { r with setpoint := none, source := none, figure := none }).answer [] := rfl

theorem setFocus_arguments {flags : Byte} {setpoint : Half} :
    (!flags.getLsbD 0 || decide (setpoint.toNat ≤ Config.maxLens)) = true ↔
      flags.getLsbD 0 = false ∨ setpoint.toNat ≤ 4095 := by
  rw [Bool.or_eq_true, Bool.not_eq_true', decide_eq_true_iff]
  rfl

theorem hierarchyOk_iff {n : Half} : hierarchyOk n = true ↔ 1 ≤ n.toNat ∧ n.toNat ≤ 16384 := decide_eq_true_iff

theorem hierarchyOk_all_iff {sec group i : Half} : (hierarchyOk sec && hierarchyOk group && hierarchyOk i) = true ↔
    (1 ≤ sec.toNat ∧ sec.toNat ≤ 16384) ∧ (1 ≤ group.toNat ∧ group.toNat ≤ 16384) ∧ (1 ≤ i.toNat ∧ i.toNat ≤ 16384) := by
  simp only [Bool.and_eq_true, hierarchyOk_iff, and_assoc]

section
variable {s : State} {slot : Byte} {sec group i : Half} {k : Slot}

theorem findFrame_of_no_slot (h : 16 ≤ slot.toNat) : s.findFrame slot sec group i = s.refuse .badArgument := by
  rw [State.findFrame, slotOf_of_ge h]

theorem findFrame_of_bad_arguments (h : (hierarchyOk sec && hierarchyOk group && hierarchyOk i) = false) :
    s.findFrame slot sec group i = s.refuse .badArgument := by
  unfold State.findFrame
  split
  · rfl
  · rw [if_pos h]

theorem findFrame_of_free (hk : slot.toNat = k.val) (hok : (hierarchyOk sec && hierarchyOk group && hierarchyOk i) = true)
    (hfree : (s.entry k).state = .free) : s.findFrame slot sec group i = s.refuse .notListed := by
  simp only [State.findFrame, slotOf_of_toNat_eq hk, hok, hfree, if_true, Bool.true_eq_false, if_false]

end

theorem deckOf_of_ge {deck : Byte} (h : 2 ≤ deck.toNat) : deckOf deck = none := by
  unfold deckOf
  rw [if_neg, if_neg] <;> rintro rfl <;> simp at h

/-- Settles O18: the refusals of `State.frameRequest`, `State.findFrame` and `deckOf`. -/
theorem recordAndDeckCodeRefusals : Obligations.RecordAndDeckCodeRefusals := by
  refine ⟨?frames, ?decks⟩
  case decks =>
    intro s deck slot hidle hdeck
    have hnone := deckOf_of_ge hdeck
    refine ⟨receiveRequest_of_carryOut (.mount deck) hidle rfl rfl ?_,
      receiveRequest_of_carryOut (.unmount deck) hidle rfl rfl ?_,
      receiveRequest_of_carryOut (.clearDeck deck) hidle rfl rfl ?_,
      receiveRequest_of_carryOut (.bindDeck deck slot) hidle rfl rfl ?_⟩
    · simp only [carryOut, State.mountDeck, hnone]; rfl
    · simp only [carryOut, State.unmountDeck, hnone]; rfl
    · simp only [carryOut, State.clearDeck, hnone]; rfl
    · simp only [carryOut, State.bindDeck, hnone]; rfl
  case frames =>
    intro s slot count flags frame note setpoint sec group i hidle read focus find all refused countOk focusOk number findOk
    have answers (r : Request) {c : ResultCode} (hwf : r.wf = true) (hlen : r.body.length.ble 255 = true)
        (h : carryOut r s = s.refuse c) : receiveRequest r s = .next (answered s r c []) :=
      receiveRequest_of_carryOut r hidle hwf hlen h
    have reads {c : ResultCode} (h : s.readFrames slot frame count = s.refuse c) : refused read c :=
      answers (.readFrames slot frame count) rfl rfl h
    have sets {c : ResultCode} (h : s.setFocus slot frame flags setpoint = s.refuse c) : refused focus c :=
      answers (.setFocus slot frame flags setpoint) rfl rfl h
    have finds {c : ResultCode} (h : s.findFrame slot sec group i = s.refuse c) : refused find c :=
      answers (.findFrame slot sec group i) rfl rfl h
    have each {c : ResultCode} (h1 : s.readFrames slot frame count = s.refuse c)
        (h2 : s.setFocus slot frame flags setpoint = s.refuse c)
        (h : ∀ act, s.frameRequest slot frame true act = s.refuse c) : ∀ x ∈ all, refused x c := by
      simp only [all, List.forall_mem_cons]
      exact ⟨reads h1, sets h2, answers (.annotateFrame slot frame note) rfl rfl (by rw [carryOut, State.annotateFrame, h]),
        answers (.withdrawFrame slot frame) rfl rfl (by rw [carryOut, State.withdrawFrame, h]),
        answers (.restoreFrame slot frame) rfl rfl (by rw [carryOut, State.restoreFrame, h]), by simp⟩
    have count_iff : decide (1 ≤ count.toNat ∧ count.toNat ≤ 16) = true ↔ countOk := decide_eq_true_iff
    refine ⟨fun hcount => ?_, fun hfocus => ?_, fun hfind => ?_, fun hslot => ?_, fun k hk => ⟨fun hfree => ⟨fun hfind => ?_,
      fun hcount hfocus => ?_⟩, fun hfree hout hcount hfocus => ?_⟩⟩
    · exact reads (frameRequest_of_bad_arguments (Bool.eq_false_iff.mpr fun h => hcount (count_iff.mp h)))
    · refine sets ((setFocus_eq ..).trans (frameRequest_of_bad_arguments ?_))
      exact Bool.eq_false_iff.mpr fun h => hfocus (setFocus_arguments.mp h)
    · exact finds (findFrame_of_bad_arguments (Bool.eq_false_iff.mpr fun h => hfind (hierarchyOk_all_iff.mp h)))
    · refine List.forall_mem_cons.mpr ⟨finds (findFrame_of_no_slot hslot), ?_⟩
      exact each (frameRequest_of_no_slot hslot) ((setFocus_eq ..).trans (frameRequest_of_no_slot hslot)) fun _ =>
          frameRequest_of_no_slot hslot
    · exact finds (findFrame_of_free hk (hierarchyOk_all_iff.mpr hfind) hfree)
    · exact each (frameRequest_of_free hk (count_iff.mpr hcount) hfree)
        ((setFocus_eq ..).trans (frameRequest_of_free hk (setFocus_arguments.mpr hfocus) hfree)) fun _ =>
            frameRequest_of_free hk rfl hfree
    · exact each (frameRequest_of_outside hk (count_iff.mpr hcount) hfree hout)
        ((setFocus_eq ..).trans (frameRequest_of_outside hk (setFocus_arguments.mpr hfocus) hfree hout))
        fun _ => frameRequest_of_outside hk rfl hfree hout

/-! ## Record writes -/

/-- A frame lies inside the range of a live ticket (R81, R72). -/
theorem frameHeld_iff {s : State} {k : Slot} {f : Nat} : s.frameHeld k f = true ↔
    ∃ t, (s.ticket t).state.isLive = true ∧ (s.ticket t).slot = some k ∧ (s.ticket t).kind ≠ some .index ∧
      (s.ticket t).first.getD 0 ≤ f ∧ f ≤ (s.ticket t).last.getD 0 := by
  simp [State.frameHeld, Ticket.holdsFrame, mem_allTickets, and_assoc]

/-- Settles O19: each request acts on the frame that `frameRequest_of_frame` hands it. -/
theorem recordWritesTaken : Obligations.RecordWritesTaken := by
  intro s slot k frame hidle hk hfree h1 h2 written held
  have acts (ok : Bool) (act : Slot → Nat → Reply) (hok : ok = true) :
      s.frameRequest slot frame ok act = act k frame.toNat := frameRequest_of_frame hk hok hfree h1 h2
  refine ⟨fun note => ?annotate, fun flags setpoint hflag hset => ?given, fun flags setpoint hflag => ?cleared,
    fun hheld => ?held, fun hheld => ?withdrawn, ?restored⟩
  case annotate =>
    refine receiveRequest_of_carryOut (.annotateFrame slot frame note) hidle rfl rfl ?_
    rw [carryOut, State.annotateFrame, acts true _ rfl]
    rfl
  case given =>
    refine receiveRequest_of_carryOut (.setFocus slot frame flags setpoint) hidle rfl rfl ?_
    rw [carryOut, setFocus_eq, acts _ _ (setFocus_arguments.mpr (.inr hset)), if_pos hflag]
    rfl
  case cleared =>
    refine receiveRequest_of_carryOut (.setFocus slot frame flags setpoint) hidle rfl rfl ?_
    rw [carryOut, setFocus_eq, acts _ _ (setFocus_arguments.mpr (.inl hflag)), if_neg (by rw [hflag]; decide)]
    rfl
  case held =>
    refine receiveRequest_of_carryOut (.withdrawFrame slot frame) hidle rfl rfl ?_
    rw [carryOut, State.withdrawFrame, acts true _ rfl, if_pos (frameHeld_iff.mpr hheld)]
    rfl
  case withdrawn =>
    refine receiveRequest_of_carryOut (.withdrawFrame slot frame) hidle rfl rfl ?_
    rw [carryOut, State.withdrawFrame, acts true _ rfl, if_neg fun h => hheld (frameHeld_iff.mp h)]
    rfl
  case restored =>
    refine receiveRequest_of_carryOut (.restoreFrame slot frame) hidle rfl rfl ?_
    rw [carryOut, State.restoreFrame, acts true _ rfl]
    rfl

end Sys2Proof.Machine
end

section
/-! PROOFS. The requests that make and name entries (R50, R58, R60), the parameters (R180, R181) and the sweep plan (R103). -/

namespace Sys2Proof.Machine

/-! ## The lowest-numbered of sixteen -/

/-- A search of the sixteen numbers in order finds the lowest one that fits. -/
theorem find?_allSlots_of_lowest {p : Fin 16 → Bool} {k : Fin 16} (hk : p k = true)
    (hlow : ∀ n, n < k → p n = false) : allSlots.find? p = some k := by
  have split_at : ∀ k : Fin 16, allSlots = allSlots.take k ++ k :: allSlots.drop (k + 1) := by decide
  have below : ∀ k : Fin 16, ∀ n ∈ allSlots.take k, n < k := by decide
  rw [List.find?_eq_some_iff_append]
  exact ⟨hk, _, _, split_at k, fun n hn => by simp [hlow n (below k n hn)]⟩

theorem lowestFreeEntry_iff {s : State} {k : Slot} : lowestFreeEntry s k = true ↔
    (s.entry k).state = .free ∧ ∀ n, n < k → (s.entry n).state ≠ .free := by
  simp [lowestFreeEntry, mem_allSlots, imp_iff_not_or]

theorem lowestFreeTicket_iff {s : State} {t : TicketNo} : lowestFreeTicket s t = true ↔
    (s.ticket t).state = .free ∧ ∀ u, u < t → (s.ticket u).state ≠ .free := by
  simp [lowestFreeTicket, mem_allTickets, imp_iff_not_or]

theorem freeSlot_of_lowest {s : State} {k : Slot} (h : lowestFreeEntry s k = true) : s.freeSlot = some k := by
  obtain ⟨hfree, hlow⟩ := lowestFreeEntry_iff.mp h
  exact find?_allSlots_of_lowest (by simpa using hfree) (by simpa using hlow)

theorem freeTicket_of_lowest {s : State} {t : TicketNo} (h : lowestFreeTicket s t = true) : s.freeTicket = some t := by
  obtain ⟨hfree, hlow⟩ := lowestFreeTicket_iff.mp h
  exact find?_allSlots_of_lowest (by simpa using hfree) (by simpa using hlow)

theorem freeSlot_eq_none_iff {s : State} : s.freeSlot = none ↔ ∀ n, (s.entry n).state ≠ .free := by
  simp [State.freeSlot, mem_allSlots]

theorem freeTicket_eq_none_iff {s : State} : s.freeTicket = none ↔ ∀ t, (s.ticket t).state ≠ .free := by
  simp [State.freeTicket, mem_allTickets]

theorem tagHolder_isSome_iff {s : State} {tag : Nat} :
    (s.tagHolder tag).isSome = true ↔ ∃ n, (s.entry n).tag = some tag := by
  simp [State.tagHolder, mem_allSlots]

/-! ## DECLARE ROLL and NAME ROLL -/

theorem widthOf_of_le {width : Byte} (h : width.toNat ≤ 1) :
    widthOf width = some (if width = 0 then .mm16 else .mm35) := by
  unfold widthOf
  split
  · rfl
  · rename_i h0
    rw [if_pos (by bv_omega)]

theorem widthOf_of_gt {width : Byte} (h : 1 < width.toNat) : widthOf width = none := by
  unfold widthOf
  rw [if_neg (by bv_omega), if_neg (by bv_omega)]

section
variable {s : State} {tag : BitVec 24} {width : Byte}

theorem declareRoll_of_bad (h : ¬ (tag.toNat ≤ 1048575 ∧ width.toNat ≤ 1)) :
    s.declareRoll tag width = s.refuse .badArgument := by
  unfold State.declareRoll
  split
  · rfl
  · rename_i w hw
    have hwidth : width.toNat ≤ 1 := by
      by_contra hgt
      rw [widthOf_of_gt (by omega)] at hw
      cases hw
    rw [if_pos]
    change 1048575 < tag.toNat
    omega

/-- The checks of R58 that follow the arguments' own. -/
theorem declareRoll_of_good (h1 : tag.toNat ≤ 1048575) (h2 : width.toNat ≤ 1) : s.declareRoll tag width =
    if (s.tagHolder tag.toNat).isSome then s.refuse .duplicate
    else match s.freeSlot with
      | none => s.refuse .full
      | some k => (s.setEntry k { Entry.free with
          state := .listed, tag := some tag.toNat, width := some (if width = 0 then .mm16 else .mm35) }).answer
            [num8 k.val] := by
  have hmax : ¬ tag.toNat > Config.maxTag := by change ¬ 1048575 < tag.toNat; omega
  simp only [State.declareRoll, widthOf_of_le h2, if_neg hmax] <;> rfl

end

section
variable {s : State} {slot : Byte} {tag : BitVec 24} {k : Slot}

/-- The checks of R60 in their order, on the entry that the slot number names. -/
theorem nameRoll_of_slot (hk : slot.toNat = k.val) : s.nameRoll slot tag =
    if 1048575 < tag.toNat then s.refuse .badArgument
    else if (s.entry k).state ≠ .mounted ∨ (s.entry k).tag.isSome = true then s.refuse .state
    else if (s.tagHolder tag.toNat).isSome = true then s.refuse .duplicate
    else (s.setEntry k { s.entry k with tag := some tag.toNat }).answer [] := by
  simp only [State.nameRoll, slotOf_of_toNat_eq hk] <;> rfl

theorem not_nameable_iff : (s.entry k).state ≠ .mounted ∨ (s.entry k).tag.isSome = true ↔
    ¬ ((s.entry k).state = .mounted ∧ (s.entry k).tag = none) := by
  rw [← Option.ne_none_iff_isSome]
  tauto

end

/-- Settles O20: the branches of `declareRoll_of_good` and of `nameRoll_of_slot`. -/
theorem declareAndNameRollTaken : Obligations.DeclareAndNameRollTaken := by
  refine ⟨fun s tag width hidle => ?declare, fun s slot tag hidle => ?name⟩
  case declare =>
    intro r heldTag good
    have does {t : State} {c : ResultCode} {data : List Byte} (h : s.declareRoll tag width = ⟨t, c, data⟩) :
        exec (.declareRoll tag width) s = .next (answered t r c data) :=
      receiveRequest_of_carryOut (.declareRoll tag width) hidle rfl rfl h
    have unheld (h : ¬ heldTag) : ¬ (s.tagHolder tag.toNat).isSome = true := fun hs => h (tagHolder_isSome_iff.mp hs)
    refine ⟨fun hbad => does (declareRoll_of_bad hbad), fun ⟨h1, h2⟩ hheld => does ?_, fun ⟨h1, h2⟩ hheld hfull => does ?_,
      fun ⟨h1, h2⟩ hheld k hk => does ?_⟩
    · rw [declareRoll_of_good h1 h2, if_pos (tagHolder_isSome_iff.mpr hheld)]
      rfl
    · rw [declareRoll_of_good h1 h2, if_neg (unheld hheld), freeSlot_eq_none_iff.mpr hfull]
      rfl
    · rw [declareRoll_of_good h1 h2, if_neg (unheld hheld), freeSlot_of_lowest hk]
      rfl
  case name =>
    intro r does
    have replies {t : State} {c : ResultCode} (h : s.nameRoll slot tag = ⟨t, c, []⟩) : does t c :=
      receiveRequest_of_carryOut (.nameRoll slot tag) hidle rfl rfl h
    refine ⟨fun hge => replies ?_, fun k hk => ?_⟩
    · rw [State.nameRoll, slotOf_of_ge hge]
      rfl
    · intro transient heldTag
      have small (h : tag.toNat ≤ 1048575) : ¬ 1048575 < tag.toNat := by omega
      have nameable (h : transient) : ¬ ((s.entry k).state ≠ .mounted ∨ (s.entry k).tag.isSome = true) :=
        fun hn => not_nameable_iff.mp hn h
      refine ⟨fun hbig => replies ?_, fun hle hn => replies ?_, fun hle ht hheld => replies ?_,
        fun hle ht hheld => replies ?_⟩
      · rw [nameRoll_of_slot hk, if_pos hbig]
        rfl
      · rw [nameRoll_of_slot hk, if_neg (small hle), if_pos (not_nameable_iff.mpr hn)]
        rfl
      · rw [nameRoll_of_slot hk, if_neg (small hle), if_neg (nameable ht), if_pos (tagHolder_isSome_iff.mpr hheld)]
        rfl
      · rw [nameRoll_of_slot hk, if_neg (small hle), if_neg (nameable ht),
          if_neg fun hs => hheld (tagHolder_isSome_iff.mp hs)]
        rfl

/-! ## SET PARAMETERS -/

theorem policyOf_of_le {b : Byte} (h : b.toNat ≤ 2) :
    policyOf b = some (if b = 0 then .off else if b = 1 then .onDemand else .track) := by
  unfold policyOf
  split
  · rfl
  · split
    · rfl
    · rw [if_pos (by bv_omega)]

theorem policyOf_of_gt {b : Byte} (h : 2 < b.toNat) : policyOf b = none := by
  unfold policyOf
  rw [if_neg (by bv_omega), if_neg (by bv_omega), if_neg (by bv_omega)]

/-- The ranges of a band as sent (9.7.1). -/
def BandOk (low high : Half) (limit : Byte) : Prop :=
  low.toNat ≤ 1022 ∧ low.toNat < high.toNat ∧ high.toNat ≤ 1023 ∧ 1 ≤ limit.toNat ∧ limit.toNat ≤ 15

theorem bandOf_of_ok {low high : Half} {limit : Byte} (h : BandOk low high limit) :
    bandOf low high limit = some ⟨low.toNat, high.toNat, limit.toNat⟩ := if_pos h

theorem bandOf_of_not_ok {low high : Half} {limit : Byte} (h : ¬ BandOk low high limit) : bandOf low high limit = none :=
  if_neg h

theorem paramRanges_iff {b : ParamWire} : paramRanges b = true ↔
    8 ≤ b.window.toNat ∧ (64 ≤ b.span.toNat ∧ b.span.toNat ≤ 4095) ∧
      (3 ≤ b.m1.toNat ∧ b.m1.toNat < b.m2.toNat ∧ b.m2.toNat < b.m3.toNat ∧ b.m3.toNat ≤ 250) ∧
      (5 ≤ b.headTimeout.toNat ∧ b.headTimeout.toNat ≤ 1000) ∧ (1 ≤ b.tenureLimit.toNat ∧ b.tenureLimit.toNat ≤ 32) ∧
      1 ≤ b.trackInterval.toNat ∧ b.trackInterval.toNat ≤ 64 := by
  simp only [paramRanges, Bool.and_eq_true, decide_eq_true_eq, and_assoc]

/-- The block that a parameter block within its ranges reads as. -/
def blockOf (b : ParamWire) : Params :=
  { window := b.window.toNat, span := b.span.toNat, m1 := b.m1.toNat, m2 := b.m2.toNat, m3 := b.m3.toNat
    bands := ⟨⟨b.lowA.toNat, b.highA.toNat, b.limitA.toNat⟩, ⟨b.lowB.toNat, b.highB.toNat, b.limitB.toNat⟩⟩
    headTimeout := b.headTimeout.toNat, tenureLimit := b.tenureLimit.toNat
    policy := if b.policy = 0 then .off else if b.policy = 1 then .onDemand else .track
    trackInterval := b.trackInterval.toNat, floor := b.floor.toNat
    mask := ⟨b.mask.getLsbD 0, b.mask.getLsbD 1, b.mask.getLsbD 2⟩ }

theorem paramsOf_of_ok {b : ParamWire} (hr : paramRanges b = true) (ha : BandOk b.lowA b.highA b.limitA)
    (hb : BandOk b.lowB b.highB b.limitB) (hp : b.policy.toNat ≤ 2) : paramsOf b = some (blockOf b) := by
  simp only [paramsOf, bandOf_of_ok ha, bandOf_of_ok hb, policyOf_of_le hp, if_pos hr, blockOf]

theorem paramsOf_eq_none {b : ParamWire} (h : ¬ (paramRanges b = true ∧ BandOk b.lowA b.highA b.limitA ∧
    BandOk b.lowB b.highB b.limitB ∧ b.policy.toNat ≤ 2)) : paramsOf b = none := by
  by_cases ha : BandOk b.lowA b.highA b.limitA
  · by_cases hb : BandOk b.lowB b.highB b.limitB
    · by_cases hp : b.policy.toNat ≤ 2
      · have hr : ¬ paramRanges b = true := fun hr => h ⟨hr, ha, hb, hp⟩
        simp only [paramsOf, bandOf_of_ok ha, bandOf_of_ok hb, policyOf_of_le hp, if_neg hr]
      · simp only [paramsOf, bandOf_of_ok ha, bandOf_of_ok hb, policyOf_of_gt (Nat.lt_of_not_le hp)]
    · simp only [paramsOf, bandOf_of_ok ha, bandOf_of_not_ok hb]
  · simp only [paramsOf, bandOf_of_not_ok ha]

theorem power_or_iff {s : State} : (s.power .a || s.power .b) = true ↔ ∃ d, s.power d = true := by
  rw [Bool.or_eq_true]
  refine ⟨fun h => h.elim (⟨.a, ·⟩) (⟨.b, ·⟩), ?_⟩
  rintro ⟨_ | _, h⟩
  · exact .inl h
  · exact .inr h

theorem sameMarks_block {b : ParamWire} {p : Params} : (blockOf b).sameMarks p = false ↔
    b.window.toNat ≠ p.window ∨ b.m1.toNat ≠ p.m1 ∨ b.m2.toNat ≠ p.m2 ∨ b.m3.toNat ≠ p.m3 := by
  simp only [Params.sameMarks, blockOf, Bool.and_eq_false_iff, beq_eq_false_iff_ne, or_assoc]

/-! ## SET SWEEP PLAN -/

/-- The step that an offset within its range reads as. -/
def stepRead (w : StepWire) : PlanStep := ⟨w.flags.getLsbD 0, w.offset.toInt⟩

theorem stepsOf_of_ok {steps : List StepWire} (h : ∀ w ∈ steps, -512 ≤ w.offset.toInt ∧ w.offset.toInt ≤ 511) :
    stepsOf steps = some (steps.map stepRead) := by
  induction steps with
  | nil => rfl
  | cons w rest ih =>
    obtain ⟨hw, hrest⟩ := List.forall_mem_cons.mp h
    simp only [stepsOf, stepOf, if_pos hw, ih hrest, List.map_cons, stepRead]

theorem stepsOf_eq_none {steps : List StepWire} (h : ¬ ∀ w ∈ steps, -512 ≤ w.offset.toInt ∧ w.offset.toInt ≤ 511) :
    stepsOf steps = none := by
  induction steps with
  | nil => exact absurd (by simp) h
  | cons w rest ih =>
    by_cases hw : -512 ≤ w.offset.toInt ∧ w.offset.toInt ≤ 511
    · have hrest : ¬ ∀ w ∈ rest, -512 ≤ w.offset.toInt ∧ w.offset.toInt ≤ 511 :=
        fun hr => h (List.forall_mem_cons.mpr ⟨hw, hr⟩)
      simp only [stepsOf, stepOf, if_pos hw, ih hrest]
    · simp only [stepsOf, stepOf, if_neg hw]

theorem planOf_of_ok {p : PlanWire} (hlen : p.steps.length = 12)
    (hsteps : ∀ w ∈ p.steps, -512 ≤ w.offset.toInt ∧ w.offset.toInt ≤ 511) (hpause : p.pause.toNat ≤ 7)
    (hon : ∃ w ∈ p.steps, w.flags.getLsbD 0 = true) :
    ∃ plan : Plan, planOf p = some plan ∧ plan.steps.toList = p.steps.map stepRead ∧
      plan.extension = p.extension.getLsbD 0 ∧ plan.pause = p.pause.toNat := by
  have hany : p.pause.toNat ≤ 7 ∧ (p.steps.map stepRead).any (·.enabled) = true := by
    refine ⟨hpause, ?_⟩
    rw [List.any_map, List.any_eq_true]
    exact hon
  have hlen' : (p.steps.map stepRead).length = 12 := by rw [List.length_map, hlen]
  refine ⟨_, by simp only [planOf, stepsOf_of_ok hsteps, dif_pos hlen', if_pos hany]; rfl, rfl, rfl, rfl⟩

theorem planOf_eq_none {p : PlanWire} (h : ¬ ((∀ w ∈ p.steps, -512 ≤ w.offset.toInt ∧ w.offset.toInt ≤ 511) ∧
    p.pause.toNat ≤ 7 ∧ ∃ w ∈ p.steps, w.flags.getLsbD 0 = true)) : planOf p = none := by
  by_cases hsteps : ∀ w ∈ p.steps, -512 ≤ w.offset.toInt ∧ w.offset.toInt ≤ 511
  · have hrest : ¬ (p.pause.toNat ≤ 7 ∧ (p.steps.map stepRead).any (·.enabled) = true) := by
      rw [List.any_map, List.any_eq_true]
      exact fun hr => h ⟨hsteps, hr⟩
    simp only [planOf, stepsOf_of_ok hsteps, if_neg hrest, dite_eq_ite, ite_self]
  · simp only [planOf, stepsOf_eq_none hsteps]

/-- Settles O16: the readings of a parameter block and of a plan, and the guards that follow them. -/
theorem parametersAndSweepPlanTaken : Obligations.ParametersAndSweepPlanTaken := by
  refine ⟨fun s b hidle => ?params, fun s p hidle hlen => ?plan⟩
  case params =>
    intro bandOk inRange marksChange powered r
    have does {t : State} {c : ResultCode} (h : s.setParameters b = ⟨t, c, []⟩) :
        exec (.setParameters b) s = .next (answered t r c []) :=
      receiveRequest_of_carryOut (.setParameters b) hidle rfl rfl h
    have range_iff : inRange ↔ paramRanges b = true ∧ BandOk b.lowA b.highA b.limitA ∧ BandOk b.lowB b.highB b.limitB ∧
        b.policy.toNat ≤ 2 := by
      rw [paramRanges_iff]
      simp only [inRange, bandOk, BandOk]
      tauto
    have reads (h : inRange) : paramsOf b = some (blockOf b) := by
      obtain ⟨hr, ha, hb, hp⟩ := range_iff.mp h
      exact paramsOf_of_ok hr ha hb hp
    refine ⟨fun hout => does ?_, fun hin hmarks hpower => does ?_, fun hin hfree => does ?_⟩
    · rw [State.setParameters, paramsOf_eq_none fun h => hout (range_iff.mpr h)]
      rfl
    · rw [State.setParameters, reads hin]
      exact if_pos ⟨sameMarks_block.mpr hmarks, power_or_iff.mpr hpower⟩
    · rw [State.setParameters, reads hin]
      exact if_neg fun ⟨hm, hp⟩ => hfree ⟨sameMarks_block.mp hm, power_or_iff.mp hp⟩
  case plan =>
    intro good r
    have hwf : r.wf = true := by simp [r, Request.wf, PlanWire.wf, hlen]
    have does {t : State} {c : ResultCode} (h : s.setSweepPlan p = ⟨t, c, []⟩) :
        exec (.setSweepPlan p) s = .next (answered t r c []) :=
      receiveRequest_of_reply (r := .setSweepPlan p) hidle hwf ((Laws.Wellformed.ofPlan p _ rfl).mp hwf).2
        (parseBody_body hwf) h
    refine ⟨fun hbad => does ?_, fun ⟨h1, h2, h3⟩ hsweep => does ?_, fun ⟨h1, h2, h3⟩ hsweep => ?_⟩
    · rw [State.setSweepPlan, planOf_eq_none hbad]
      rfl
    · obtain ⟨plan, hplan, -⟩ := planOf_of_ok hlen h1 h2 h3
      rw [State.setSweepPlan, hplan]
      exact if_pos hsweep
    · obtain ⟨plan, hplan, hsteps, hext, hpause⟩ := planOf_of_ok hlen h1 h2 h3
      refine ⟨plan, hsteps, hext, hpause, does ?_⟩
      rw [State.setSweepPlan, hplan]
      exact if_neg (by simp [hsweep])

end Sys2Proof.Machine
end

section
/-! PROOFS. The checks of the admissions (R128, R129). -/

namespace Sys2Proof.Machine

section
variable {s : State} {slot priority : Byte} {ok : Bool} {a : Slot → Admission} {k : Slot}

theorem admitChecked_of_no_slot (h : 16 ≤ slot.toNat) : s.admitChecked slot priority ok a = s.refuse .badArgument := by
  rw [State.admitChecked, slotOf_of_ge h]

theorem admitChecked_of_bad_priority (h : 4 ≤ priority.toNat) :
    s.admitChecked slot priority ok a = s.refuse .badArgument := by
  unfold State.admitChecked
  split
  · rfl
  · rw [if_pos (by rw [decide_eq_false (by omega), Bool.and_false])]

theorem admitChecked_of_bad_arguments (h : ok = false) : s.admitChecked slot priority ok a = s.refuse .badArgument := by
  unfold State.admitChecked
  split
  · rfl
  · rw [if_pos (by rw [h, Bool.false_and])]

theorem admitChecked_of_ok (hk : slot.toNat = k.val) (hp : priority.toNat ≤ 3) (hok : ok = true) :
    s.admitChecked slot priority ok a = s.enterTicket (a k) := by
  simp only [State.admitChecked, slotOf_of_toNat_eq hk, hok, hp, decide_true, Bool.and_self, Bool.true_eq_false, if_false]

end

theorem frameArgument_iff {n : Half} : frameArgument n = true ↔ 1 ≤ n.toNat ∧ n.toNat ≤ 16384 := decide_eq_true_iff

theorem frameArgument_eq_false {n : Half} (h : ¬ (1 ≤ n.toNat ∧ n.toNat ≤ 16384)) : frameArgument n = false :=
  Bool.eq_false_iff.mpr fun hn => h (frameArgument_iff.mp hn)

section
variable {s : State} {a : Admission}

theorem enterTicket_of_refusal {c : ResultCode} (h : s.admissionRefusal a = some c) : s.enterTicket a = s.refuse c := by
  rw [State.enterTicket, h]

theorem freeTicket_isNone_iff : s.freeTicket.isNone = true ↔ ¬ ∃ t, (s.ticket t).state = .free := by
  rw [Option.isNone_iff_eq_none, freeTicket_eq_none_iff, not_exists]

theorem admissionRefusal_full (h : ¬ ∃ t, (s.ticket t).state = .free) : s.admissionRefusal a = some .full :=
  if_pos (freeTicket_isNone_iff.mpr h)

/-- The entry of an admission can be named by a ticket (R129, check 2). -/
def Admittable (s : State) (a : Admission) : Prop :=
  (∃ t, (s.ticket t).state = .free) ∧ (s.entry a.slot).state ≠ .free ∧ (s.entry a.slot).releasePending = false

theorem admissionRefusal_notListed (ht : ∃ t, (s.ticket t).state = .free)
    (h : ¬ ((s.entry a.slot).state ≠ .free ∧ (s.entry a.slot).releasePending = false)) :
    s.admissionRefusal a = some .notListed := by
  have hlisted : (s.entry a.slot).state = .free ∨ (s.entry a.slot).releasePending = true := by
    rw [← Bool.not_eq_false]
    tauto
  rw [State.admissionRefusal, if_neg fun hn => freeTicket_isNone_iff.mp hn ht]
  exact if_pos hlisted

/-- The checks of R129 that follow those of the ticket and the entry. -/
theorem admissionRefusal_of_admittable (h : Admittable s a) : s.admissionRefusal a =
    if a.kind ≠ .index ∧ (a.frameOk (s.entry a.slot) a.first && a.frameOk (s.entry a.slot) a.last) = false then
      some .notFound
    else if a.kind ≠ .index ∧ (s.frameWithdrawn a.slot a.first || s.frameWithdrawn a.slot a.last) then some .withdrawn
    else if a.kind = .range ∧ a.last.getD 0 < a.first.getD 0 then some .badArgument
    else if a.kind = .index ∧ (s.entry a.slot).complete then some .state
    else none := by
  obtain ⟨ht, hfree, hpending⟩ := h
  have hlisted : ¬ ((s.entry a.slot).state = .free ∨ (s.entry a.slot).releasePending = true) := by
    rw [hpending]
    simp [hfree]
  rw [State.admissionRefusal, if_neg fun hn => freeTicket_isNone_iff.mp hn ht]
  exact if_neg hlisted

theorem admissionRefusal_notFound (h : Admittable s a) (hkind : a.kind ≠ .index)
    (hbad : (a.frameOk (s.entry a.slot) a.first && a.frameOk (s.entry a.slot) a.last) = false) :
    s.admissionRefusal a = some .notFound := by
  rw [admissionRefusal_of_admittable h, if_pos ⟨hkind, hbad⟩]

theorem admissionRefusal_withdrawn (h : Admittable s a) (hkind : a.kind ≠ .index)
    (hok : (a.frameOk (s.entry a.slot) a.first && a.frameOk (s.entry a.slot) a.last) = true)
    (hw : (s.frameWithdrawn a.slot a.first || s.frameWithdrawn a.slot a.last) = true) :
    s.admissionRefusal a = some .withdrawn := by
  rw [admissionRefusal_of_admittable h, if_neg (by simp [hok]), if_pos ⟨hkind, hw⟩]

theorem admissionRefusal_badRange (h : Admittable s a) (hkind : a.kind = .range)
    (hok : (a.frameOk (s.entry a.slot) a.first && a.frameOk (s.entry a.slot) a.last) = true)
    (hw : (s.frameWithdrawn a.slot a.first || s.frameWithdrawn a.slot a.last) = false)
    (hlt : a.last.getD 0 < a.first.getD 0) : s.admissionRefusal a = some .badArgument := by
  rw [admissionRefusal_of_admittable h, if_neg (by simp [hok]), if_neg (by simp [hw]), if_pos ⟨hkind, hlt⟩]

theorem admissionRefusal_complete (h : Admittable s a) (hkind : a.kind = .index)
    (hcomplete : (s.entry a.slot).complete = true) : s.admissionRefusal a = some .state := by
  rw [admissionRefusal_of_admittable h, if_neg (by simp [hkind]), if_neg (by simp [hkind]), if_neg (by simp [hkind]),
    if_pos ⟨hkind, hcomplete⟩]

theorem frameOk_iff {e : Entry} {f : Nat} (h : 1 ≤ f) :
    a.frameOk e (some f) = true ↔ f ≤ e.frameCount ∨ (a.extend = true ∧ e.complete = false) := by
  simp only [Admission.frameOk, Bool.or_eq_true, Bool.and_eq_true, decide_eq_true_eq, Bool.not_eq_true']
  by_cases hle : f ≤ e.frameCount
  · simp [h, hle]
  · simp [hle, show e.frameCount < f by omega]

theorem frameWithdrawn_iff {k : Slot} {f : Nat} :
    s.frameWithdrawn k (some f) = true ↔ ∃ r, s.record k f = some r ∧ r.withdrawn = true := by
  cases h : s.record k f <;> simp [State.frameWithdrawn, h]

end

/-- Settles O27: each request is an `admitChecked`, refused by its arguments or by the checks of `admissionRefusal`. -/
theorem admissionsRefused : Obligations.AdmissionsRefused := by
  intro s slot priority options first last hidle fetch others range index refused frameOk extend
  have fetched {c : ResultCode} (h : s.admitFetch slot first priority options = s.refuse c) : refused fetch c :=
    receiveRequest_of_carryOut (.fetch slot first priority options) hidle rfl rfl h
  have ranged {c : ResultCode} (h : s.admitRange slot first last priority options = s.refuse c) : refused range c :=
    receiveRequest_of_carryOut (.range slot first last priority options) hidle rfl rfl h
  have indexed {c : ResultCode} (h : s.admitIndex slot first priority options = s.refuse c) : refused index c :=
    receiveRequest_of_carryOut (.index slot first priority options) hidle rfl rfl h
  have both {c : ResultCode} (h : ∀ kind, s.admitChecked slot priority (frameArgument first && !extendOf options)
      (frameAdmission kind first priority options) = s.refuse c) : ∀ x ∈ others, refused x c := by
    simp only [others, List.forall_mem_cons]
    exact ⟨receiveRequest_of_carryOut (.locate slot first priority options) hidle rfl rfl (h .locate),
      receiveRequest_of_carryOut (.focus slot first priority options) hidle rfl rfl (h .focus), by simp⟩
  refine ⟨fun hbad => ?checked, fun hframe => ⟨?frames, fun hto => ?target⟩, fun hlast => ?last, fun hext => ?extended,
    fun k hk hp => ?named⟩
  case checked =>
    have bad {ok : Bool} {a : Slot → Admission} : s.admitChecked slot priority ok a = s.refuse .badArgument :=
      hbad.elim admitChecked_of_no_slot admitChecked_of_bad_priority
    simp only [List.forall_mem_cons]
    exact ⟨ranged bad, indexed bad, fetched bad, both fun _ => bad⟩
  case frames =>
    have hfirst := frameArgument_eq_false hframe
    simp only [List.forall_mem_cons]
    exact ⟨ranged (admitChecked_of_bad_arguments (by rw [hfirst, Bool.false_and])),
      fetched (admitChecked_of_bad_arguments hfirst),
      both fun _ => admitChecked_of_bad_arguments (by rw [hfirst, Bool.false_and])⟩
  case target =>
    exact indexed (admitChecked_of_bad_arguments (by rw [hto, frameArgument_eq_false hframe]; rfl))
  case last =>
    exact ranged (admitChecked_of_bad_arguments (by rw [frameArgument_eq_false hlast, Bool.and_false]))
  case extended =>
    have hext' : extendOf options = true := hext
    simp only [List.forall_mem_cons]
    exact ⟨indexed (admitChecked_of_bad_arguments (by rw [hext']; simp)),
      both fun _ => admitChecked_of_bad_arguments (by rw [hext']; simp)⟩
  case named =>
    intro e ticketFree listed within withdrawn
    refine ⟨fun hfirst => ?single, fun hfirst hlast => ?pair, fun hext hto => ?index⟩
    case single =>
      intro single
      have hf := frameArgument_iff.mpr hfirst
      have each {c : ResultCode} (h : ∀ kind, kind ≠ .index →
          s.admissionRefusal (frameAdmission kind first priority options k) = some c) : ∀ x ∈ single, refused x c := by
        have hfetch := fetched ((admitChecked_of_ok hk hp hf).trans (enterTicket_of_refusal (h .fetch (by decide))))
        cases hext : options.getLsbD 0 with
        | true =>
          simp only [single, hext, if_true, List.forall_mem_cons]
          exact ⟨hfetch, by simp⟩
        | false =>
          have hok : (frameArgument first && !extendOf options) = true := by rw [hf, extendOf, hext]; rfl
          simp only [single, hext, Bool.false_eq_true, if_false, List.forall_mem_cons]
          refine ⟨hfetch, ?_⟩
          simp only [others, List.forall_mem_cons]
          refine ⟨receiveRequest_of_carryOut (.locate slot first priority options) hidle rfl rfl ?_,
            receiveRequest_of_carryOut (.focus slot first priority options) hidle rfl rfl ?_, by simp⟩
          · exact (admitChecked_of_ok hk hp hok).trans (enterTicket_of_refusal (h .locate (by decide)))
          · exact (admitChecked_of_ok hk hp hok).trans (enterTicket_of_refusal (h .focus (by decide)))
      refine ⟨fun ht => each fun _ _ => admissionRefusal_full ht, fun ht hl => each fun _ _ => admissionRefusal_notListed ht hl,
        fun ht hl hw => each fun kind hkind => admissionRefusal_notFound ⟨ht, hl⟩ hkind ?_,
        fun ht hl hw hgone => each fun kind hkind => admissionRefusal_withdrawn ⟨ht, hl⟩ hkind ?_ ?_⟩
      · exact Bool.eq_false_iff.mpr fun h => hw ((frameOk_iff hfirst.1).mp (Bool.and_eq_true_iff.mp h).1)
      · have hok := (frameOk_iff (a := frameAdmission kind first priority options k) hfirst.1).mpr hw
        exact Bool.and_eq_true_iff.mpr ⟨hok, hok⟩
      · exact Bool.or_eq_true_iff.mpr (.inl (frameWithdrawn_iff.mpr hgone))
    case pair =>
      have hok : (frameArgument first && frameArgument last) = true := by
        rw [frameArgument_iff.mpr hfirst, frameArgument_iff.mpr hlast]
        rfl
      let a : Admission := ⟨.range, k, some first.toNat, some last.toNat, priority.toNat, extendOf options⟩
      have refuses {c : ResultCode} (h : s.admissionRefusal a = some c) : refused range c :=
        ranged ((admitChecked_of_ok hk hp hok).trans (enterTicket_of_refusal h))
      have ok_iff : (a.frameOk (s.entry k) a.first && a.frameOk (s.entry k) a.last) = true ↔ within first ∧ within last := by
        rw [Bool.and_eq_true_iff, frameOk_iff hfirst.1, frameOk_iff hlast.1]
        rfl
      have withdrawn_iff : (s.frameWithdrawn k a.first || s.frameWithdrawn k a.last) = true ↔
          withdrawn first ∨ withdrawn last := by
        rw [Bool.or_eq_true_iff, frameWithdrawn_iff, frameWithdrawn_iff]
      refine ⟨fun ht => refuses (admissionRefusal_full ht), fun ht hl => refuses (admissionRefusal_notListed ht hl),
        fun ht hl hw => refuses (admissionRefusal_notFound ⟨ht, hl⟩ nofun (Bool.eq_false_iff.mpr fun h => ?_)),
        fun ht hl h1 h2 hw => refuses (admissionRefusal_withdrawn ⟨ht, hl⟩ nofun (ok_iff.mpr ⟨h1, h2⟩) (withdrawn_iff.mpr hw)),
        fun ht hl h1 h2 w1 w2 hlt => refuses (admissionRefusal_badRange ⟨ht, hl⟩ rfl (ok_iff.mpr ⟨h1, h2⟩)
          (Bool.eq_false_iff.mpr fun h => (withdrawn_iff.mp h).elim w1 w2) hlt)⟩
      obtain ⟨h1, h2⟩ := ok_iff.mp h
      exact hw.elim (· h1) (· h2)
    case index =>
      have hok : ((!options.getLsbD 1 || frameArgument first) && !extendOf options) = true := by
        rw [Bool.and_eq_true_iff, Bool.or_eq_true_iff, Bool.not_eq_true', Bool.not_eq_true']
        exact ⟨hto.imp id frameArgument_iff.mpr, by simpa [extend, extendOf] using hext⟩
      have refuses {c : ResultCode} (h : s.admissionRefusal ⟨.index, k, indexTarget first options, indexTarget first options,
          priority.toNat, false⟩ = some c) : refused index c :=
        indexed ((admitChecked_of_ok hk hp hok).trans (enterTicket_of_refusal h))
      exact ⟨fun ht => refuses (admissionRefusal_full ht), fun ht hl => refuses (admissionRefusal_notListed ht hl),
        fun ht hl hc => refuses (admissionRefusal_complete ⟨ht, hl⟩ rfl hc)⟩

end Sys2Proof.Machine
end

section
/-! PROOFS. Beginnings of motion (R3, R9, R20), the end of a rewind and the release of a tagged entry (R20, R53), and the requests
and events that lead to them: MOUNT, UNMOUNT, CLEAR DECK (R8, R19, R24) and the film-in-gate sensor (R9, R20). -/

namespace Sys2Proof.Machine

/-! ## Beginnings of motion -/

section
variable {s : State} {d : DeckId}

theorem holdApplies_iff : s.holdApplies d = true ↔ s.pins.hold = true ∧ s.opa.path.selected = d := by
  simp [State.holdApplies]

theorem beginMotion_of_hold (h : s.pins.hold = true ∧ s.opa.path.selected = d) :
    s.beginMotion d = s.setDeck d { s.deck d with motion := .deferred } := if_pos (holdApplies_iff.mpr h)

theorem beginMotion_of_no_hold (h : ¬ (s.pins.hold = true ∧ s.opa.path.selected = d)) :
    s.beginMotion d = s.motionBegins d := if_neg fun hh => h (holdApplies_iff.mp hh)

theorem motionBegins_threading_film (h : (s.deck d).state = .threading) (hf : (s.sensors d).filmInGate = true) :
    s.motionBegins d = s.setDeck d { s.deck d with motion := .moving, phase := some .rewind } := by
  simp [State.motionBegins, h, hf, State.modDeck]

theorem motionBegins_threading_clear (h : (s.deck d).state = .threading) (hf : (s.sensors d).filmInGate = false) :
    s.motionBegins d = s.setDeck d { s.deck d with motion := .moving, phase := some .advance, leaderTravel := 0 } := by
  simp [State.motionBegins, h, hf, State.modDeck]

theorem motionBegins_rewinding_film (h : (s.deck d).state = .rewinding) (hf : (s.sensors d).filmInGate = true) :
    s.motionBegins d = s.setDeck d { s.deck d with motion := .moving } := by
  simp [State.motionBegins, h, hf, State.modDeck]

theorem motionBegins_rewinding_clear (h : (s.deck d).state = .rewinding) (hf : (s.sensors d).filmInGate = false) :
    s.motionBegins d = (s.setDeck d { s.deck d with motion := .moving }).rewindEnd d := by
  simp [State.motionBegins, h, hf, State.modDeck]

theorem motionBegins_run (h : (s.deck d).state = .shuttling ∨ (s.deck d).state = .indexing ∨ (s.deck d).state = .searching) :
    s.motionBegins d = s.setDeck d { s.deck d with motion := .moving } := by
  rcases h with h | h | h <;> simp [State.motionBegins, h, State.modDeck]

theorem poweredUp_of_fault (h : (s.sensors d).driveFault = true) : s.poweredUp d = s.halt d .driveFault := if_pos h

theorem poweredUp_of_no_fault (h : (s.sensors d).driveFault = false) : s.poweredUp d = s.beginMotion d :=
  if_neg (by simp [h])

end

/-! ## Deck codes -/

/-- The code of a deck reads as that deck (10.4). -/
theorem deckOf_code (d : DeckId) : deckOf (if d = .a then 0 else 1) = some d := by cases d <;> rfl

/-! ## MOUNT -/

/-- Deck `d` as a MOUNT leaves it before its motion begins (R8). -/
def mountBegun (s : State) (d : DeckId) : State :=
  { s with
    decks := s.decks.set d { s.deck d with
      state := .threading, identification := some .fresh, counter := 0, anchored := false, excursion := 0 }
    marks := s.marks.set d { s.mark d with
      classified := 0, noise := 0, fault := 0, leader := .seek, digits := [], overlength := false, faultSeen := false } }

theorem startMount_eq (s : State) (d : DeckId) : s.startMount d = (mountBegun s d).poweredUp d := rfl

theorem deck_mountBegun (s : State) (d : DeckId) : (mountBegun s d).deck d = { s.deck d with
    state := .threading, identification := some .fresh, counter := 0, anchored := false, excursion := 0 } :=
  Pair.get_set_self _ _ _

/-- The deck of a begun MOUNT written once more. -/
theorem mountBegun_setDeck (s : State) (d : DeckId) (x : Deck) :
    (mountBegun s d).setDeck d x = { mountBegun s d with decks := s.decks.set d x } := by
  simp [State.setDeck, mountBegun]

section
variable {s : State} {d : DeckId}

theorem mountDeck_of_not_seated (h : (s.deck d).state ≠ .seated) :
    s.mountDeck (if d = .a then 0 else 1) = s.refuse .state := by
  rw [State.mountDeck, deckOf_code]
  exact if_pos h

/-- The checks of R8 that follow that of the deck's state. -/
theorem mountDeck_of_seated (h : (s.deck d).state = .seated) : s.mountDeck (if d = .a then 0 else 1) =
    if (s.deck d).kind = some .unsupported then s.refuse .unsupported
    else if s.orderFor d then s.refuse .busy
    else (s.startMount d).answer [] := by
  rw [State.mountDeck, deckOf_code]
  exact if_neg (not_not.mpr h)

end

/-- Settles O24: the checks of `State.mountDeck`, and the beginning of motion of a deck in THREADING. -/
theorem mountTaken : Obligations.MountTaken := by
  intro s d hidle deck does k film hold mountable u
  have replies {t : State} {c : ResultCode} (h : s.mountDeck deck = ⟨t, c, []⟩) : does t c :=
    receiveRequest_of_carryOut (.mount deck) hidle rfl rfl h
  have mounts {t : State} (hm : mountable) (h : (mountBegun s d).poweredUp d = t) : does t .ok := by
    obtain ⟨hseated, hkind, horder⟩ := hm
    refine replies ?_
    rw [mountDeck_of_seated hseated, if_neg hkind, if_neg (by simp [horder]), startMount_eq, h]
    rfl
  have threading : ((mountBegun s d).deck d).state = .threading := by rw [deck_mountBegun]
  refine ⟨fun h => replies (mountDeck_of_not_seated h), fun h1 h2 => replies ?_, fun h1 h2 h3 => replies ?_,
    fun hm hfault hhold => mounts hm ?_, fun hm hfault hhold hfilm => mounts hm ?_,
    fun hm hfault hhold hfilm => mounts hm ?_, fun hm hfault hunused => mounts hm ?_⟩
  · rw [mountDeck_of_seated h1, if_pos h2]
    rfl
  · rw [mountDeck_of_seated h1, if_neg h2, if_pos h3]
    rfl
  · rw [poweredUp_of_no_fault (s := mountBegun s d) hfault, beginMotion_of_hold (s := mountBegun s d) hhold,
      deck_mountBegun, mountBegun_setDeck]
    rfl
  · rw [poweredUp_of_no_fault (s := mountBegun s d) hfault, beginMotion_of_no_hold (s := mountBegun s d) hhold,
      motionBegins_threading_film threading hfilm,
      deck_mountBegun, mountBegun_setDeck]
    rfl
  · rw [poweredUp_of_no_fault (s := mountBegun s d) hfault, beginMotion_of_no_hold (s := mountBegun s d) hhold,
      motionBegins_threading_clear threading hfilm,
      deck_mountBegun, mountBegun_setDeck]
    rfl
  · rw [poweredUp_of_fault (s := mountBegun s d) hfault]
    exact halt_of_unused (s := mountBegun s d) hunused .driveFault

/-! ## The release of a deck's entry, and the end of an UNMOUNT -/

@[simp] theorem entryOf_setDeck (s : State) (d e : DeckId) (x : Deck) : (s.setDeck d x).entryOf e = s.entryOf e := rfl

theorem releaseDeck_of_no_entry {s : State} {d : DeckId} (h : s.entryOf d = none) : s.releaseDeck d = s := by
  rw [State.releaseDeck, h]

/-- The tagged entry of a deck for which no sweep is in progress, released (R53, R133). -/
theorem releaseDeck_of_tagged {s : State} {d : DeckId} {n : Slot} (h : s.entryOf d = some n)
    (htag : (s.entry n).tag.isSome = true) (hsweep : ∀ w, s.fseq.sweep = some w → w.deck ≠ d) :
    s.releaseDeck d = { s with
      poolDecks := s.poolDecks.set d { s.pool d with crossing := [], watched := none, found := none, searchRecord := none }
      entries := s.entries.set n { s.entry n with state := .listed, deck := none }
      tickets := s.tickets.map fun t =>
        if t.slot = some n ∧ t.state = .queued then { t with state := .awaitRoll } else t } := by
  have hkeep : (s.setPool d (s.pool d).drop).entry n = s.entry n := rfl
  rw [State.releaseDeck, h]
  simp only [abortSweep_of_unused hsweep, State.releaseEntry, hkeep, htag, if_true, State.releaseTagged, Bool.or_false]
  rfl

theorem entryTagged_iff {s : State} {d : DeckId} :
    entryTagged s d = true ↔ ∀ n, s.entryOf d = some n → (s.entry n).tag.isSome = true := Option.all_eq_true _ _

theorem deckLeft_sweep {s : State} {d : DeckId} (h : deckLeft s d = true) : ∀ w, s.fseq.sweep = some w → w.deck ≠ d := by
  simp only [deckLeft, Bool.and_eq_true, Option.all_eq_true, bne_iff_ne] at h
  exact h.1.2

/-- Deck `d` SEATED with UNMOUNTED recorded (R20, R24). -/
def seatedAgain (s : State) (d : DeckId) : State :=
  { s with decks := s.decks.set d { s.deck d with
      state := .seated, events := { (s.deck d).events with unmounted := true } } }

theorem unmountedAs_of_no_entry {s : State} {d : DeckId} (h : s.entryOf d = none) : unmountedAs s d = seatedAgain s d := by
  have h' : (seatedAgain s d).entryOf d = none := h
  change (match (seatedAgain s d).entryOf d with
    | none => seatedAgain s d
    | some n => _) = _
  rw [h']

theorem unmountedAs_of_entry {s : State} {d : DeckId} {n : Slot} (h : s.entryOf d = some n) : unmountedAs s d =
    { seatedAgain s d with
      poolDecks := s.poolDecks.set d { s.pool d with crossing := [], watched := none, found := none, searchRecord := none }
      entries := s.entries.set n { s.entry n with state := .listed, deck := none }
      tickets := s.tickets.map fun t =>
        if t.slot = some n ∧ t.state = .queued then { t with state := .awaitRoll } else t } := by
  have h' : (seatedAgain s d).entryOf d = some n := h
  change (match (seatedAgain s d).entryOf d with
    | none => seatedAgain s d
    | some n => _) = _
  rw [h'] <;> rfl

theorem seatedAgain_of_seated {s : State} {d : DeckId} (h : (s.deck d).state = .seated) :
    s.modDeck d (fun k => k.recordEvent .unmounted) = seatedAgain s d := by
  unfold seatedAgain
  rw [← h]
  rfl

/-- A SEATED deck whose entry is released and which records UNMOUNTED (R20, R24). -/
theorem releaseDeck_recordEvent {s : State} {d : DeckId} (hstate : (s.deck d).state = .seated)
    (htag : entryTagged s d = true) (hsweep : ∀ w, s.fseq.sweep = some w → w.deck ≠ d) :
    (s.releaseDeck d).modDeck d (fun k => k.recordEvent .unmounted) = unmountedAs s d := by
  cases h : s.entryOf d with
  | none => rw [releaseDeck_of_no_entry h, unmountedAs_of_no_entry h, seatedAgain_of_seated hstate]
  | some n =>
    rw [releaseDeck_of_tagged h (entryTagged_iff.mp htag n h) hsweep, unmountedAs_of_entry h,
      ← seatedAgain_of_seated hstate]
    rfl

/-- What the end of an UNMOUNT writes of the deck itself may stand there before. -/
theorem unmountedAs_setDeck (s : State) (d : DeckId) (x : DeckState) :
    unmountedAs (s.setDeck d { s.deck d with state := x }) d = unmountedAs s d := by
  have hdeck : seatedAgain (s.setDeck d { s.deck d with state := x }) d = seatedAgain s d := by
    simp [seatedAgain, State.setDeck, State.deck]
  cases h : s.entryOf d with
  | none => rw [unmountedAs_of_no_entry h, unmountedAs_of_no_entry (by exact h), hdeck]
  | some n =>
    rw [unmountedAs_of_entry h, unmountedAs_of_entry (n := n) (by exact h), hdeck]
    rfl

/-! ## The film-in-gate sensor shows no film -/

section
variable {s : State} {d : DeckId}

theorem exec_filmInGateCleared (d : DeckId) (h : running s = true) : exec (.filmInGateCleared d) s =
    .next (State.gateCleared { s with deckPins := s.deckPins.set d { s.sensors d with filmInGate := false } } d) :=
  next_live_of_running (s := s.setSensors d { s.sensors d with filmInGate := false }) h _

theorem exec_filmInGateCleared_of_clear (h : running s = true) (hf : (s.sensors d).filmInGate = false) :
    exec (.filmInGateCleared d) s = .next (s.gateCleared d) := by
  have hself : s.setSensors d { s.sensors d with filmInGate := false } = s := by rw [← hf]; exact State.setSensors_self s d
  rw [exec_filmInGateCleared d h]
  exact congrArg (fun t => Host.Outcome.next (State.gateCleared t d)) hself

theorem gateCleared_of_not_moving (h : (s.deck d).motion ≠ .moving) : s.gateCleared d = s := if_neg h

theorem gateCleared_of_threading (hm : (s.deck d).motion = .moving) (hs : (s.deck d).state = .threading) :
    s.gateCleared d = if (s.deck d).phase = some .rewind then
      s.setDeck d { s.deck d with phase := some .advance, leaderTravel := 0 } else s := by
  simp only [State.gateCleared, hm, hs, if_true, State.modDeck]

theorem gateCleared_of_rewinding (hm : (s.deck d).motion = .moving) (hs : (s.deck d).state = .rewinding) :
    s.gateCleared d = s.rewindEnd d := by
  simp only [State.gateCleared, hm, hs, if_true]

theorem gateCleared_of_elsewhere (h1 : (s.deck d).state ≠ .threading) (h2 : (s.deck d).state ≠ .rewinding) :
    s.gateCleared d = s := by
  unfold State.gateCleared
  split
  · split <;> first | rfl | contradiction
  · rfl

theorem rewindEnd_of_remount (h : (s.deck d).purpose = some .remount) : s.rewindEnd d = s.setDeck d { s.deck d with
    state := .threading, purpose := none, identification := some .remount, phase := some .advance, leaderTravel := 0
    motion := .moving } := by
  rw [State.rewindEnd, h]
  rfl

/-- Deck `d` at the end of an UNMOUNT rewind, before its entry is released (R20, R2). -/
def rewoundAs (s : State) (d : DeckId) : State :=
  { s with
    decks := s.decks.set d { s.deck d with
      anchored := false, target := none, stopping := false, purpose := none, identification := none, search := none
      motion := .still, phase := none, reading := none, runMetEnd := false, travel := none }
    lenses := s.lenses.set d .unhomed
    marks := s.marks.set d { s.mark d with
      accepted := none, candidate := false, inProgress := none, lastDirection := none } }

theorem rewindEnd_of_unmount (h : (s.deck d).purpose = some .unmount) (htag : entryTagged s d = true)
    (hsweep : ∀ w, s.fseq.sweep = some w → w.deck ≠ d) : s.rewindEnd d = unmountedAs (rewoundAs s d) d := by
  let r := (rewoundAs s d).setDeck d { (rewoundAs s d).deck d with state := .seated }
  have hr : ((s.modDeck d fun k => { k.dropMotion with state := .seated }).powerOff d) = r := by
    simp [r, rewoundAs, State.powerOff, State.modDeck, Deck.dropMotion, Mark.powerOff, State.setDeck, State.setMark,
      State.setLens, State.deck, State.mark]
  have hstate : (r.deck d).state = .seated := by simp [r]
  rw [State.rewindEnd, h]
  simp only [hr]
  rw [releaseDeck_recordEvent hstate htag hsweep, unmountedAs_setDeck]

end

/-- The capstan of a powered deck in motion drives along its heading where the deck is not in SHUTTLING. -/
theorem capstan_of_heading {s : State} {d : DeckId} {dir : Direction} (hpower : s.power d = true)
    (hm : (s.deck d).motion = .moving) (hshuttle : (s.deck d).state ≠ .shuttling) (hdir : (s.deck d).heading = some dir) :
    s.capstan d = .drive dir := by
  simp [State.capstan, hpower, hm, hshuttle, hdir]

/-- Settles O39: the film-in-gate sensor by the deck's state, and the two ends of a rewind. -/
theorem filmInGateClearedEndsRewind : Obligations.FilmInGateClearedEndsRewind := by
  intro s d hrun k m cleared
  have shows {t : State} (h : cleared.gateCleared d = t) : exec (.filmInGateCleared d) s = .next t :=
    h ▸ exec_filmInGateCleared d hrun
  have threads (hm : k.motion = .moving) (hs : k.state = .threading) (hp : k.phase = some .rewind) :
      exec (.filmInGateCleared d) s =
        .next { cleared with decks := s.decks.set d { k with phase := some .advance, leaderTravel := 0 } } :=
    shows ((gateCleared_of_threading (s := cleared) hm hs).trans (if_pos hp))
  have remounts (hm : k.motion = .moving) (hs : k.state = .rewinding) (hp : k.purpose = some .remount) :
      exec (.filmInGateCleared d) s = .next { cleared with decks := s.decks.set d { k with
        state := .threading, purpose := none, identification := some .remount, phase := some .advance
        leaderTravel := 0 } } := by
    refine shows ((gateCleared_of_rewinding (s := cleared) hm hs).trans ((rewindEnd_of_remount (s := cleared) hp).trans ?_))
    rw [← hm]
    rfl
  refine ⟨fun h => shows ?_, threads, remounts, fun t ht hm hstop => ⟨fun hs hp => ?_, fun hs hp => ?_⟩,
    fun hm hs hp hleft htag => shows ?_⟩
  · rcases h with h | ⟨h1, h2⟩ | ⟨h1, h2⟩
    · exact gateCleared_of_not_moving (s := cleared) h
    · exact gateCleared_of_elsewhere (s := cleared) h1 h2
    · by_cases hm : k.motion = .moving
      · exact (gateCleared_of_threading (s := cleared) hm h1).trans (if_neg h2)
      · exact gateCleared_of_not_moving (s := cleared) hm
  · obtain rfl := Host.Outcome.next.inj (ht.symm.trans (threads hm hs hp))
    refine ⟨capstan_of_heading ?_ hm ?_ ?_, capstan_of_heading ?_ ?_ ?_ ?_⟩ <;>
      simp_all [k, State.power, DeckState.powered, State.deck, Deck.heading]
  · obtain rfl := Host.Outcome.next.inj (ht.symm.trans (remounts hm hs hp))
    refine ⟨capstan_of_heading ?_ hm ?_ ?_, capstan_of_heading ?_ ?_ ?_ ?_⟩ <;>
      simp_all [k, State.power, DeckState.powered, State.deck, Deck.heading]
  · rw [gateCleared_of_rewinding (s := cleared) hm hs]
    exact rewindEnd_of_unmount (s := cleared) hp htag (deckLeft_sweep hleft)

/-! ## UNMOUNT -/

/-- Deck `d` as an UNMOUNT leaves it before its motion begins (R19, R41). -/
def unmountBegun (s : State) (d : DeckId) : State :=
  { s with
    decks := s.decks.set d { s.deck d with state := .rewinding, purpose := some .unmount }
    poolDecks := s.poolDecks.set d { s.pool d with crossing := [] } }

theorem startUnmount_eq (s : State) (d : DeckId) : s.startUnmount d = (unmountBegun s d).beginMotion d := rfl

theorem deck_unmountBegun (s : State) (d : DeckId) : (unmountBegun s d).deck d =
    { s.deck d with state := .rewinding, purpose := some .unmount } := Pair.get_set_self _ _ _

theorem unmountBegun_setDeck (s : State) (d : DeckId) (x : Deck) :
    (unmountBegun s d).setDeck d x = { unmountBegun s d with decks := s.decks.set d x } := by
  simp [State.setDeck, unmountBegun]

/-- Deck `d` as a CLEAR DECK with film in the gate leaves it before its motion begins (R24). -/
def remountBegun (s : State) (d : DeckId) : State :=
  { s with
    decks := s.decks.set d { s.deck d with
      state := .rewinding, purpose := some .remount, counter := 0, anchored := false, excursion := 0 }
    marks := s.marks.set d { s.mark d with leader := .seek, digits := [], overlength := false, faultSeen := false } }

theorem startRemount_eq (s : State) (d : DeckId) : s.startRemount d = (remountBegun s d).poweredUp d := rfl

theorem deck_remountBegun (s : State) (d : DeckId) : (remountBegun s d).deck d = { s.deck d with
    state := .rewinding, purpose := some .remount, counter := 0, anchored := false, excursion := 0 } :=
  Pair.get_set_self _ _ _

theorem remountBegun_setDeck (s : State) (d : DeckId) (x : Deck) :
    (remountBegun s d).setDeck d x = { remountBegun s d with decks := s.decks.set d x } := by
  simp [State.setDeck, remountBegun]

theorem clearEmpty_eq {s : State} {d : DeckId} (htag : entryTagged s d = true)
    (hsweep : ∀ w, s.fseq.sweep = some w → w.deck ≠ d) : s.clearEmpty d = unmountedAs s d := by
  have hstate : ((s.modDeck d fun k => { k with state := .seated }).deck d).state = .seated := by simp [State.modDeck]
  rw [State.clearEmpty, releaseDeck_recordEvent hstate htag hsweep, State.modDeck, unmountedAs_setDeck]

section
variable {s : State} {d : DeckId}

theorem unmountDeck_of_busy (h : (s.sched d).active ≠ none) : s.unmountDeck (if d = .a then 0 else 1) = s.refuse .busy := by
  rw [State.unmountDeck, deckOf_code]
  exact if_pos (Option.isSome_iff_ne_none.mpr h)

theorem unmountDeck_of_free (h : (s.sched d).active = none) : s.unmountDeck (if d = .a then 0 else 1) =
    if (s.deck d).state ≠ .ready then s.refuse .state else (s.startUnmount d).answer [] := by
  rw [State.unmountDeck, deckOf_code]
  exact if_neg (by simp [h])

theorem clearDeck_of_not_halted (h : (s.deck d).state ≠ .halted) :
    s.clearDeck (if d = .a then 0 else 1) = s.refuse .state := by
  rw [State.clearDeck, deckOf_code]
  exact if_pos h

/-- The check of R24 that follows that of the deck's state. -/
theorem clearDeck_of_halted (h : (s.deck d).state = .halted) : s.clearDeck (if d = .a then 0 else 1) =
    if s.orderFor d then s.refuse .busy
    else (if (s.sensors d).filmInGate then s.startRemount d else s.clearEmpty d).answer [] := by
  rw [State.clearDeck, deckOf_code]
  exact if_neg (not_not.mpr h)

end

/-- Settles O25: the checks of the two requests, the beginning of a rewind, and the release of the deck's entry. -/
theorem unmountAndClearDeckTaken : Obligations.UnmountAndClearDeckTaken := by
  refine ⟨fun s d hidle => ?unmount, fun s d hidle => ?clear⟩
  case unmount =>
    intro deck does k hold free u
    have replies {t : State} {c : ResultCode} (h : s.unmountDeck deck = ⟨t, c, []⟩) : does t c :=
      receiveRequest_of_carryOut (.unmount deck) hidle rfl rfl h
    have starts {t : State} (hfree : free) (hready : k.state = .ready) (h : (unmountBegun s d).beginMotion d = t) :
        does t .ok := by
      refine replies ?_
      rw [unmountDeck_of_free hfree, if_neg (not_not.mpr hready), startUnmount_eq, h]
      rfl
    have rewinding : ((unmountBegun s d).deck d).state = .rewinding := by rw [deck_unmountBegun]
    refine ⟨fun h => replies (unmountDeck_of_busy h), fun h1 h2 => replies ?_, fun h1 h2 hhold => starts h1 h2 ?_,
      fun h1 h2 hhold hfilm => starts h1 h2 ?_, fun h1 h2 hhold hfilm hleft htag => ?_⟩
    · rw [unmountDeck_of_free h1, if_pos h2]
      rfl
    · rw [beginMotion_of_hold (s := unmountBegun s d) hhold, deck_unmountBegun, unmountBegun_setDeck]
      rfl
    · rw [beginMotion_of_no_hold (s := unmountBegun s d) hhold, motionBegins_rewinding_film rewinding hfilm,
        deck_unmountBegun, unmountBegun_setDeck]
      rfl
    · have hu : (unmountBegun s d).setDeck d { (unmountBegun s d).deck d with motion := .moving } = u .moving := by
        rw [deck_unmountBegun, unmountBegun_setDeck]
        rfl
      have hdeck : (u .moving).deck d = { (unmountBegun s d).deck d with motion := .moving } := by
        rw [← hu, State.deck_setDeck_self]
      refine ⟨(u .moving).rewindEnd d, ?_, starts h1 h2 ?_⟩
      · rw [exec_filmInGateCleared_of_clear (s := u .moving)
          (by have := linkIdle_iff.mp hidle; simpa [running] using this.1) hfilm,
          gateCleared_of_rewinding (by rw [hdeck]) (by rw [hdeck]; exact rewinding)]
      · rw [beginMotion_of_no_hold (s := unmountBegun s d) hhold, motionBegins_rewinding_clear rewinding hfilm, hu]
  case clear =>
    intro deck does k hold film clearable u
    have replies {t : State} {c : ResultCode} (h : s.clearDeck deck = ⟨t, c, []⟩) : does t c :=
      receiveRequest_of_carryOut (.clearDeck deck) hidle rfl rfl h
    have clears {t : State} (hc : clearable) (h : (if film then s.startRemount d else s.clearEmpty d) = t) : does t .ok := by
      obtain ⟨hhalted, horder⟩ := hc
      refine replies ?_
      rw [clearDeck_of_halted hhalted, if_neg (by simp [horder]), h]
      rfl
    have remounts {t : State} (hc : clearable) (hfilm : film = true) (h : (remountBegun s d).poweredUp d = t) : does t .ok :=
      clears hc ((if_pos hfilm).trans h)
    have rewinding : ((remountBegun s d).deck d).state = .rewinding := by rw [deck_remountBegun]
    refine ⟨fun h => replies (clearDeck_of_not_halted h), fun h1 h2 => replies ?_,
      fun hc hfilm hfault hhold => remounts hc hfilm ?_, fun hc hfilm hfault hhold => remounts hc hfilm ?_,
      fun hc hfilm hfault hunused => remounts hc hfilm ?_, fun hc hfilm hleft htag => clears hc ?_⟩
    · rw [clearDeck_of_halted h1, if_pos h2]
      rfl
    · rw [poweredUp_of_no_fault (s := remountBegun s d) hfault, beginMotion_of_hold (s := remountBegun s d) hhold,
        deck_remountBegun, remountBegun_setDeck]
      rfl
    · rw [poweredUp_of_no_fault (s := remountBegun s d) hfault, beginMotion_of_no_hold (s := remountBegun s d) hhold,
        motionBegins_rewinding_film rewinding hfilm, deck_remountBegun, remountBegun_setDeck]
      rfl
    · rw [poweredUp_of_fault (s := remountBegun s d) hfault]
      exact halt_of_unused (s := remountBegun s d) hunused .driveFault
    · exact (if_neg (by simp [hfilm])).trans (clearEmpty_eq htag (deckLeft_sweep hleft))

end Sys2Proof.Machine
end

section
/-! PROOFS. Cartridge detection (R4, R5), the removal of a cartridge with film threaded (R7, R53, R133), tension and the drive
fault (R21, R22). -/

namespace Sys2Proof.Machine

/-! ## Detection -/

section
variable {s : State} {d : DeckId}

/-- The seating or the disagreement time started afresh by a contact of a deck in EMPTY (R4, R5). -/
theorem seatChanged_of_empty (h : (s.deck d).state = .empty) (made : Bool) : s.seatChanged d made = s.setDeck d { s.deck d with
    seatFaultRecorded := (s.deck d).seatFaultRecorded && !((s.sensors d).seat1 == (s.sensors d).seat2)
    seating := if (s.sensors d).seat1 && (s.sensors d).seat2 then some ⟨100, 0⟩ else none
    disagreement := if (s.sensors d).seat1 != (s.sensors d).seat2 then some ⟨1000, 0⟩ else none } := by
  unfold State.seatChanged
  simp only [h, detect_modDeck]
  rfl

theorem seatingEnds_of_seating (h : (s.deck d).state = .empty) (hs : (s.deck d).seating.isSome = true) (kind1 kind2 : Bool) :
    seatingEnds d kind1 kind2 s = s.setDeck d { s.deck d with
      state := .seated, seating := none, disagreement := none, events := { (s.deck d).events with seated := true }
      kind := some (kindOf kind1 kind2) } := if_pos ⟨h, hs⟩

theorem kindOf_eq (kind1 kind2 : Bool) :
    kindOf kind1 kind2 = if kind2 then .unsupported else if kind1 then .mm35 else .mm16 := by
  cases kind1 <;> cases kind2 <;> rfl

theorem seatFaults_of_disagreement (h : (s.deck d).state = .empty) (hs : (s.deck d).disagreement.isSome = true) :
    seatFaults d s = s.setDeck d { s.deck d with
      disagreement := none, seatFaultRecorded := true
      events := if (s.deck d).seatFaultRecorded then (s.deck d).events else { (s.deck d).events with seatFault := true } } := by
  rw [seatFaults, if_pos ⟨h, hs⟩, State.modDeck]
  cases hr : (s.deck d).seatFaultRecorded
  · rfl
  · simp only [if_true, ← hr]

end

/-- Settles O32: a contact's change at a deck in EMPTY, and the ends of the two times. -/
theorem cartridgeDetected : Obligations.CartridgeDetected := by
  intro s d hrun hempty k
  have changed (c : Contact) (made : Bool) (hc : (s.sensors d).contact c ≠ made) : exec (.seatContactChange d c made) s =
      .next ((s.setSensors d ((s.sensors d).setContact c made)).setDeck d { k with
        seatFaultRecorded := k.seatFaultRecorded &&
          !(((s.sensors d).setContact c made).seat1 == ((s.sensors d).setContact c made).seat2)
        seating := if ((s.sensors d).setContact c made).seat1 && ((s.sensors d).setContact c made).seat2
          then some ⟨100, 0⟩ else none
        disagreement := if ((s.sensors d).setContact c made).seat1 != ((s.sensors d).setContact c made).seat2
          then some ⟨1000, 0⟩ else none }) := by
    rw [exec_seatContactChange, seatContact_of_changed hrun hc, seatChanged_of_empty (by exact hempty),
      State.sensors_setSensors_self]
    rfl
  refine ⟨fun made => ⟨fun hc => ?first, fun hc => ?second⟩, fun hs kind1 kind2 => ?seated, fun hs => ?fault⟩
  case first =>
    intro agree
    rw [changed .seat1 made hc]
    cases made <;> cases h2 : (s.sensors d).seat2 <;>
      simp [agree, h2, DeckPins.setContact, State.setDeck, State.setSensors, k]
  case second =>
    intro agree
    rw [changed .seat2 made hc]
    cases made <;> cases h1 : (s.sensors d).seat1 <;>
      simp [agree, h1, DeckPins.setContact, State.setDeck, State.setSensors, k]
  case seated =>
    refine (next_live_of_running hrun _).trans ?_
    rw [seatingEnds_of_seating hempty hs, kindOf_eq]
    rfl
  case fault =>
    refine (next_live_of_running hrun _).trans ?_
    rw [seatFaults_of_disagreement hempty hs]
    rfl

/-! ## Removal with film threaded -/

theorem deckLeft_iff {s : State} {d : DeckId} : deckLeft s d = true ↔
    s.scheds = ⟨Sched.reset, Sched.reset⟩ ∧ s.opa.requests = ⟨false, false⟩ ∧ s.opa.holder ≠ some d ∧
      (∀ w, s.fseq.sweep = some w → w.deck ≠ d) ∧
      ∀ t, (s.ticket t).state = .queued → (s.ticket t).slot.isSome = true ∧ (s.ticket t).slot = s.entryOf d := by
  simp [deckLeft, mem_allTickets, Option.all_eq_true, imp_iff_not_or, and_assoc]

/-- The request of a deck for which the scheduler does nothing stays as it is (R147). -/
theorem updateRequest_of_unserved {s : State} {d : DeckId} (hs : s.scheds = ⟨Sched.reset, Sched.reset⟩)
    (hr : s.opa.requests = ⟨false, false⟩) : s.updateRequest d = s := by
  have hd : s.sched d = Sched.reset := by cases d <;> simp [State.sched, hs, Pair.get]
  have hlow : s.opa.requests.get d = false := by cases d <;> simp [hr, Pair.get]
  have hwant : s.requestWanted d = false := by simp [State.requestWanted, State.ticketWants, hd, Sched.reset]
  have hself : s.modSched d (fun c => { c with request := false }) = s := by
    have hreset : ({ s.sched d with request := false } : Sched) = s.sched d := by rw [hd]; rfl
    rw [State.modSched, hreset, State.setSched_self]
  simp only [State.updateRequest, hwant, hself, Bool.false_eq_true, if_false]
  exact withdraw_of_lowered hlow

/-- Deck `d` after a removal with film threaded, before its entry is released and detection begins (R7, R2, R32, R41 to R44). -/
def removedAs (s : State) (d : DeckId) : State :=
  { haltedAs s d .runout with
    decks := s.decks.set d { (haltedAs s d .runout).deck d with
      state := .empty, kind := none, counter := 0, lastHalt := (s.deck d).lastHalt
      events := { (s.deck d).events with removed := true } } }

/-- What a removal with film threaded changes before it is handed on. -/
def removeLocal (s : State) (d : DeckId) : State :=
  ((((s.dropLeader d).modDeck d fun k =>
    { k.dropMotion with state := .empty, kind := none, counter := 0 }.recordEvent .removed).powerOff d).dropShares d)

theorem removeLocal_eq (s : State) (d : DeckId) : removeLocal s d = removedAs s d := by
  unfold removeLocal
  rw [dropLeader_eq]
  by_cases hr : ((s.deck d).state == .threading || (s.deck d).state == .identifying) = true
  · simp only [hr, if_true]
    simp [State.dropShares, State.powerOff, State.modDeck, removedAs, haltedAs, hr, Deck.recordEvent, EventSet.add,
      Deck.dropMotion, Mark.powerOff, Mark.dropSearch, Mark.dropLeader, PoolDeck.drop, PoolDeck.leaveRun]
    simp [State.setDeck, State.setMark, State.setLens, State.setPool, State.deck]
  · simp only [hr]
    simp [State.dropShares, State.powerOff, State.modDeck, removedAs, haltedAs, hr, Deck.recordEvent, EventSet.add,
      Deck.dropMotion, Mark.powerOff, Mark.dropSearch, PoolDeck.drop, PoolDeck.leaveRun]
    simp [State.setDeck, State.setMark, State.setLens, State.setPool, State.deck]

theorem deckFailed_of_inactive {s : State} {d : DeckId} (h : (s.sched d).active = none) (c : HeldOutcome) :
    s.deckFailed d c = s := by
  simp only [State.deckFailed, h]

theorem closeTenure_of_not_holder {s : State} {d : DeckId} (h : s.opa.holder ≠ some d) : s.closeTenure d = s := by
  simp [State.closeTenure, h]

/-- What a removal comes to once the deck's entry has been released, where no block works for the deck. -/
theorem removal_tail {s : State} {d : DeckId} (hidle : schedIdle s = true) (hholder : s.opa.holder ≠ some d)
    (hsweep : ∀ w, s.fseq.sweep = some w → w.deck ≠ d) :
    (((State.sweepReport? (s.abortSweep d .removal)).closeTenure d).detect d).settle = s.detect d := by
  have hreport : State.sweepReport? (s.abortSweep d .removal) = s := by rw [abortSweep_of_unused hsweep]; rfl
  rw [hreport, closeTenure_of_not_holder hholder, settle_of_idle (s := s.detect d) (schedIdle_congr hidle rfl rfl rfl)]

theorem releaseEntry_of_tagged {s : State} {d : DeckId} {n : Slot} (htag : (s.entry n).tag.isSome = true) (removal : Bool) :
    s.releaseEntry n d removal = { s with
      poolDecks := s.poolDecks.set d (s.pool d).drop
      entries := s.entries.set n { s.entry n with
        state := .listed, deck := none, interrupted := (s.entry n).interrupted || removal }
      tickets := s.tickets.map fun t =>
        if t.slot = some n ∧ t.state = .queued then { t with state := .awaitRoll } else t } := if_pos htag

/-- With the tickets of the deck's entry waiting for the roll again, the scheduler has nothing to do. -/
theorem schedIdle_of_parked {s t : State} {d : DeckId} {n : Slot} (h : deckLeft s d = true) (hn : s.entryOf d = some n)
    (hs : t.scheds = s.scheds) (ho : t.opa = s.opa) (ht : t.tickets = s.tickets.map fun t =>
      if t.slot = some n ∧ t.state = .queued then { t with state := .awaitRoll } else t) : schedIdle t = true := by
  obtain ⟨hscheds, hrequests, -, -, hqueued⟩ := deckLeft_iff.mp h
  rw [schedIdle_iff, hs, ho]
  refine ⟨hscheds, hrequests, fun x => ?_⟩
  have hx : t.ticket x = if (s.ticket x).slot = some n ∧ (s.ticket x).state = .queued then
      { s.ticket x with state := .awaitRoll } else s.ticket x := by
    simp only [State.ticket, ht, Fin.getElem_fin, Vector.getElem_map]
    rfl
  rw [hx]
  split
  · simp
  · rename_i hnot
    exact fun hq => hnot ⟨(hqueued x hq).2.trans hn, hq⟩

/-- The deck's entry, if it has one, released by a removal (R7, R53, R54). -/
def releaseRemoved (s : State) (d : DeckId) : State :=
  match s.entryOf d with
  | some k => s.releaseEntry k d true
  | none => s

theorem removeThreaded_eq (s : State) (d : DeckId) : s.removeThreaded d = (((State.sweepReport?
    ((releaseRemoved (((removeLocal s d).deckFailed d .removed).updateRequest d) d).abortSweep d .removal)).closeTenure
      d).detect d).settle := rfl

theorem removeLocal_handed_on {s : State} {d : DeckId} (h : deckLeft s d = true) :
    ((removeLocal s d).deckFailed d .removed).updateRequest d = removedAs s d := by
  obtain ⟨hscheds, hrequests, -⟩ := deckLeft_iff.mp h
  have hactive : ((removedAs s d).sched d).active = none := by
    change (s.scheds.get d).active = none
    rw [hscheds]
    cases d <;> rfl
  rw [removeLocal_eq, deckFailed_of_inactive hactive, updateRequest_of_unserved (s := removedAs s d) hscheds hrequests]

/-- A removal with film threaded changes the deck's own items, and no entry, where the deck has none (R7). -/
theorem removeThreaded_of_no_entry {s : State} {d : DeckId} (h : deckLeft s d = true) (hn : s.entryOf d = none) :
    s.removeThreaded d = (removedAs s d).detect d := by
  obtain ⟨hscheds, hrequests, hholder, hsweep, hqueued⟩ := deckLeft_iff.mp h
  have hidle : schedIdle (removedAs s d) = true := by
    refine schedIdle_iff.mpr ⟨hscheds, hrequests, fun t hq => ?_⟩
    obtain ⟨hsome, hslot⟩ := hqueued t hq
    rw [hslot, hn] at hsome
    cases hsome
  have hrelease : releaseRemoved (removedAs s d) d = removedAs s d := by
    have hentry : (removedAs s d).entryOf d = none := hn
    simp only [releaseRemoved, hentry]
  rw [removeThreaded_eq, removeLocal_handed_on h, hrelease]
  exact removal_tail (s := removedAs s d) hidle hholder hsweep

/-- A removal with film threaded where the deck has a tagged entry (R7, R53, R133). -/
theorem removeThreaded_of_entry {s : State} {d : DeckId} {n : Slot} (h : deckLeft s d = true) (hn : s.entryOf d = some n)
    (htag : (s.entry n).tag.isSome = true) : s.removeThreaded d = State.detect { removedAs s d with
      entries := s.entries.set n { s.entry n with state := .listed, deck := none, interrupted := true }
      tickets := s.tickets.map fun t =>
        if t.slot = some n ∧ t.state = .queued then { t with state := .awaitRoll } else t } d := by
  obtain ⟨-, -, hholder, hsweep, -⟩ := deckLeft_iff.mp h
  have hpool : (removedAs s d).poolDecks.set d ((removedAs s d).pool d).drop = (removedAs s d).poolDecks := by
    simp [removedAs, haltedAs, State.pool, PoolDeck.drop]
  have hrelease : releaseRemoved (removedAs s d) d = { removedAs s d with
      entries := s.entries.set n { s.entry n with state := .listed, deck := none, interrupted := true }
      tickets := s.tickets.map fun t =>
        if t.slot = some n ∧ t.state = .queued then { t with state := .awaitRoll } else t } := by
    have hentry : (removedAs s d).entryOf d = some n := hn
    simp only [releaseRemoved, hentry]
    rw [releaseEntry_of_tagged (s := removedAs s d) htag, hpool, Bool.or_true]
    rfl
  rw [removeThreaded_eq, removeLocal_handed_on h, hrelease]
  exact removal_tail (schedIdle_of_parked h hn rfl rfl rfl) hholder hsweep

theorem seatChanged_of_made {s : State} {d : DeckId} (h : (s.deck d).state ≠ .empty) : s.seatChanged d true = s := by
  unfold State.seatChanged
  split
  · contradiction
  · rfl
  · rfl

theorem seatChanged_of_threaded {s : State} {d : DeckId} (h1 : (s.deck d).state ≠ .empty) (h2 : (s.deck d).state ≠ .seated) :
    s.seatChanged d false = s.removeThreaded d := by
  unfold State.seatChanged
  split
  · contradiction
  · contradiction
  · rfl

/-- Settles O34: the removal by `removeThreaded_of_no_entry` and `removeThreaded_of_entry`. -/
theorem removalWhileThreaded : Obligations.RemovalWhileThreaded := by
  refine ⟨fun s d c hstate => ?made, fun s d c hrun h1 h2 hmade hleft htag => ?removed⟩
  case made =>
    rw [exec_seatContactChange, seatContact]
    split
    · rename_i hstands
      have hself : (s.sensors d).setContact c true = s.sensors d := by
        cases c
        all_goals
          rw [← (show _ = true from hstands)]
          rfl
      rw [hself]
      exact congrArg Host.Outcome.next (State.setSensors_self s d).symm
    · unfold live
      split
      · rfl
      · exact congrArg Host.Outcome.next (seatChanged_of_made (s := s.setSensors d ((s.sensors d).setContact c true)) hstate)
  case removed =>
    intro p k h u
    let t := s.setSensors d p
    have hchanged : (s.sensors d).contact c ≠ false := by simp [hmade]
    have hopen : p.contact c = false := DeckPins.contact_setContact _ _ _
    have removes {v : State} (hv : t.removeThreaded d = v) : exec (.seatContactChange d c false) s = .next v := by
      rw [exec_seatContactChange, seatContact_of_changed hrun hchanged, seatChanged_of_threaded (s := t) h1 h2]
      exact congrArg Host.Outcome.next hv
    have detected (v : State) (hsens : v.sensors d = p) : v.detect d = v.setDeck d { v.deck d with
        seating := none, disagreement := if p.seat1 = p.seat2 then none else some ⟨1000, 0⟩ } := by
      rw [State.detect, hsens, Deck.startDetection_of_contact_open _ hopen]
    have hsens : t.sensors d = p := State.sensors_setSensors_self _ _ _
    refine ⟨fun hn => removes ?_, fun n hn => removes ?_⟩
    · rw [removeThreaded_of_no_entry (s := t) hleft hn]
      refine (detected _ (by exact hsens)).trans ?_
      simp [u, h, t, k, removedAs, haltedAs, State.setDeck, State.deck, State.setSensors]
      rfl
    · rw [removeThreaded_of_entry (s := t) hleft hn (entryTagged_iff.mp htag n hn)]
      refine (detected _ (by exact hsens)).trans ?_
      simp [u, h, t, k, removedAs, haltedAs, State.setDeck, State.deck, State.setSensors, State.entry]
      rfl

end Sys2Proof.Machine
end

section
/-! PROOFS. Tension readings and the drive fault (R21, R22), one count of film travel (R1, R9, R10, R12, R29, R40 to R42), and the
film-end sensor (R16, R18). -/

namespace Sys2Proof.Machine

/-! ## Tension readings -/

section
variable {s : State} {d : DeckId} {reading : BitVec 10}

theorem tensionReads_of_off (h : s.power d = false) : tensionReads d reading s = s := if_neg (by simp [h])

theorem tensionReads_of_in_band (h : s.power d = true)
    (hb : (s.params.bands.get d).low ≤ reading.toNat ∧ reading.toNat ≤ (s.params.bands.get d).high) :
    tensionReads d reading s = s.setDeck d { s.deck d with excursion := 0 } := by
  simp [tensionReads, h, Deck.tension, hb]

theorem tensionReads_of_counted (h : s.power d = true)
    (hb : ¬ ((s.params.bands.get d).low ≤ reading.toNat ∧ reading.toNat ≤ (s.params.bands.get d).high))
    (hlimit : min 15 ((s.deck d).excursion + 1) < (s.params.bands.get d).limit) :
    tensionReads d reading s = s.setDeck d { s.deck d with excursion := min 15 ((s.deck d).excursion + 1) } := by
  have hheld : ¬ holdUp Config.excursionHold (s.deck d).excursion ≥ (s.params.bands.get d).limit := Nat.not_le.mpr hlimit
  simp only [tensionReads, h, if_true, Deck.tension, if_neg hb, if_neg hheld]
  rfl

theorem tensionReads_of_tripped (h : s.power d = true)
    (hb : ¬ ((s.params.bands.get d).low ≤ reading.toNat ∧ reading.toNat ≤ (s.params.bands.get d).high))
    (hlimit : (s.params.bands.get d).limit ≤ min 15 ((s.deck d).excursion + 1)) : tensionReads d reading s =
      (s.setDeck d { s.deck d with excursion := min 15 ((s.deck d).excursion + 1) }).halt d
        (if (s.params.bands.get d).high < reading.toNat then .tensionHigh else .tensionLow) := by
  have hheld : holdUp Config.excursionHold (s.deck d).excursion ≥ (s.params.bands.get d).limit := hlimit
  simp only [tensionReads, h, if_true, Deck.tension, if_neg hb, if_pos hheld]
  rfl

end

/-- Settles O37: the readings that do not trip, and the levels of the drive fault input that do not halt. -/
theorem tensionReadingsCounted : Obligations.TensionReadingsCounted := by
  intro s d reading hrun k b inBand counted both
  have reads {t : State} (h : tensionReads d reading s = t) : both t :=
    ⟨(next_live_of_running hrun _).trans (congrArg _ h), (next_live_of_running hrun _).trans (congrArg _ h)⟩
  refine ⟨fun h => reads (tensionReads_of_off h), fun h hb => reads (tensionReads_of_in_band h hb),
    fun h hb hl => reads (tensionReads_of_counted h hb hl), fun active h => ?_⟩
  refine (next_live_of_running (s := s.setSensors d { s.sensors d with driveFault := active }) hrun _).trans ?_
  refine congrArg Host.Outcome.next (if_neg ?_)
  rw [Bool.and_eq_true]
  rintro ⟨hactive, hpower⟩
  rcases h with h | h
  · exact absurd (h.symm.trans hpower) (by decide)
  · exact absurd (h.symm.trans hactive) (by decide)

/-! ## One count of film travel -/

/-- Deck `k` after a count of travel, its leader travel and the film's direction with it (R1, R9, R10, R12). -/
def Deck.counted (k : Deck) (dir : Direction) : Deck := ((k.count dir).countLeader dir).noteTravel dir

section
variable (k : Deck) (dir : Direction)

/-- A count of travel changes the counter and the anchored flag alone (R1). -/
theorem Deck.count_eq_counter_anchored : ∃ c a, k.count dir = { k with counter := c, anchored := a } := by
  unfold Deck.count
  split <;> split <;> exact ⟨_, _, rfl⟩

@[simp] theorem Deck.state_count : (k.count dir).state = k.state := by
  obtain ⟨c, a, h⟩ := Deck.count_eq_counter_anchored k dir
  rw [h]

@[simp] theorem Deck.motion_count : (k.count dir).motion = k.motion := by
  obtain ⟨c, a, h⟩ := Deck.count_eq_counter_anchored k dir
  rw [h]

@[simp] theorem Deck.travel_count : (k.count dir).travel = k.travel := by
  obtain ⟨c, a, h⟩ := Deck.count_eq_counter_anchored k dir
  rw [h]

@[simp] theorem Deck.leaderTravel_count : (k.count dir).leaderTravel = k.leaderTravel := by
  obtain ⟨c, a, h⟩ := Deck.count_eq_counter_anchored k dir
  rw [h]

@[simp] theorem Deck.seeksLeader_count : (k.count dir).seeksLeader = k.seeksLeader := by
  obtain ⟨c, a, h⟩ := Deck.count_eq_counter_anchored k dir
  rw [h]
  rfl

theorem Deck.counted_eq : k.counted dir = { k.count dir with
    leaderTravel := if dir = .forward ∧ k.seeksLeader = true then min 60000 (k.leaderTravel + 1) else k.leaderTravel
    travel := if k.motion = .moving then some dir else k.travel } := by
  have hleader : ((k.count dir).countLeader dir) = { k.count dir with
      leaderTravel := if dir = .forward ∧ k.seeksLeader = true then min 60000 (k.leaderTravel + 1) else k.leaderTravel } := by
    unfold Deck.countLeader
    simp only [Deck.seeksLeader_count]
    split
    · rw [Deck.leaderTravel_count]
      rfl
    · rw [← Deck.leaderTravel_count k dir]
  rw [Deck.counted, hleader, Deck.noteTravel]
  by_cases hm : k.motion = .moving
  · rw [if_pos (by rw [← hm]; exact Deck.motion_count k dir), if_pos hm]
  · rw [if_neg (by rw [← Deck.motion_count k dir] at hm; exact hm), if_neg hm, ← Deck.travel_count k dir]

@[simp] theorem Deck.state_counted : (k.counted dir).state = k.state := by rw [Deck.counted_eq]; exact Deck.state_count k dir

@[simp] theorem Deck.seeksLeader_counted : (k.counted dir).seeksLeader = k.seeksLeader := by
  rw [Deck.counted_eq]
  exact Deck.seeksLeader_count k dir

end

/-- The state after a count of travel has reached the deck and its mark reader (R1, R29). -/
def countTaken (s : State) (d : DeckId) (dir : Direction) : State :=
  if s.power d then (s.setDeck d ((s.deck d).counted dir)).setMark d ((s.mark d).count dir)
  else s.setDeck d ((s.deck d).counted dir)

section
variable {s : State} {d : DeckId} {dir : Direction}

theorem deck_countTaken : (countTaken s d dir).deck d = (s.deck d).counted dir := by
  unfold countTaken
  split <;> simp

theorem encoderCounts_of_empty (h : (s.deck d).state = .empty) : encoderCounts d dir s = s := if_pos h

theorem encoderCounts_eq (h : (s.deck d).state ≠ .empty) : encoderCounts d dir s =
    ((countTaken s d dir).crossTravel d dir (s.deck d).counter (s.mark d).inProgress.isSome).leaderLimit d := by
  have hpower : (s.setDeck d ((s.deck d).counted dir)).power d = s.power d := by simp [State.power]
  have htaken : (if (s.setDeck d ((s.deck d).counted dir)).power d then
      (s.setDeck d ((s.deck d).counted dir)).setMark d ((s.mark d).count dir)
      else s.setDeck d ((s.deck d).counted dir)) = countTaken s d dir := by rw [hpower, countTaken]
  rw [← htaken]
  exact if_neg h

theorem crossTravel_of_not_matching (h : (s.deck d).state.matching = false) (old : Nat) (marked : Bool) :
    s.crossTravel d dir old marked = s := by
  have hindexing : (s.deck d).state ≠ .indexing := fun hi => by simp [hi, DeckState.matching] at h
  have hraise : s.raiseExtent d dir = s := by
    unfold State.raiseExtent
    split
    · rw [if_neg (by simp [hindexing])]
    · rfl
  have hupdate : s.updateCrossing d = s := by
    unfold State.updateCrossing
    split
    · rfl
    · rw [if_neg (by simp [h])]
  have hhold : ∀ b, s.holdCrossing d old b = s := fun b => by
    unfold State.holdCrossing
    split
    · rfl
    · rw [if_neg (by simp [h])]
  simp only [State.crossTravel, hraise, hupdate, hhold, ite_self]

theorem crossTravel_of_no_entry (h : s.entryOf d = none) (old : Nat) (marked : Bool) :
    s.crossTravel d dir old marked = s := by
  have hraise : s.raiseExtent d dir = s := by simp only [State.raiseExtent, h]
  have hupdate : s.updateCrossing d = s := by simp only [State.updateCrossing, h]
  have hhold : ∀ b, s.holdCrossing d old b = s := fun b => by simp only [State.holdCrossing, h]
  simp only [State.crossTravel, hraise, hupdate, hhold, ite_self]

theorem leaderLimit_of_not_reached (h : ¬ ((s.deck d).seeksLeader = true ∧ (s.deck d).leaderTravel ≥ 60000)) :
    s.leaderLimit d = s := if_neg h

theorem leaderLimit_of_reached (h : (s.deck d).seeksLeader = true) (hl : (s.deck d).leaderTravel ≥ 60000) :
    s.leaderLimit d = s.halt d .noLeader := if_pos ⟨h, hl⟩

theorem seeksLeader_iff {k : Deck} : k.seeksLeader = true ↔
    (k.state = .threading ∧ k.phase = some .advance ∧ k.motion = .moving) ∨ (k.state = .identifying ∧ k.reading = none) := by
  simp [Deck.seeksLeader, and_assoc]

theorem matching_of_seeksLeader {k : Deck} (h : k.seeksLeader = true) : k.state.matching = false ∧ k.state ≠ .empty := by
  rcases seeksLeader_iff.mp h with ⟨hs, -⟩ | ⟨hs, -⟩ <;> rw [hs] <;> decide

end

/-! ## Events that halt a deck -/

/-- What a halt drops may differ before it (R23). -/
theorem haltedAs_setDeck_dropped (s : State) (d : DeckId) (x : Deck) (a : Bool) (v : Option Direction) (c : HaltCause) :
    haltedAs (s.setDeck d { x with anchored := a, travel := v }) d c = haltedAs (s.setDeck d x) d c := by
  simp [haltedAs, State.setDeck, State.deck, State.mark]

theorem haltedAs_setMark_count (s : State) (d : DeckId) (dir : Direction) (c : HaltCause) :
    haltedAs (s.setMark d ((s.mark d).count dir)) d c = haltedAs s d c := by
  simp [haltedAs, State.setMark, State.mark, State.deck, Mark.count]

/-- A forward count of travel before a halt (R1, R9, R10). -/
theorem haltedAs_countTaken {s : State} {d : DeckId} (hseeks : (s.deck d).seeksLeader = true)
    (hl : 59999 ≤ (s.deck d).leaderTravel) (c : HaltCause) :
    haltedAs (countTaken s d .forward) d c = haltedAs (s.setDeck d { s.deck d with
      counter := min 2097151 ((s.deck d).counter + 1), leaderTravel := 60000 }) d c := by
  have hcount : haltedAs (s.setDeck d ((s.deck d).counted .forward)) d c = haltedAs (s.setDeck d { s.deck d with
      counter := min 2097151 ((s.deck d).counter + 1), leaderTravel := 60000 }) d c := by
    rw [Deck.counted_eq, if_pos ⟨rfl, hseeks⟩, Nat.min_eq_left (by omega)]
    unfold Deck.count
    by_cases hmax : (s.deck d).counter ≥ Config.maxPosition
    · have hle : 2097151 ≤ (s.deck d).counter := hmax
      rw [if_pos hmax, Nat.min_eq_left (by omega)]
      exact haltedAs_setDeck_dropped s d { s.deck d with counter := 2097151, leaderTravel := 60000 } _ _ c
    · have hlt : ¬ 2097151 ≤ (s.deck d).counter := hmax
      rw [if_neg hmax, Nat.min_eq_right (by omega)]
      exact haltedAs_setDeck_dropped s d { s.deck d with counter := (s.deck d).counter + 1, leaderTravel := 60000 } _ _ c
  unfold countTaken
  split
  · rw [← hcount]
    exact haltedAs_setMark_count (s.setDeck d ((s.deck d).counted .forward)) d .forward c
  · exact hcount

theorem deckUnused_countTaken {s : State} {d : DeckId} (h : deckUnused s d = true) (dir : Direction) :
    deckUnused (countTaken s d dir) d = true := by
  unfold countTaken
  split <;> exact h

theorem leaderTravelEnds_of_seeks {s : State} {d : DeckId} (h : (s.deck d).seeksLeader = true) : leaderTravelEnds d s =
    (s.setDeck d { s.deck d with
      counter := min 2097151 ((s.deck d).counter + (60000 - (s.deck d).leaderTravel)), leaderTravel := 60000 }).halt d
        .noLeader := if_pos h

section
variable {s : State} {d : DeckId}

/-- A film-end sensor that fires while the part runs (R18). -/
theorem exec_filmEndFires (hrun : running s = true) (h : (s.sensors d).filmEnd = false) : exec (.filmEndFires d) s =
    .next (State.filmEndFired { s with deckPins := s.deckPins.set d { s.sensors d with filmEnd := true } } d) :=
  (congrArg Host.Outcome.next (if_neg (by simp [h]))).trans
    (next_live_of_running (s := s.setSensors d { s.sensors d with filmEnd := true }) hrun _)

theorem filmEndFired_of_under_way (h : (s.deck d).state = .shuttling ∨ (s.deck d).state = .searching) :
    s.filmEndFired d = s.halt d .runout := by
  rcases h with h | h <;> simp only [State.filmEndFired, h]

theorem filmEndFired_of_ignored (h1 : (s.deck d).state ≠ .indexing) (h2 : (s.deck d).state ≠ .shuttling)
    (h3 : (s.deck d).state ≠ .searching) : s.filmEndFired d = s := by
  unfold State.filmEndFired
  split <;> first | rfl | contradiction

end

/-- Settles O36: each event comes to `State.halt`, which `halt_of_unused` resolves. -/
theorem eventsHaltDeck : Obligations.EventsHaltDeck := by
  intro s d hrun hpower hunused k b
  have runs {f : State → State} {t : State} (h : f s = t) :
      (Host.Outcome.next (live s f) : Host.Outcome State Fault Refusal) = .next t :=
    (next_live_of_running hrun f).trans (congrArg _ h)
  have limits (h : k.seeksLeader = true) : exec (.leaderTravelLimit d) s = .next (haltedAs { s with decks := s.decks.set d { k with
      counter := min 2097151 (k.counter + (60000 - k.leaderTravel)), leaderTravel := 60000 } } d .noLeader) :=
    runs ((leaderTravelEnds_of_seeks h).trans (halt_of_unused (by exact hunused) _))
  refine ⟨fun reading hout hlimit => ?trips, ?fault, fun hs hf => ?filmEnd, fun hs hl => ?counts,
    fun h1 h2 h3 => limits (seeksLeader_iff.mpr (.inl ⟨h1, h2, h3⟩)), fun h1 h2 => limits (seeksLeader_iff.mpr (.inr ⟨h1, h2⟩))⟩
  case trips =>
    have hb : ¬ (b.low ≤ reading.toNat ∧ reading.toNat ≤ b.high) := by omega
    have reads := (tensionReads_of_tripped hpower hb hlimit).trans (halt_of_unused (by exact hunused) _)
    exact ⟨runs reads, runs reads⟩
  case fault =>
    refine (next_live_of_running (s := s.setSensors d { s.sensors d with driveFault := true }) hrun _).trans ?_
    refine congrArg Host.Outcome.next ((if_pos ?_).trans (halt_of_unused (by exact hunused) _))
    rw [Bool.true_and]
    exact hpower
  case filmEnd =>
    refine (exec_filmEndFires hrun hf).trans (congrArg Host.Outcome.next ?_)
    exact (filmEndFired_of_under_way (by exact hs)).trans (halt_of_unused (by exact hunused) _)
  case counts =>
    have hseeks : k.seeksLeader = true := seeksLeader_iff.mpr hs
    obtain ⟨hmatching, hempty⟩ := matching_of_seeksLeader hseeks
    have hdeck := deck_countTaken (s := s) (d := d) (dir := .forward)
    have hl' : ((countTaken s d .forward).deck d).leaderTravel ≥ 60000 := by
      rw [hdeck, Deck.counted_eq, if_pos ⟨rfl, hseeks⟩]
      change 60000 ≤ min 60000 (k.leaderTravel + 1)
      omega
    refine runs ?_
    rw [encoderCounts_eq hempty, crossTravel_of_not_matching (by rw [hdeck, Deck.state_counted]; exact hmatching),
      leaderLimit_of_reached (by rw [hdeck, Deck.seeksLeader_counted]; exact hseeks) hl',
      halt_of_unused (deckUnused_countTaken hunused _), haltedAs_countTaken hseeks hl]
    rfl

end Sys2Proof.Machine
end

section
/-! PROOFS. The film-end sensor in INDEXING (R16, R18), and one count of film travel at a deck with an entry (R40 to R42). -/

namespace Sys2Proof.Machine

/-! ## The film-end sensor -/

section
variable {s : State} {d : DeckId}

theorem setComplete_of_no_entry (h : s.entryOf d = none) : s.setComplete d = s := by
  simp only [State.setComplete, h]

theorem setComplete_of_entry {n : Slot} (h : s.entryOf d = some n) :
    s.setComplete d = s.setEntry n { s.entry n with complete := true } := by
  simp only [State.setComplete, h]

theorem runRested_of_inactive (h : (s.sched d).active = none) (atEnd : Bool) : s.runRested d atEnd = s := by
  simp only [State.runRested, h]

/-- A firing in INDEXING is a stop with the film end met (R16). -/
theorem filmEndFired_of_indexing (h : (s.deck d).state = .indexing) : s.filmEndFired d =
    (let r := ((s.setComplete d).modDeck d fun k => { k with runMetEnd := true }).stop d
     if r.2 then (r.1.runRested d true).settle else r.1) := by
  simp only [State.filmEndFired, h]

/-- The state in which an index run has met the film end, before its stop. -/
def metEnd (s : State) (d : DeckId) : State := s.modDeck d fun k => { k with runMetEnd := true }

theorem stop_metEnd_of_moving (h : (s.deck d).state = .indexing) (hm : (s.deck d).motion = .moving) :
    (metEnd s d).stop d = (stoppedAs (metEnd s d) d, false) := by
  have hstate : ((metEnd s d).deck d).state = .indexing := by rw [metEnd, State.modDeck, State.deck_setDeck_self]; exact h
  have hmotion : ((metEnd s d).deck d).motion = .moving := by rw [metEnd, State.modDeck, State.deck_setDeck_self]; exact hm
  rw [stop_eq, stoppedWhereMoving]
  simp only [hstate, hmotion]
  rfl

theorem stop_metEnd_of_deferred (h : (s.deck d).state = .indexing) (hm : (s.deck d).motion = .deferred) :
    (metEnd s d).stop d = (stoppedAs (metEnd s d) d, true) := by
  have hstate : ((metEnd s d).deck d).state = .indexing := by rw [metEnd, State.modDeck, State.deck_setDeck_self]; exact h
  have hmotion : ((metEnd s d).deck d).motion = .deferred := by rw [metEnd, State.modDeck, State.deck_setDeck_self]; exact hm
  rw [stop_eq, stoppedWhereMoving]
  simp only [hstate, hmotion]
  rfl

/-- A run in motion that meets the film end comes to rest from there (R16, R43). -/
theorem stoppedAs_metEnd_of_moving (hm : (s.deck d).motion = .moving) : stoppedAs (metEnd s d) d = { s with
    decks := s.decks.set d { s.deck d with runMetEnd := true, target := none, search := none, stopping := true }
    poolDecks := s.poolDecks.set d { s.pool d with watched := none, searchRecord := none }
    marks := s.marks.set d { s.mark d with searchReference := none, searchCandidate := none } } := by
  have hmotion : ((metEnd s d).deck d).motion ≠ .deferred := by
    rw [metEnd, State.modDeck, State.deck_setDeck_self]
    simp [hm]
  rw [stoppedAs, if_neg hmotion]
  simp [metEnd, State.modDeck, State.setDeck, State.deck, State.pool, State.mark]

/-- A deferred run that meets the film end is at rest at once (R16, R43, R39). -/
theorem stoppedAs_metEnd_of_deferred (hm : (s.deck d).motion = .deferred) : stoppedAs (metEnd s d) d = { s with
    decks := s.decks.set d { s.deck d with
      state := .ready, target := none, stopping := false, search := none, motion := .still, runMetEnd := false
      travel := none }
    poolDecks := s.poolDecks.set d { s.pool d with watched := none, searchRecord := none, runExtent := none, exhausted := false }
    marks := s.marks.set d { s.mark d with searchReference := none, searchCandidate := none } } := by
  have hmotion : ((metEnd s d).deck d).motion = .deferred := by
    rw [metEnd, State.modDeck, State.deck_setDeck_self]
    exact hm
  rw [stoppedAs, if_pos hmotion]
  simp [readyAs, metEnd, State.modDeck, State.setDeck, State.deck, State.pool, State.mark]

theorem filmEndFired_of_moving (h : (s.deck d).state = .indexing) (hm : (s.deck d).motion = .moving) :
    s.filmEndFired d = stoppedAs (metEnd (s.setComplete d) d) d := by
  have hkeep : (s.setComplete d).deck d = s.deck d := by unfold State.setComplete; split <;> rfl
  rw [filmEndFired_of_indexing h]
  change (let r := (metEnd (s.setComplete d) d).stop d; if r.2 then (r.1.runRested d true).settle else r.1) = _
  rw [stop_metEnd_of_moving (by rw [hkeep, h]) (by rw [hkeep, hm])]
  rfl

theorem filmEndFired_of_deferred (h : (s.deck d).state = .indexing) (hm : (s.deck d).motion = .deferred)
    (hidle : schedIdle s = true) : s.filmEndFired d = stoppedAs (metEnd (s.setComplete d) d) d := by
  have hkeep : (s.setComplete d).deck d = s.deck d := by unfold State.setComplete; split <;> rfl
  have hdefer : ((s.setComplete d).deck d).motion = .deferred := by rw [hkeep, hm]
  have hstill : schedIdle (stoppedAs (metEnd (s.setComplete d) d) d) = true := by
    rw [stoppedAs_metEnd_of_deferred hdefer]
    refine schedIdle_congr hidle ?_ ?_ ?_ <;> (unfold State.setComplete; split <;> rfl)
  have hactive : ((stoppedAs (metEnd (s.setComplete d) d) d).sched d).active = none := by
    rw [sched_of_idle hstill]
    rfl
  rw [filmEndFired_of_indexing h]
  change (let r := (metEnd (s.setComplete d) d).stop d; if r.2 then (r.1.runRested d true).settle else r.1) = _
  rw [stop_metEnd_of_deferred (by rw [hkeep, h]) hdefer]
  change ((stoppedAs (metEnd (s.setComplete d) d) d).runRested d true).settle = _
  rw [runRested_of_inactive hactive, settle_of_idle hstill]

end

/-- Settles O38: the firing by the deck's state, and the edges that set a level alone. -/
theorem filmSensorsTaken : Obligations.FilmSensorsTaken := by
  intro s d k shows
  have fires {t : State} (hf : (s.sensors d).filmEnd = false) (hrun : running s = true) (h : shows.filmEndFired d = t) :
      exec (.filmEndFires d) s = .next t := h ▸ exec_filmEndFires hrun hf
  refine ⟨fun hf => congrArg Host.Outcome.next (if_pos hf),
    fun hf hrun h1 h2 h3 => fires hf hrun (filmEndFired_of_ignored (s := shows) h1 h2 h3),
    fun hf hrun hs hm => ⟨fun hn => fires hf hrun ?_, fun n hn => fires hf hrun ?_⟩,
    fun hf hrun hs hm hidle => ⟨fun hn => fires hf hrun ?_, fun n hn => fires hf hrun ?_⟩, rfl, rfl⟩
  · rw [filmEndFired_of_moving (s := shows) hs hm, setComplete_of_no_entry (s := shows) hn]
    exact stoppedAs_metEnd_of_moving (s := shows) hm
  · rw [filmEndFired_of_moving (s := shows) hs hm, setComplete_of_entry (s := shows) hn]
    exact stoppedAs_metEnd_of_moving (s := shows.setEntry n { s.entry n with complete := true }) hm
  · rw [filmEndFired_of_deferred (s := shows) hs hm hidle, setComplete_of_no_entry (s := shows) hn]
    exact stoppedAs_metEnd_of_deferred (s := shows) hm
  · rw [filmEndFired_of_deferred (s := shows) hs hm hidle, setComplete_of_entry (s := shows) hn]
    exact stoppedAs_metEnd_of_deferred (s := shows.setEntry n { s.entry n with complete := true }) hm

/-! ## A count of travel at a deck with an entry -/

section
variable {s : State} {d : DeckId} {dir : Direction} {n : Slot}

theorem raiseExtent_of_rises (hn : s.entryOf d = some n) (h : dir = .forward ∧ (s.deck d).state = .indexing ∧
    (s.deck d).motion ≠ .deferred ∧ (s.pool d).exhausted = false ∧ (s.entry n).extent < (s.deck d).counter - 1) :
    s.raiseExtent d dir = s.setEntry n { s.entry n with extent := (s.deck d).counter - 1 } := by
  simp only [State.raiseExtent, hn]
  exact if_pos h

theorem raiseExtent_of_not_rises (hn : s.entryOf d = some n) (h : ¬ (dir = .forward ∧ (s.deck d).state = .indexing ∧
    (s.deck d).motion ≠ .deferred ∧ (s.pool d).exhausted = false ∧ (s.entry n).extent < (s.deck d).counter - 1)) :
    s.raiseExtent d dir = s := by
  simp only [State.raiseExtent, hn]
  exact if_neg h

theorem deck_raiseExtent (s : State) (d : DeckId) (dir : Direction) : (s.raiseExtent d dir).deck d = s.deck d := by
  unfold State.raiseExtent
  split
  · dsimp only
    split <;> rfl
  · rfl

/-- An entry changed in place stays the deck's entry where its state and deck stay. -/
theorem entryOf_setEntry {x : Entry} (hs : x.state = (s.entry n).state) (hd : x.deck = (s.entry n).deck) (e : DeckId) :
    (s.setEntry n x).entryOf e = s.entryOf e := by
  have heach (k : Slot) : ((s.setEntry n x).entry k).state = (s.entry k).state ∧
      ((s.setEntry n x).entry k).deck = (s.entry k).deck := by
    rw [State.entry_setEntry]
    split
    · rename_i hk
      rw [hk]
      exact ⟨hs, hd⟩
    · exact ⟨rfl, rfl⟩
  simp only [State.entryOf, (heach _).1, (heach _).2]

section
variable (old : Nat) (marked : Bool)

/-- The set is brought up to date where no mark is in progress and the counter has changed or a mark was abandoned (R41, R42). -/
theorem crossTravel_of_joined (hp : (s.mark d).inProgress = none)
    (hmoved : (s.deck d).counter ≠ old ∨ marked = true) : s.crossTravel d dir old marked = (s.raiseExtent d dir).updateCrossing d := by
  simp only [State.crossTravel, hp, Option.isNone_none, if_true, deck_raiseExtent]
  exact if_pos hmoved

theorem crossTravel_of_still (hp : (s.mark d).inProgress = none) (hmoved : ¬ ((s.deck d).counter ≠ old ∨ marked = true)) :
    s.crossTravel d dir old marked = s.raiseExtent d dir := by
  simp only [State.crossTravel, hp, Option.isNone_none, if_true, deck_raiseExtent]
  exact if_neg hmoved

theorem crossTravel_of_held (hp : (s.mark d).inProgress ≠ none) : s.crossTravel d dir old marked =
    if (s.deck d).counter ≠ old then s.holdCrossing d old ((s.deck d).state == .searching) else s := by
  have hnone : ¬ (s.mark d).inProgress.isNone = true := by simpa using hp
  simp only [State.crossTravel, if_neg hnone]

end

/-- A member of a crossing set after a change of the counter while a mark is in progress (R41, log 10). -/
def heldCrossing (s : State) (d : DeckId) (n : Slot) (old : Nat) (excuse : Bool) (x : Crossing) : Crossing :=
  match s.record n x.frame with
  | none => x
  | some r =>
    if inWindow s r (s.deck d).counter then { x with excused := false }
    else if inWindow s r old then { x with excused := excuse }
    else x

theorem holdCrossing_of_entry (hn : s.entryOf d = some n) (hm : (s.deck d).state.matching = true) (old : Nat) (excuse : Bool) :
    s.holdCrossing d old excuse =
      s.setPool d { s.pool d with crossing := (s.pool d).crossing.map (heldCrossing s d n old excuse) } := by
  simp only [State.holdCrossing, hn, hm, if_true, near_eq_inWindow]
  rfl

theorem updateCrossing_raised (hn : s.entryOf d = some n) (hm : (s.deck d).state.matching = true) (p : Nat) :
    (s.setEntry n { s.entry n with extent := p }).updateCrossing d =
      { crossedAs s d n with entries := s.entries.set n { s.entry n with extent := p } } := by
  have hentry : (s.setEntry n { s.entry n with extent := p }).entryOf d = some n := by
    rw [entryOf_setEntry (x := { s.entry n with extent := p }) rfl rfl, hn]
  rw [updateCrossing_eq hentry (by exact hm)]
  rfl

end

theorem not_seeksLeader_of_matching {k : Deck} (h : k.state.matching = true) : ¬ k.seeksLeader = true := fun hs =>
  absurd (h.symm.trans (matching_of_seeksLeader hs).1) (by decide)

theorem powered_of_seeksLeader {k : Deck} (h : k.seeksLeader = true) : k.state.powered = true := by
  rcases seeksLeader_iff.mp h with ⟨hs, -⟩ | ⟨hs, -⟩ <;> rw [hs] <;> rfl

theorem deck_crossTravel (s : State) (d : DeckId) (dir : Direction) (old : Nat) (marked : Bool) :
    (s.crossTravel d dir old marked).deck d = s.deck d := by
  have hupdate (t : State) : (t.updateCrossing d).deck d = t.deck d := by
    unfold State.updateCrossing
    split
    · rfl
    · dsimp only
      split
      · split <;> rfl
      · rfl
  have hhold (t : State) (b : Bool) : (t.holdCrossing d old b).deck d = t.deck d := by
    unfold State.holdCrossing
    split
    · rfl
    · dsimp only
      split <;> rfl
  unfold State.crossTravel
  dsimp only
  split
  · split
    · rw [hupdate, deck_raiseExtent]
    · rw [deck_raiseExtent]
  · split
    · rw [hhold]
    · rfl

/-- A count at a deck where marks are matched (R31, R40 to R42). -/
theorem encoderCounts_of_matching {s : State} {d : DeckId} (h : (s.deck d).state.matching = true) (dir : Direction) :
    encoderCounts d dir s =
      (countTaken s d dir).crossTravel d dir (s.deck d).counter (s.mark d).inProgress.isSome := by
  have hempty : (s.deck d).state ≠ .empty := fun he => by simp [he, DeckState.matching] at h
  rw [encoderCounts_eq hempty, leaderLimit_of_not_reached]
  rintro ⟨hs, -⟩
  rw [deck_crossTravel, deck_countTaken, Deck.seeksLeader_counted] at hs
  exact not_seeksLeader_of_matching h hs

theorem power_of_matching {s : State} {d : DeckId} (h : (s.deck d).state.matching = true) : s.power d = true := by
  unfold State.power
  cases hs : (s.deck d).state <;> simp_all [DeckState.matching, DeckState.powered]

/-- Settles O35: a count reaches the deck and its mark reader as `countTaken`, and the entry and the crossing set by
`State.crossTravel`. -/
theorem encoderCountsTaken : Obligations.EncoderCountsTaken := by
  intro s d dir hrun k m seeks leader k₁ k' m' counted does
  have runs {t : State} (h : encoderCounts d dir s = t) : does t := (next_live_of_running hrun _).trans (congrArg _ h)
  have hk : k.counted dir = k' := by
    rw [Deck.counted_eq]
    cases dir <;> rfl
  have hmark : m.count dir = m' := by
    simp only [Mark.count, m']
    cases m.inProgress <;> rfl
  have hstate : k'.state = k.state := by rw [← hk, Deck.state_counted]
  have hoff (h : s.power d = false) : countTaken s d dir = { s with decks := s.decks.set d k' } := by
    rw [countTaken, if_neg (by simp [h]), ← hk]
    rfl
  have hon (h : s.power d = true) : countTaken s d dir = counted := by
    rw [countTaken, if_pos h]
    simp only [counted, ← hk, ← hmark]
    rfl
  have hdeck : counted.deck d = k' := Pair.get_set_self _ _ _
  have hmk : counted.mark d = m' := Pair.get_set_self _ _ _
  refine ⟨fun h => runs (encoderCounts_of_empty h), fun h hp => runs ?off, fun hp hm hl => runs ?unmatching,
    fun hm hn => runs ?bare, fun n hm hn => ?entry⟩
  case off =>
    have hpowered : k.state.powered = false := hp
    have hm : k.state.matching = false := by cases hs : k.state <;> simp_all [DeckState.powered, DeckState.matching]
    have hstate' : ((countTaken s d dir).deck d).state = k.state := by rw [deck_countTaken, Deck.state_counted]
    rw [encoderCounts_eq h, crossTravel_of_not_matching (by rw [hstate']; exact hm), leaderLimit_of_not_reached, hoff hp]
    rintro ⟨hs, -⟩
    rw [deck_countTaken, Deck.seeksLeader_counted] at hs
    exact absurd (hpowered.symm.trans (powered_of_seeksLeader hs)) (by decide)
  case unmatching =>
    have hempty : k.state ≠ .empty := fun he => by
      have hp' : k.state.powered = true := hp
      rw [he] at hp'
      cases hp'
    rw [encoderCounts_eq hempty, hon hp, crossTravel_of_not_matching (by rw [hdeck, hstate]; exact hm),
      leaderLimit_of_not_reached]
    rw [hdeck, ← hk, Deck.seeksLeader_counted]
    rw [hk]
    exact hl
  case bare =>
    rw [encoderCounts_of_matching hm, hon (power_of_matching hm), crossTravel_of_no_entry (by exact hn)]
  case entry =>
    intro set near moves
    have hm' : (counted.deck d).state.matching = true := by rw [hdeck, hstate]; exact hm
    have counts {t : State} (h : counted.crossTravel d dir k.counter m.inProgress.isSome = t) : does t := by
      refine runs ?_
      rw [encoderCounts_of_matching hm, hon (power_of_matching hm)]
      exact h
    refine ⟨fun hp => ?_, fun hp hstill => counts ?_, fun hp hmoves => ?_⟩
    · intro member missed set' rises joined raised
      have hcrossed : crossedAs counted d n = joined := by
        simp only [crossedAs, hdeck, hstate]
        rfl
      have rises_iff : rises ↔ dir = .forward ∧ (counted.deck d).state = .indexing ∧ (counted.deck d).motion ≠ .deferred ∧
          (counted.pool d).exhausted = false ∧ (counted.entry n).extent < (counted.deck d).counter - 1 := by
        rw [hdeck, hstate, show k'.motion = k.motion by rw [← hk, Deck.counted_eq]; exact Deck.motion_count k dir]
        rfl
      have marked_iff : m.inProgress ≠ none ↔ m.inProgress.isSome = true := Option.isSome_iff_ne_none.symm
      refine ⟨fun hj => ⟨fun hr => counts ?_, fun hr => counts ?_⟩, fun hj hno => ⟨fun hr => counts ?_, fun hr => counts ?_⟩⟩
      · rw [crossTravel_of_joined _ _ (by rw [hmk, hp]) (by rw [hdeck]; exact hj.imp id marked_iff.mp),
          raiseExtent_of_not_rises (by exact hn) (fun h => hr (rises_iff.mpr h)), updateCrossing_eq (by exact hn) hm', hcrossed]
      · rw [crossTravel_of_joined _ _ (by rw [hmk, hp]) (by rw [hdeck]; exact hj.imp id marked_iff.mp),
          raiseExtent_of_rises (by exact hn) (rises_iff.mp hr), updateCrossing_raised (by exact hn) hm', hcrossed, hdeck]
        rfl
      · rw [crossTravel_of_still _ _ (by rw [hmk, hp]) (by
          rw [hdeck]
          exact fun h => h.elim hj fun hs => marked_iff.mpr hs hno),
          raiseExtent_of_not_rises (by exact hn) (fun h => hr (rises_iff.mpr h))]
      · rw [crossTravel_of_still _ _ (by rw [hmk, hp]) (by
          rw [hdeck]
          exact fun h => h.elim hj fun hs => marked_iff.mpr hs hno),
          raiseExtent_of_rises (by exact hn) (rises_iff.mp hr), hdeck]
        rfl
    · rw [crossTravel_of_held _ _ (by rw [hmk]; exact hp), hdeck, if_neg hstill]
    · intro held
      have hheld : heldCrossing counted d n k.counter (k'.state == .searching) = held := by
        funext x
        rw [heldCrossing, hdeck, hstate]
        rfl
      refine counts ?_
      rw [crossTravel_of_held _ _ (by rw [hmk]; exact hp), hdeck, if_pos hmoves, holdCrossing_of_entry (by exact hn) hm',
        hheld]
      rfl

end Sys2Proof.Machine
end

section
/-! PROOFS. Samples of the mark sensor and opening edges (R28, R29), the leader reading (R32, R33), and the lens drive (R85 to
R88). -/

namespace Sys2Proof.Machine

/-- An event on a running part whose effect is known. -/
theorem next_live_eq {s t : State} {f : State → State} (h : running s = true) (hf : f s = t) :
    (Host.Outcome.next (live s f) : Host.Outcome State Fault Refusal) = .next t :=
  (next_live_of_running h f).trans (congrArg _ hf)

/-! ## Samples and edges -/

section
variable {s : State} {d : DeckId} {level : Bool}

theorem markSampled_of_off (h : s.power d = false) : markSampled d level s = s := if_neg (by simp [h])

theorem markEdge_of_off (h : s.power d = false) : markEdge d level s = s := if_neg (by simp [h])

theorem markEdge_of_edge (h : s.power d = true) (ha : (s.mark d).accepted ≠ some level) :
    markEdge d level s = s.acceptLevel d level := if_pos ⟨h, ha⟩

theorem markSampled_first (h : s.power d = true) (ha : (s.mark d).accepted = none) :
    markSampled d level s = s.setMark d { s.mark d with accepted := some level } := by
  simp only [markSampled, h, ha, if_true]

theorem markSampled_same (h : s.power d = true) (ha : (s.mark d).accepted = some level) :
    markSampled d level s = s.setMark d { s.mark d with candidate := false } := by
  simp only [markSampled, h, ha, if_true]

theorem markSampled_new (h : s.power d = true) (ha : (s.mark d).accepted = some (!level)) : markSampled d level s =
    if (s.mark d).candidate then s.acceptLevel d level else s.setMark d { s.mark d with candidate := true } := by
  have hne : ¬ level = !level := by cases level <;> decide
  simp only [markSampled, h, ha, if_true, if_neg hne]

end

/-- Settles O45: a sample by the accepted level and the candidate, and an edge by the level it brings. -/
theorem markSamplesAndOpening : Obligations.MarkSamplesAndOpening := by
  intro s d level hrun m put
  refine ⟨fun hp => ⟨next_live_eq hrun (markSampled_of_off hp), next_live_eq hrun (markEdge_of_off hp),
    next_live_eq hrun (markEdge_of_off hp)⟩, fun hp => ⟨fun ha => next_live_eq hrun (markSampled_first hp ha),
    fun ha => next_live_eq hrun (markSampled_same hp ha), fun ha hc => next_live_eq hrun ?_, fun ha hc => ?_,
    fun ha => next_live_eq hrun ?_⟩⟩
  · rw [markSampled_new hp ha, if_neg (by simp [show (s.mark d).candidate = false from hc])]
    rfl
  · have hedge : markSampled d level s = markEdge d level s := by
      rw [markSampled_new hp ha, if_pos hc, markEdge_of_edge hp (by rw [ha]; cases level <;> decide)]
    have hexec : exec (if level then .markOpeningEdge d else .markClosingEdge d) s = .next (live s (markEdge d level)) := by
      cases level <;> rfl
    rw [hexec, next_live_of_running hrun]
    exact next_live_eq hrun hedge
  · rw [markEdge_of_edge hp ha, State.acceptLevel]
    simp only [if_true, State.openMark, State.mark_setMark_self, State.setMark_setMark]
    rfl

/-! ## The leader reading -/

section
variable {s : State} {d : DeckId} {x : MarkInProgress}

/-- A deck whose leader is read of marks met moving forward (R31, R9, R10). -/
def ReadsLeader (k : Deck) : Prop := k.state = .threading ∧ k.phase = some .advance ∨ k.state = .identifying

theorem deliverMark_of_readsLeader (h : ReadsLeader (s.deck d)) (c : WidthClass) (p : Nat) :
    s.deliverMark d .forward c p = (s.leaderMark d c p, .none) := by
  rcases h with ⟨hs, hp⟩ | hs
  · simp only [State.deliverMark, hs, hp, and_self, if_true]
  · simp only [State.deliverMark, hs, if_true]

theorem updateCrossing_of_not_matching (h : (s.deck d).state.matching = false) : s.updateCrossing d = s := by
  unfold State.updateCrossing
  split
  · rfl
  · rw [if_neg (by simp [h])]

theorem matching_leaderMark (h : ReadsLeader (s.deck d)) (c : WidthClass) (p : Nat) :
    ((s.leaderMark d c p).deck d).state.matching = false := by
  have hs : (s.deck d).state.matching = false := by rcases h with ⟨hs, -⟩ | hs <;> rw [hs] <;> rfl
  unfold State.leaderMark
  dsimp only
  split
  · exact hs
  · simp [State.modDeck, Deck.takeOpening, DeckState.matching]
  · simpa [State.modDeck, Deck.takeReference] using hs

/-- A mark that ends moving forward while the leader is read (R30 to R33). -/
theorem closeMark_of_readsLeader (h : ReadsLeader (s.deck d)) (hx : (s.mark d).inProgress = some x) (hf : x.direction = .forward) :
    s.closeMark d = (s.setMark d (Mark.countClass { s.mark d with inProgress := none } (classify s.params x.travel))).leaderMark
      d (classify s.params x.travel) x.opening := by
  have hreads : ReadsLeader ((s.setMark d (Mark.countClass { s.mark d with inProgress := none }
      (classify s.params x.travel))).deck d) := h
  simp only [State.closeMark, hx, hf, deliverMark_of_readsLeader hreads]
  rw [updateCrossing_of_not_matching (matching_leaderMark hreads _ _)]
  rfl

theorem leaderMark_of_none {c : WidthClass} {p : Nat} {m : Mark} (h : (s.mark d).readLeader c p = (m, .none)) :
    s.leaderMark d c p = s.setMark d m := by
  simp only [State.leaderMark, h]

theorem leaderMark_of_opening {c : WidthClass} {p : Nat} {m : Mark} (h : (s.mark d).readLeader c p = (m, .opening)) :
    s.leaderMark d c p = (s.setMark d m).setDeck d (s.deck d).takeOpening := by
  simp only [State.leaderMark, h]
  rfl

theorem leaderMark_of_reference {c : WidthClass} {p q : Nat} {m : Mark} {r : Reading}
    (h : (s.mark d).readLeader c p = (m, .reference q r)) :
    s.leaderMark d c p = (s.setMark d m).setDeck d ((s.deck d).takeReference q r) := by
  simp only [State.leaderMark, h]
  rfl

end

section
variable {m : Mark} (p : Nat)

theorem readLeader_opening (h : m.leader = .seek) :
    m.readLeader (.mark .sectionMark) p = ({ m with leader := .collect, digits := [] }, .opening) := by
  simp only [Mark.readLeader, h]

theorem readLeader_minor (h : m.leader = .collect) : m.readLeader (.mark .minor) p = (m.addDigit false, .none) := by
  simp only [Mark.readLeader, h]

theorem readLeader_major (h : m.leader = .collect) : m.readLeader (.mark .major) p = (m.addDigit true, .none) := by
  simp only [Mark.readLeader, h]

theorem readLeader_fault (h : m.leader = .collect) : m.readLeader .fault p = ({ m with faultSeen := true }, .none) := by
  simp only [Mark.readLeader, h]

theorem readLeader_reference (h : m.leader = .collect) :
    m.readLeader (.mark .sectionMark) p = ({ m with leader := .idle, digits := [] }, .reference p m.reading) := by
  simp only [Mark.readLeader, h]

theorem readLeader_minor_ignored (h : m.leader = .idle ∨ m.leader = .seek) : m.readLeader (.mark .minor) p = (m, .none) := by
  rcases h with h | h <;> simp only [Mark.readLeader, h]

end

theorem digitsValue_eq (l : List Bool) : digitsValue l = l.foldl (fun n b => 2 * n + (if b then 1 else 0)) 0 := by
  have hstep : (fun (n : Nat) (b : Bool) => 2 * n + b.toNat) = fun n b => 2 * n + (if b then 1 else 0) := by
    funext n b
    cases b <;> rfl
  rw [digitsValue, hstep]

theorem power_of_readsLeader {s : State} {d : DeckId} (h : ReadsLeader (s.deck d)) : s.power d = true := by
  unfold State.power
  rcases h with ⟨hs, -⟩ | hs <;> rw [hs] <;> rfl

/-- Settles O46: each mark is read by `Mark.readLeader` after its count by class. -/
theorem leaderMarksRead : Obligations.LeaderMarksRead := by
  intro s d x hrun ha hx hf hreads m k closed good does digit reading
  let c := classify s.params x.travel
  let u := s.setMark d (closed.countClass c)
  have hreads' : ReadsLeader ((s.setMark d { m with accepted := some false, candidate := false }).deck d) := hreads
  have hx' : ((s.setMark d { m with accepted := some false, candidate := false }).mark d).inProgress = some x := by
    rw [State.mark_setMark_self]
    exact hx
  have reads {t : State} (h : u.leaderMark d c x.opening = t) : exec (.markClosingEdge d) s = .next t := by
    refine next_live_eq hrun ?_
    rw [markEdge_of_edge (power_of_readsLeader hreads) ha]
    refine (closeMark_of_readsLeader hreads' hx' hf).trans ?_
    rw [State.mark_setMark_self, State.setMark_setMark]
    exact h
  have humark : u.mark d = closed.countClass c := State.mark_setMark_self _ _ _
  have kept {m' : Mark} (h : (closed.countClass c).readLeader c x.opening = (m', .none)) : does k m' := by
    refine reads ((leaderMark_of_none (by rw [humark, h])).trans ?_)
    simp [u, k, State.setMark, State.deck]
  have counts {w : WidthClass} (hc : classify s.params x.travel = w) : c = w := hc
  refine ⟨fun hl hc => ?_, fun hl hc => kept ?_, fun hl hc => kept ?_, fun hl hc => kept ?_, fun hl hc => ?_,
      fun hl hc => kept ?_⟩
  · refine reads ((leaderMark_of_opening (m := { good with leader := .collect, digits := [] }) ?_).trans ?_)
    · rw [humark, counts hc]
      exact readLeader_opening (m := good) _ hl
    · simp [u, k, State.setMark, State.setDeck, State.deck, Deck.takeOpening]
  · rw [counts hc]
    exact readLeader_minor (m := good) _ hl
  · rw [counts hc]
    exact readLeader_major (m := good) _ hl
  · rw [counts hc]
    exact readLeader_fault (m := { closed with fault := m.fault + 1 }) _ hl
  · refine reads ((leaderMark_of_reference (m := { good with leader := .idle, digits := [] }) (q := x.opening) (r := reading)
      ?_).trans ?_)
    · have hreading : Mark.reading good = reading := by simp only [Mark.reading, reading, digitsValue_eq]; rfl
      rw [humark, counts hc, ← hreading]
      exact readLeader_reference (m := good) _ hl
    · simp [u, k, State.setMark, State.setDeck, State.deck, Deck.takeReference]
  · rw [counts hc]
    exact readLeader_minor_ignored (m := good) _ hl

end Sys2Proof.Machine
end

section
/-! PROOFS. The lens drive (R85 to R88). -/

namespace Sys2Proof.Machine

/-! ## A move command -/

/-- The position that a lens target is limited to (R86). -/
theorem clampLens_eq (target : Int) : clampLens target = (max 0 (min 4095 target)).toNat := by
  unfold clampLens
  change (min (max target 0) 4095).toNat = _
  omega

section
variable {s : State} {d : DeckId} {target : Int} {h : Holder}

theorem lensMove_of_off (hp : s.power d = false) : s.lensMove d target h = (s, none) := by
  simp [State.lensMove, lensCommand, hp]

/-- A move command to the lens of a powered deck, by the lens (R86). -/
theorem lensMove_of_command (hp : s.power d = true) {l : Lens} {a : Option LensTarget}
    (hl : lensCommand true (s.sensors d).lensHome (s.lens d) target h = (l, a)) :
    s.lensMove d target h = (s.setLens d l, a.map (·.pos)) := by
  simp only [State.lensMove, hp, hl]

end

theorem lensAtHome_eq (t : LensTarget) :
    lensAtHome t = if t.pos = 0 then (.idle 0, some t) else (.moving 0 t, none) := rfl

/-! ## The travel of a lens -/

section
variable {s : State} {d : DeckId} {l : Lens} {t : LensTarget}

theorem lensMoved_of_none : s.lensMoved d (l, none) = s.setLens d l := rfl

theorem schedLens_of_inactive (h : (s.sched d).active = none) (pos : Nat) : s.schedLens d pos = s := by
  simp only [State.schedLens, h]

/-- An arrival for a scheduler that waits for none (R88). -/
theorem lensMoved_of_arrival (h : t.holder = .scheduler) (hidle : schedIdle s = true) :
    s.lensMoved d (l, some t) = s.setLens d l := by
  have hidle' : schedIdle (s.setLens d l) = true := schedIdle_congr hidle rfl rfl rfl
  have hactive : ((s.setLens d l).sched d).active = none := by
    rw [sched_of_idle hidle']
    rfl
  simp only [State.lensMoved, h, schedLens_of_inactive hactive, settle_of_idle hidle']

theorem lensMoved_atHome (h : t.pos ≠ 0 ∨ (t.holder = .scheduler ∧ schedIdle s = true)) :
    s.lensMoved d (lensAtHome t) = s.setLens d (if t.pos = 0 then .idle 0 else .moving 0 t) := by
  rw [lensAtHome_eq]
  by_cases h0 : t.pos = 0
  · obtain ⟨hholder, hidle⟩ := h.resolve_left (not_not.mpr h0)
    rw [if_pos h0, if_pos h0, lensMoved_of_arrival hholder hidle]
  · rw [if_neg h0, if_neg h0, lensMoved_of_none]

theorem lensStepped_homing (t : LensTarget) (n : Nat) :
    lensStepped (.homing t n) = if 4352 ≤ n + 1 then lensAtHome t else (.homing t (n + 1), none) := rfl

theorem lensStepped_moving (t : LensTarget) (q : Nat) : lensStepped (.moving q t) =
    if (if q < t.pos then q + 1 else q - 1) = t.pos then (.idle (if q < t.pos then q + 1 else q - 1), some t)
    else (.moving (if q < t.pos then q + 1 else q - 1) t, none) := rfl

theorem lensMoved_self (h : s.lens d = l) : s.lensMoved d (l, none) = s := by
  rw [lensMoved_of_none, ← h, State.setLens_self]

theorem exec_lensHomeReached (h : running s = true) : exec (.lensHomeReached d true) s =
    .next ((s.setSensors d { s.sensors d with lensHome := true }).lensMoved d (lensHomeMade (s.lens d))) :=
  next_live_of_running (s := s.setSensors d { s.sensors d with lensHome := true }) h _

end

/-- Settles O49: the lens by `lensCommand`, `lensStepped`, `lensHomeMade` and `lensArrives`, and its arrival by
`lensMoved_of_arrival`. -/
theorem lensCommandedAndTravels : Obligations.LensCommandedAndTravels := by
  refine ⟨fun s d target h => ?command, fun s d t hrun => ?travel⟩
  case command =>
    intro p t put
    have hpos : clampLens target = p := clampLens_eq target
    have ht : (⟨clampLens target, h⟩ : LensTarget) = t := by rw [clampLens_eq]
    have moves (hp : s.power d = true) {l : Lens} {a : Option LensTarget} {q : Option Nat}
        (hl : lensCommand true (s.sensors d).lensHome (s.lens d) target h = (l, a)) (hq : a.map (·.pos) = q) :
        s.lensMove d target h = (put l, q) := by
      rw [lensMove_of_command hp hl, hq]
      rfl
    refine ⟨lensMove_of_off, fun hp => ⟨fun hl hh => moves hp (a := none) ?_ rfl, fun hl hh h0 => moves hp (a := some t) ?_ ?_,
      fun hl hh h0 => moves hp (a := none) ?_ rfl, fun old n hl => moves hp (a := none) ?_ rfl,
      fun q hl hne => moves hp (a := none) ?_ rfl, fun q hl heq => moves hp (a := some t) ?_ ?_,
      fun q old hl hne => moves hp (a := none) ?_ rfl, fun q old hl heq => moves hp (a := some t) ?_ ?_⟩⟩
    · simp only [lensCommand, hl, hh, ht, if_true, Bool.false_eq_true, if_false]
    · simp only [lensCommand, hl, hh, ht, if_true, lensAtHome_eq]
      exact if_pos h0
    · exact congrArg some h0
    · simp only [lensCommand, hl, hh, ht, if_true, lensAtHome_eq]
      exact if_neg h0
    · simp only [lensCommand, hl, ht, if_true]
    · simp only [lensCommand, hl, ht, if_true]
      exact if_neg fun he => hne (he.symm.trans hpos)
    · simp only [lensCommand, hl, ht, if_true]
      exact if_pos (hpos.trans heq.symm)
    · exact congrArg some heq.symm
    · simp only [lensCommand, hl, ht, if_true]
      exact if_neg fun he => hne (he.symm.trans hpos)
    · simp only [lensCommand, hl, ht, if_true]
      exact if_pos (hpos.trans heq.symm)
    · exact congrArg some heq.symm
  case travel =>
    intro put homed atHome
    have steps {u : State} (h : s.lensMoved d (lensStepped (s.lens d)) = u) : exec (.lensStep d) s = .next u :=
      next_live_eq hrun h
    have limits {u : State} (h : s.lensMoved d (lensHomeMade (s.lens d)) = u) : exec (.lensHomingLimit d) s = .next u :=
      next_live_eq hrun h
    have arrives {u : State} (h : s.lensMoved d (lensArrives (s.lens d)) = u) : exec (.lensArrival d) s = .next u :=
      next_live_eq hrun h
    have homes {u : State} (h : homed.lensMoved d (lensHomeMade (s.lens d)) = u) : exec (.lensHomeReached d true) s = .next u :=
      (exec_lensHomeReached hrun).trans (congrArg _ h)
    have both (h : t.pos ≠ 0 ∨ (t.holder = .scheduler ∧ schedIdle s = true)) (n : Nat) (hl : s.lens d = .homing t n) :
        exec (.lensHomingLimit d) s = .next (atHome s) ∧ exec (.lensHomeReached d true) s = .next (atHome homed) := by
      refine ⟨limits ?_, homes ?_⟩
      · rw [hl]
        exact lensMoved_atHome h
      · rw [hl]
        exact lensMoved_atHome (s := homed) h
    refine ⟨fun n hl hn => steps ?_, fun q hl hq => steps ?_, fun q hl hq => steps ?_, fun h0 n hl => ?_, fun hh hi => ?_,
      fun hl => ?_, next_live_of_running (s := s.setSensors d { s.sensors d with lensHome := false }) hrun _⟩
    · rw [hl, lensStepped_homing, if_neg (by omega)]
      rfl
    · have hup : (if q < t.pos then q + 1 else q - 1) = q + 1 := if_pos (by omega)
      rw [hl, lensStepped_moving, hup, if_neg (by omega)]
      rfl
    · have hdown : (if q < t.pos then q + 1 else q - 1) = q - 1 := if_neg (by omega)
      rw [hl, lensStepped_moving, hdown, if_neg (by omega)]
      rfl
    · obtain ⟨h1, h2⟩ := both (.inl h0) n hl
      refine ⟨h1, h2, fun hn => steps ?_⟩
      rw [hl, lensStepped_homing, if_pos hn]
      exact lensMoved_atHome (.inl h0)
    · refine ⟨fun n hl => both (.inr ⟨hh, hi⟩) n hl, fun q hl => ⟨arrives ?_, fun hq => steps ?_⟩⟩
      · rw [hl]
        exact lensMoved_of_arrival hh hi
      · have hp : (if q < t.pos then q + 1 else q - 1) = t.pos := by split <;> omega
        rw [hl, lensStepped_moving, hp, if_pos rfl]
        exact lensMoved_of_arrival hh hi
    · have hstep : lensStepped (s.lens d) = (s.lens d, none) := by rcases hl with hl | ⟨q, hl⟩ <;> rw [hl] <;> rfl
      have harrive : lensArrives (s.lens d) = (s.lens d, none) := by rcases hl with hl | ⟨q, hl⟩ <;> rw [hl] <;> rfl
      have hhome : lensHomeMade (s.lens d) = (s.lens d, none) := by rcases hl with hl | ⟨q, hl⟩ <;> rw [hl] <;> rfl
      refine ⟨steps ?_, arrives ?_, limits ?_, homes ?_⟩
      · rw [hstep, lensMoved_self rfl]
      · rw [harrive, lensMoved_self rfl]
      · rw [hhome, lensMoved_self rfl]
      · rw [hhome]
        exact lensMoved_self (s := homed) rfl

end Sys2Proof.Machine
end

section
/-! PROOFS. The head link's bytes: orders sent and reports received (R115, R116, R190). -/

namespace Sys2Proof.Machine

/-! ## The bytes of an order -/

section
variable {s : State}

theorem orderByteSent_of_kept (h : (s.pins.ready || s.hlp.order.all (·.started)) = true) :
    orderByteSent s = { s with hlp := s.hlp.lastByteSent s.params.headTimeout } := if_pos h

theorem orderByteSent_of_absent (hr : s.pins.ready = false) {o : Order} (ho : s.hlp.order = some o) (hs : o.started = false) :
    orderByteSent s = (State.endAbsent { s with hlp := s.hlp.lastByteSent s.params.headTimeout }).settle := by
  refine if_neg ?_
  simp [hr, ho, hs]

theorem lastByteSent_last {frame : List Byte} {o : Order} (hs : s.hlp.sending = [frame]) (ho : s.hlp.order = some o)
    (hstart : o.started = true) (ht : o.timeout = none) (timeout : Nat) : s.hlp.lastByteSent timeout =
      { s.hlp with sending := [], order := some { o with timeout := some ⟨timeout * 2, 0⟩ } } := by
  simp only [Hlp.lastByteSent, hs, ho, ht, hstart]
  rfl

theorem lastByteSent_next {frame next : List Byte} {o : Order} (hs : s.hlp.sending = [frame, next])
    (ho : s.hlp.order = some o) (timeout : Nat) : s.hlp.lastByteSent timeout =
      { s.hlp with sending := [next], order := some { o with started := true } } := by
  simp only [Hlp.lastByteSent, hs, ho]

theorem lastByteSent_of_no_order {frame : List Byte} {rest : List (List Byte)} (hs : s.hlp.sending = frame :: rest)
    (ho : s.hlp.order = none) (timeout : Nat) : s.hlp.lastByteSent timeout = { s.hlp with sending := rest } := by
  simp only [Hlp.lastByteSent, hs, ho]

theorem lastByteSent_of_more {frame : List Byte} {rest : List (List Byte)} (hs : s.hlp.sending = frame :: rest)
    (hlen : 2 ≤ rest.length) (timeout : Nat) : s.hlp.lastByteSent timeout = { s.hlp with sending := rest } := by
  match rest, hlen with
  | a :: b :: tail, _ => simp only [Hlp.lastByteSent, hs]

theorem endAbsent_of_started {o : Order} (ho : s.hlp.order = some o) (hs : o.started = true) (hr : s.pins.ready = false) :
    s.endAbsent = s.endOrder o .absent := by
  simp only [State.endAbsent, ho, hs, hr, and_self, if_true]

end

/-! ## The bytes of a report -/

/-- The report receiver after a byte inside a report: the gap is timed from it (R116). -/
def receiving (s : State) (r : ReportReceiver) : State :=
  { s with hlp := { s.hlp with receiver := r, gapTimer := some ⟨10, 0⟩ } }

/-- The report receiver after a bad report (R116). -/
def badReported (s : State) : State :=
  { s with hlp := { s.hlp with receiver := .hunt, gapTimer := none, bad := s.hlp.bad + 1 } }

section
variable {s : State} {b : Byte}

theorem reportByte_of_other (h : s.hlp.receiver = .hunt) (hb : b ≠ 0x1E) : reportByte b s = s := by
  simp only [reportByte, Hlp.takeByte, h]
  rw [if_neg (by exact hb)]

theorem reportByte_of_lead (h : s.hlp.receiver = .hunt) : reportByte 0x1E s = receiving s .length := by
  simp only [reportByte, Hlp.takeByte, h]
  rw [if_pos (by rfl)]
  rfl

theorem reportByte_of_length (h : s.hlp.receiver = .length) : reportByte 6 s = receiving s (.body []) := by
  simp only [reportByte, Hlp.takeByte, h, if_true]
  rfl

theorem reportByte_of_bad_length (h : s.hlp.receiver = .length) (hb : b ≠ 6) : reportByte b s = badReported s := by
  simp only [reportByte, Hlp.takeByte, h, if_neg hb]
  rfl

theorem reportByte_of_body {got : List Byte} (h : s.hlp.receiver = .body got) (hlen : got.length < 5) :
    reportByte b s = receiving s (.body (got ++ [b])) := by
  simp only [reportByte, Hlp.takeByte, h, if_pos (show got.length + 1 < 6 by omega)]
  rfl

theorem reportByte_of_last_body {got : List Byte} (h : s.hlp.receiver = .body got) (hlen : got.length = 5) :
    reportByte b s = receiving s (.check (got ++ [b]) none) := by
  simp only [reportByte, Hlp.takeByte, h, if_neg (show ¬ got.length + 1 < 6 by omega)]
  rfl

theorem reportByte_of_check {body : List Byte} (h : s.hlp.receiver = .check body none) :
    reportByte b s = receiving s (.check body (some b)) := by
  simp only [reportByte, Hlp.takeByte, h]
  rfl

theorem reportByte_of_bad_check {body : List Byte} {high : Byte} (h : s.hlp.receiver = .check body (some high))
    (hbad : join16 high b ≠ bodyCrc body) : reportByte b s = badReported s := by
  simp only [reportByte, Hlp.takeByte, h, if_neg hbad]
  rfl

/-- The last byte of a report with its CRC right (R116, R190). -/
theorem reportByte_of_good_check {body : List Byte} {high : Byte} (h : s.hlp.receiver = .check body (some high))
    (hgood : join16 high b = bodyCrc body) {r : Option Report} (hr : reportOf body = r) : reportByte b s =
      match r with
      | some x => State.takeReport { s with hlp := { s.hlp with receiver := .hunt, gapTimer := none } } x
      | none => badReported s := by
  simp only [reportByte, Hlp.takeByte, h, if_pos hgood, hr]
  cases r <;> rfl

theorem reportCut_of_inside (h : s.hlp.receiver ≠ .hunt) : reportCut s = badReported s := by
  unfold reportCut
  split
  · contradiction
  all_goals rfl

theorem reportCut_of_hunt (h : s.hlp.receiver = .hunt) : reportCut s = s := by simp only [reportCut, h]

end

/-! ## A whole report -/

theorem join32_bytes (h : BitVec 32) :
    join32 (h.extractLsb' 24 8) (h.extractLsb' 16 8) (h.extractLsb' 8 8) (h.extractLsb' 0 8) = h := by
  unfold join32
  rw [BitVec.extractLsb'_append_extractLsb'_eq_extractLsb' (by rfl)]
  rw [BitVec.extractLsb'_append_extractLsb'_eq_extractLsb' (by rfl)]
  rw [BitVec.extractLsb'_append_extractLsb'_eq_extractLsb' (by rfl)]
  simp

theorem receiving_receiving (s : State) (r x : ReportReceiver) : receiving (receiving s r) x = receiving s x := rfl

theorem receiving_receiver (s : State) (r : ReportReceiver) : (receiving s r).hlp.receiver = r := rfl

section
variable {s : State} {number outcome : Byte} {value : BitVec 32} {crc : Half}

/-- A report received whole by a hunting receiver comes down to its last byte (R116). -/
theorem reportReceived_whole (h : s.hlp.receiver = .hunt) : reportReceived (reportBytes number outcome value crc) s =
    reportByte (crc.extractLsb' 0 8)
      (receiving s (.check (number :: outcome :: bytes32 value) (some (crc.extractLsb' 8 8)))) := by
  simp only [reportReceived, reportBytes, bytes32, bytes16, List.cons_append, List.nil_append, List.foldl_cons, List.foldl_nil]
  rw [show reportLead = 0x1E from rfl, reportByte_of_lead h, reportByte_of_length rfl]
  iterate 5 rw [reportByte_of_body (receiving_receiver ..) (by simp), receiving_receiving]
  rw [reportByte_of_last_body (receiving_receiver ..) (by simp), receiving_receiving,
    reportByte_of_check (receiving_receiver ..), receiving_receiving]
  rfl

/-- A report with a wrong CRC, or with an outcome that is neither TAKEN nor REFUSED (R116, R190). -/
theorem reportReceived_bad (h : s.hlp.receiver = .hunt)
    (hbad : crc ≠ bodyCrc (number :: outcome :: bytes32 value) ∨ ¬ (outcome = 1 ∨ outcome = 2)) :
    reportReceived (reportBytes number outcome value crc) s = badReported s := by
  rw [reportReceived_whole h]
  by_cases hcrc : crc = bodyCrc (number :: outcome :: bytes32 value)
  · have hnone : reportOf (number :: outcome :: bytes32 value) = none := by
      obtain ⟨h1, h2⟩ := not_or.mp (hbad.resolve_left (not_not.mpr hcrc))
      simp only [reportOf, bytes32, if_neg (show ¬ outcome = 0x01 from h1), if_neg (show ¬ outcome = 0x02 from h2)]
    rw [reportByte_of_good_check rfl ((join16_bytes crc).trans hcrc) hnone]
    rfl
  · rw [reportByte_of_bad_check rfl (by rw [join16_bytes]; exact hcrc)]
    rfl

/-- A good report is taken, and the receiver hunts again (R116). -/
theorem reportReceived_good (h : s.hlp.receiver = .hunt) (hcrc : crc = bodyCrc (number :: outcome :: bytes32 value))
    (ho : outcome = 1 ∨ outcome = 2) : reportReceived (reportBytes number outcome value crc) s =
      State.takeReport { s with hlp := { s.hlp with receiver := .hunt, gapTimer := none } }
        ⟨number, decide (outcome = 1), value⟩ := by
  have hread : reportOf (number :: outcome :: bytes32 value) = some ⟨number, decide (outcome = 1), value⟩ := by
    rcases ho with rfl | rfl <;> simp [reportOf, bytes32, join32_bytes]
  rw [reportReceived_whole h, reportByte_of_good_check rfl ((join16_bytes crc).trans hcrc) hread]
  rfl

theorem takeReport_of_stale {r : Report} (h : s.hlp.order = none ∨ ∃ o, s.hlp.order = some o ∧
    (o.number ≠ r.number ∨ o.started = false)) :
    s.takeReport r = { s with hlp := { s.hlp with stale := s.hlp.stale + 1 } } := by
  have hnone : s.hlp.completes r = none := by
    rcases h with h | ⟨o, h, ho⟩
    · simp only [Hlp.completes, h]
    · simp only [Hlp.completes, h]
      rw [if_neg]
      rintro ⟨h1, h2⟩
      rcases ho with ho | ho
      · exact ho h2
      · exact absurd (h1.symm.trans ho) (by decide)
  simp only [State.takeReport, hnone]

/-- A report that names the order in flight ends it (R116, R117). -/
theorem takeReport_of_order {o : Order} {r : Report} (h : s.hlp.order = some o) (hs : o.started = true)
    (hn : o.number = r.number) :
    s.takeReport r = (s.endOrder o (if r.taken then .taken r.value else .refused)).settle := by
  have hsome : s.hlp.completes r = some o := by
    simp only [Hlp.completes, h]
    exact if_pos ⟨hs, hn⟩
  simp only [State.takeReport, hsome]

end

/-- Settles O54: each byte by the receiver's state, and a whole report by `reportReceived_bad` and `reportReceived_good`. -/
theorem headLinkReportsTaken : Obligations.HeadLinkReportsTaken := by
  refine ⟨fun s hrun => ?bytes, fun s number outcome value crc hrun hhunt => ?report⟩
  case bytes =>
    intro h put bad goes
    refine ⟨fun frame o hs ho hstart ht => next_live_eq hrun ?_, fun frame next o hs ho hstart => ?_,
      fun frame rest hs hor => next_live_eq hrun ?_,
      fun hr => ⟨next_live_eq hrun (reportCut_of_inside hr), next_live_eq hrun (reportCut_of_inside hr)⟩,
      fun hr => ⟨next_live_eq hrun (reportCut_of_hunt hr), next_live_eq hrun (reportCut_of_hunt hr)⟩, fun b =>
      ⟨fun hr hb => next_live_eq hrun (reportByte_of_other hr hb), fun hr hb => ?_, fun hr hb => ?_,
        fun hr hb => next_live_eq hrun (reportByte_of_bad_length hr hb),
        fun got hr hlen => next_live_eq hrun (reportByte_of_body hr hlen),
        fun got hr hlen => next_live_eq hrun (reportByte_of_last_body hr hlen),
        fun body hr => next_live_eq hrun (reportByte_of_check hr),
        fun body high hr hb => next_live_eq hrun (reportByte_of_bad_check hr hb)⟩⟩
    · have hall : s.hlp.order.all (·.started) = true := by
        rw [show s.hlp.order = some o from ho]
        exact hstart
      rw [orderByteSent_of_kept (by rw [hall, Bool.or_true]), lastByteSent_last hs ho hstart ht]
    · intro u
      refine ⟨fun hready => next_live_eq hrun ?_, fun hready => next_live_eq hrun ?_⟩
      · rw [orderByteSent_of_kept (by rw [hready, Bool.true_or]), lastByteSent_next hs ho]
      · rw [orderByteSent_of_absent hready ho hstart, lastByteSent_next hs ho,
          endAbsent_of_started (s := u) (o := { o with started := true }) rfl rfl hready]
    · rcases hor with ho | ⟨hlen, hready⟩
      · have hall : s.hlp.order.all (·.started) = true := by rw [show s.hlp.order = none from ho]; rfl
        rw [orderByteSent_of_kept (by rw [hall, Bool.or_true]), lastByteSent_of_no_order hs ho]
      · rw [orderByteSent_of_kept (by rw [hready, Bool.true_or]), lastByteSent_of_more hs hlen]
    · exact hb ▸ next_live_eq hrun (reportByte_of_lead hr)
    · exact hb ▸ next_live_eq hrun (reportByte_of_length hr)
  case report =>
    intro h good named
    have receives {t : State} (ht : reportReceived (reportBytes number outcome value crc) s = t) :
        exec (.headReport number outcome value crc) s = .next t := next_live_eq hrun ht
    refine ⟨fun hbad => receives ?_, fun hcrc hnamed hstale => receives ?_⟩
    · rw [reportReceived_bad hhunt hbad, badReported, ← hhunt]
    · rw [reportReceived_good hhunt hcrc hnamed, takeReport_of_stale (by exact hstale)]
      simp only [← hhunt]
      rfl

end Sys2Proof.Machine
end

section
/-! PROOFS. The film comes to rest (R10, R13, R15 to R17), a shuttle and its arrival (R12 to R14, R43, R155). -/

namespace Sys2Proof.Machine

section
variable {s : State} {d : DeckId}

theorem inBand_iff {counter target : Nat} :
    inBand counter target = true ↔ counter ≤ target + 4 ∧ target ≤ counter + 4 := by
  rw [inBand, decide_eq_true_eq, distance, show Config.arrivalBand = 4 from rfl]
  omega

theorem confirms_iff {q : PoolDeck} : q.confirms = true ↔ ∃ w, q.watched = some w ∧
    (w.seen = true ∨ ∃ x ∈ q.crossing, x.frame = w.frame ∧ x.matched = true) := by
  unfold PoolDeck.confirms
  cases q.watched <;> simp

theorem watch_confirms_iff {q : PoolDeck} {frame : Option Nat} : (q.watch frame).confirms = true ↔
    ∃ n, frame = some n ∧ (q.found = some n ∨ ∃ x ∈ q.crossing, x.frame = n ∧ x.matched = true) := by
  cases frame <;> simp [confirms_iff, PoolDeck.watch]

/-! ## A shuttle command -/

theorem shuttle_of_near {target : Nat} (h : (s.deck d).state = .ready) (hn : inBand (s.deck d).counter target = true)
    (frame : Option Nat) : s.shuttle d target frame =
      (s.setPool d { s.pool d with watched := none, found := none }, some ⟨((s.pool d).watch frame).confirms⟩) := by
  simp only [State.shuttle, h, hn, if_true]
  simp [State.answerArrival, PoolDeck.watch, State.setPool, State.pool]

/-- Deck `d` commanded to a target before its motion begins (R12, R43). -/
def shuttleSet (s : State) (d : DeckId) (target : Nat) (frame : Option Nat) : State :=
  (s.setPool d ((s.pool d).watch frame)).setDeck d
    { s.deck d with state := .shuttling, target := some target, stopping := false }

theorem shuttle_of_far {target : Nat} (h : (s.deck d).state = .ready) (hn : ¬ inBand (s.deck d).counter target = true)
    (frame : Option Nat) : s.shuttle d target frame = ((shuttleSet s d target frame).beginMotion d, none) := by
  simp only [State.shuttle, h, if_neg hn]
  rfl

/-- The beginning of the motion of a deck commanded to a target (R3, R12). -/
theorem beginMotion_shuttleSet (target : Nat) (frame : Option Nat) {m : Motion}
    (hm : (s.pins.hold = true ∧ s.opa.path.selected = d) ∧ m = .deferred ∨
      ¬ (s.pins.hold = true ∧ s.opa.path.selected = d) ∧ m = .moving) :
    (shuttleSet s d target frame).beginMotion d = { s with
      decks := s.decks.set d { s.deck d with state := .shuttling, target := some target, stopping := false, motion := m }
      poolDecks := s.poolDecks.set d ((s.pool d).watch frame) } := by
  have hdeck : ((shuttleSet s d target frame).deck d).state = .shuttling := by simp [shuttleSet]
  rcases hm with ⟨hh, rfl⟩ | ⟨hh, rfl⟩
  · rw [beginMotion_of_hold (by exact hh)]
    simp [shuttleSet, State.setDeck, State.deck, State.setPool]
  · rw [beginMotion_of_no_hold (by exact hh), motionBegins_run (.inl hdeck)]
    simp [shuttleSet, State.setDeck, State.deck, State.setPool]

theorem shuttle_of_shuttling (h : (s.deck d).state = .shuttling) (target : Nat) (frame : Option Nat) :
    s.shuttle d target frame = (shuttleSet s d target frame, none) := by
  simp only [State.shuttle, h]
  rw [shuttleSet, ← h]
  rfl

theorem shuttle_of_elsewhere (h1 : (s.deck d).state ≠ .ready) (h2 : (s.deck d).state ≠ .shuttling) (target : Nat)
    (frame : Option Nat) : s.shuttle d target frame = (s, none) := by
  unfold State.shuttle
  dsimp only
  split <;> first | contradiction | rfl

/-! ## Rest -/

/-- A deck that rests after a stop (R15, R16). -/
theorem rest_of_stopping (hm : (s.deck d).motion = .moving) (hstop : (s.deck d).stopping = true)
    (hs : (s.deck d).state = .shuttling ∨ (s.deck d).state = .indexing ∨ (s.deck d).state = .searching) :
    s.rest d = (readyAs s d,
      if (s.deck d).state = .indexing ∧ (s.deck d).runMetEnd = true then .filmEnd else .atRest) := by
  rcases hs with hs | hs | hs <;> simp [State.rest, hm, hs, hstop, toReady_eq]

/-- A shuttle that rests within its arrival band arrives (R13, R43). -/
theorem rest_of_arrival {target : Nat} (hm : (s.deck d).motion = .moving) (hs : (s.deck d).state = .shuttling)
    (hstop : (s.deck d).stopping = false) (ht : (s.deck d).target = some target)
    (hn : inBand (s.deck d).counter target = true) : s.rest d =
      ((readyAs s d).setPool d { (readyAs s d).pool d with watched := none }, .arrived ⟨(s.pool d).confirms⟩) := by
  simp only [State.rest, hm, hs, hstop, ht, hn, if_true, toReady_eq, Bool.false_eq_true, if_false, State.answerArrival]
  simp [readyAs, State.pool, PoolDeck.confirms]

theorem rest_of_short_shuttle {target : Nat} (hm : (s.deck d).motion = .moving) (hs : (s.deck d).state = .shuttling)
    (hstop : (s.deck d).stopping = false) (ht : (s.deck d).target = some target)
    (hn : ¬ inBand (s.deck d).counter target = true) :
    s.rest d = (s.restInPlace d, .none) := by
  simp only [State.rest, hm, hs, hstop, ht, if_neg hn, if_true, Bool.false_eq_true, if_false]

/-- A search that rests at the high end of its leg 2 is completed (R17). -/
theorem rest_of_searched {l : SearchLegs} (hm : (s.deck d).motion = .moving) (hs : (s.deck d).state = .searching)
    (hstop : (s.deck d).stopping = false) (hl : (s.deck d).search = some l)
    (hend : l.leg2 = true ∧ l.atHighEnd (s.deck d).counter = true) :
    s.rest d = (readyAs s d, .searched l.low l.high) := by
  simp only [State.rest, hm, hs, hstop, hl, if_pos hend, if_true, toReady_eq, Bool.false_eq_true, if_false]

theorem rest_of_short_search {l : SearchLegs} (hm : (s.deck d).motion = .moving) (hs : (s.deck d).state = .searching)
    (hstop : (s.deck d).stopping = false) (hl : (s.deck d).search = some l)
    (hend : ¬ (l.leg2 = true ∧ l.atHighEnd (s.deck d).counter = true)) :
    s.rest d = (s.restInPlace d, .none) := by
  simp only [State.rest, hm, hs, hstop, hl, if_neg hend, if_true, Bool.false_eq_true, if_false]

theorem rest_of_identified {r : Reading} (hm : (s.deck d).motion = .moving) (hs : (s.deck d).state = .identifying)
    (hr : (s.deck d).reading = some r) : s.rest d = (s, .identified r) := by
  simp only [State.rest, hm, hs, hr, if_true]

theorem filmRests_of_none {u : State} (h : s.rest d = (u, .none)) : filmRests d s = u := by
  simp only [filmRests, h]

theorem filmRests_of_report {u : State} {r : RestReport} (h : s.rest d = (u, r)) (hr : r ≠ .none) :
    filmRests d s = (u.rested d r).settle := by
  cases r <;> simp only [filmRests, h]
  contradiction

theorem exec_filmAtRest (h : running s = true) (d : DeckId) : exec (.filmAtRest d) s = .next (filmRests d s) :=
  next_live_of_running h _

theorem exec_arrival (h : running s = true) (hs : (s.deck d).state = .shuttling) :
    exec (.arrival d) s = .next (filmRests d s) := next_live_eq h (if_pos hs)

theorem exec_searchCompletion (h : running s = true) (hs : (s.deck d).state = .searching) :
    exec (.searchCompletion d) s = .next (filmRests d s) := next_live_eq h (if_pos hs)

/-! ## An arrival -/

theorem deckArrived_of_inactive (h : (s.sched d).active = none) (a : Arrived) : s.deckArrived d a = s := by
  simp only [State.deckArrived, h]

theorem deckArrived_of_shuttle {t : TicketNo} (h : (s.sched d).active = some t) (hstep : (s.sched d).step = some .shuttle)
    (a : Arrived) : s.deckArrived d a = s.movingArrived d t a := by
  simp only [State.deckArrived, h, hstep]

theorem movingArrived_of_confirmed {t : TicketNo} {a : Arrived} (h : a.confirmed = true) :
    s.movingArrived d t a = if (s.ticket t).kind = some .locate then s.finalize t .completed else s.enterFocusing d t :=
  if_pos h

/-- An unconfirmed arrival sends the ticket to SEARCHING (R155). -/
theorem movingArrived_of_unconfirmed {t : TicketNo} {a : Arrived} {k : Slot} {frame : Nat} {r : FrameRecord}
    (h : ¬ a.confirmed = true) (hk : (s.ticket t).slot = some k) (hf : (s.ticket t).current = some frame)
    (hr : s.record k frame = some r) : s.movingArrived d t a =
      ((s.stage t .searching).modSched d fun c => { c with step := some .search }).searchFor d r.position frame := by
  simp only [State.movingArrived, if_neg h, hk, hf, hr]

/-! ## The capstan of a shuttle -/

theorem capstan_of_not_moving (h : (s.deck d).motion ≠ .moving) : s.capstan d = .idle := by
  simp [State.capstan, h]

theorem capstan_of_no_heading (hp : s.power d = true) (hm : (s.deck d).motion = .moving) (h : (s.deck d).heading = none) :
    s.capstan d = .brake := by
  simp [State.capstan, hp, hm, h]

/-- A shuttle drives along its heading but where the film travels against it (R12, R14). -/
theorem capstan_of_shuttle {dir : Direction} (hm : (s.deck d).motion = .moving) (hs : (s.deck d).state = .shuttling)
    (h : (s.deck d).heading = some dir) : s.capstan d =
      if (s.deck d).travel ≠ none ∧ (s.deck d).travel ≠ some dir then .brake else .drive dir := by
  have hp : s.power d = true := power_of_matching (by rw [hs]; rfl)
  simp [State.capstan, hp, hm, h, hs]

theorem heading_of_shuttle {k : Deck} {target : Nat} (hs : k.state = .shuttling) (hstop : k.stopping = false)
    (ht : k.target = some target) : k.heading =
      if k.counter < target then some .forward else if target < k.counter then some .backward else none := by
  simp [Deck.heading, hs, hstop, ht, directionTo]

end

/-- Settles O40: a shuttle command by the deck's state, the capstan by the heading, and the rest by the arrival band. -/
theorem shuttleArrives : Obligations.ShuttleArrives := by
  refine ⟨fun s d target frame => ?command, fun s d target hs => ?capstan, fun s d target hrun hs hm hstop ht => ?arrival⟩
  case command =>
    intro k near hold watch pool sets seen
    refine ⟨fun h hn => ⟨_, shuttle_of_near h (inBand_iff.mpr hn) frame, watch_confirms_iff⟩, fun h hn hh => ?_,
      fun h hn hh => ?_, fun h => ?_, fun h1 h2 => shuttle_of_elsewhere h1 h2 target frame⟩
    · rw [shuttle_of_far h (mt inBand_iff.mp hn), beginMotion_shuttleSet target frame (.inl ⟨hh, rfl⟩)]
      rfl
    · rw [shuttle_of_far h (mt inBand_iff.mp hn), beginMotion_shuttleSet target frame (.inr ⟨hh, rfl⟩)]
      rfl
    · exact shuttle_of_shuttling h target frame
  case capstan =>
    intro k
    have hp : s.power d = true := power_of_matching (by rw [hs]; rfl)
    refine ⟨capstan_of_not_moving, fun hm hstop => capstan_of_no_heading hp hm (if_pos hstop), fun hm hstop ht => ?_⟩
    have heading : (s.deck d).heading =
        if k.counter < target then some .forward else if target < k.counter then some .backward else none :=
      heading_of_shuttle hs hstop ht
    have forward (h : k.counter < target) : (s.deck d).heading = some .forward := heading.trans (if_pos h)
    have backward (h : target < k.counter) : (s.deck d).heading = some .backward :=
      heading.trans ((if_neg (by omega)).trans (if_pos h))
    refine ⟨fun h htr => (capstan_of_shuttle hm hs (forward h)).trans (if_neg ?_),
      fun h htr => (capstan_of_shuttle hm hs (backward h)).trans (if_neg ?_),
      fun h htr => (capstan_of_shuttle hm hs (forward h)).trans (if_pos ?_),
      fun h htr => (capstan_of_shuttle hm hs (backward h)).trans (if_pos ?_),
      fun h => capstan_of_no_heading hp hm (heading.trans ((if_neg (by omega)).trans (if_neg (by omega))))⟩
    · rintro ⟨h1, h2⟩
      cases htravel : k.travel with
      | none => exact h1 htravel
      | some x => cases x <;> simp_all [k]
    · rintro ⟨h1, h2⟩
      cases htravel : k.travel with
      | none => exact h1 htravel
      | some x => cases x <;> simp_all [k]
    · rw [show (s.deck d).travel = _ from htr]
      exact ⟨by simp, by simp⟩
    · rw [show (s.deck d).travel = _ from htr]
      exact ⟨by simp, by simp⟩
  case arrival =>
    intro k near both r u confirmed
    have rests {t : State} (h : filmRests d s = t) : both t :=
      ⟨(exec_arrival hrun hs).trans (congrArg _ h), (exec_filmAtRest hrun d).trans (congrArg _ h)⟩
    have arrives (hn : near) : filmRests d s = (u.deckArrived d ⟨(s.pool d).confirms⟩).settle := by
      have hrest : s.rest d = (u, .arrived ⟨(s.pool d).confirms⟩) := rest_of_arrival hm hs hstop ht (inBand_iff.mpr hn)
      rw [filmRests_of_report hrest (by simp), State.rested]
    have agrees : (⟨(s.pool d).confirms⟩ : Arrived).confirmed = true ↔ confirmed := confirms_iff
    refine ⟨fun hn => rests (filmRests_of_none (rest_of_short_shuttle hm hs hstop ht (mt inBand_iff.mp hn))),
      fun hn hidle => rests ?_, fun t hn hact hstep => ⟨fun hc hk => rests ?_, fun hc hk => rests ?_,
        fun n frame q hc hslot hcur hrec => rests ?_⟩⟩
    · rw [arrives hn, deckArrived_of_inactive (by rw [show u.sched d = s.sched d from rfl, sched_of_idle hidle]; rfl)]
      exact settle_of_idle (schedIdle_congr hidle rfl rfl rfl)
    · rw [arrives hn, deckArrived_of_shuttle (s := u) hact hstep, movingArrived_of_confirmed (agrees.mpr hc),
        if_pos (show (u.ticket t).kind = some .locate from hk)]
    · rw [arrives hn, deckArrived_of_shuttle (s := u) hact hstep, movingArrived_of_confirmed (agrees.mpr hc),
        if_neg (show ¬ (u.ticket t).kind = some .locate from hk)]
    · rw [arrives hn, deckArrived_of_shuttle (s := u) hact hstep,
        movingArrived_of_unconfirmed (s := u) (mt agrees.mp hc) hslot hcur hrec]
      rfl

end Sys2Proof.Machine
end

section
/-! PROOFS. Slip corrections (R1, R36, R41, R42), and the search command with the pool's choice at its end (R17, R44, R45). -/

namespace Sys2Proof.Machine

/-! ## The counter after a correction -/

/-- A sum of counts brought within the counter's bounds (R1). -/
def clampCounter (sum : Int) : Nat := (max 0 (min 2097151 sum)).toNat

theorem counter_correct (k : Deck) (δ : Int) : (k.correct δ).counter = clampCounter (k.counter + δ) := by
  unfold Deck.correct clampCounter
  simp only [show Config.maxPosition = 2097151 from rfl]
  split
  · dsimp only
    omega
  · split <;> dsimp only <;> omega

theorem anchored_correct_iff (k : Deck) (δ : Int) :
    (k.correct δ).anchored = true ↔ 0 ≤ (k.counter : Int) + δ ∧ (k.counter : Int) + δ ≤ 2097151 := by
  unfold Deck.correct
  simp only [show Config.maxPosition = 2097151 from rfl]
  split
  · simp
    omega
  · split <;> simp <;> omega

theorem state_correct (k : Deck) (δ : Int) : (k.correct δ).state = k.state := by
  unfold Deck.correct
  dsimp only
  split
  · rfl
  · split <;> rfl

/-! ## Crossing sets and chains -/

section
variable {s : State} {d : DeckId} {n : Slot}

theorem updateCrossing_of_no_entry (h : s.entryOf d = none) : s.updateCrossing d = s := by
  simp only [State.updateCrossing, h]

/-- What bringing a crossing set up to date may change (R41, R42). -/
theorem updateCrossing_shape (s : State) (d : DeckId) : ∃ cs l, s.updateCrossing d =
    { s with chains := cs, poolDecks := s.poolDecks.set d { s.pool d with crossing := l } } := by
  cases hn : s.entryOf d with
  | none => exact ⟨s.chains, (s.pool d).crossing, (updateCrossing_of_no_entry hn).trans (State.setPool_self s d).symm⟩
  | some n =>
    cases hm : (s.deck d).state.matching with
    | true => exact ⟨_, _, updateCrossing_eq hn hm⟩
    | false => exact ⟨s.chains, (s.pool d).crossing,
        (updateCrossing_of_not_matching hm).trans (State.setPool_self s d).symm⟩

/-- What holding a crossing set may change (R41). -/
theorem holdCrossing_shape (s : State) (d : DeckId) (old : Nat) (excuse : Bool) : ∃ l, s.holdCrossing d old excuse =
    { s with poolDecks := s.poolDecks.set d { s.pool d with crossing := l } } := by
  cases hn : s.entryOf d with
  | none => exact ⟨(s.pool d).crossing, by simp only [State.holdCrossing, hn]; exact (State.setPool_self s d).symm⟩
  | some n =>
    cases hm : (s.deck d).state.matching with
    | true => exact ⟨_, holdCrossing_of_entry hn hm old excuse⟩
    | false =>
      refine ⟨(s.pool d).crossing, ?_⟩
      simp only [State.holdCrossing, hn, hm, Bool.false_eq_true, if_false]
      exact (State.setPool_self s d).symm

theorem mark_holdCrossing (s : State) (d e : DeckId) (old : Nat) (excuse : Bool) :
    (s.holdCrossing d old excuse).mark e = s.mark e := by
  obtain ⟨l, hl⟩ := holdCrossing_shape s d old excuse
  rw [hl]
  rfl

/-- Where the frames of a chain are all different, a record of it is the record of its frame. -/
theorem record_of_mem {q : FrameRecord} (hnodup : ((s.chain n).map (·.frame)).Nodup) (hq : q ∈ s.chain n) :
    s.record n q.frame = some q := by
  have hfind := List.find?_isSome (p := fun r : FrameRecord => r.frame == q.frame) (xs := s.chain n)
  obtain ⟨r, hr⟩ := Option.isSome_iff_exists.mp (hfind.mpr ⟨q, hq, by simp⟩)
  have hframe : r.frame = q.frame := by simpa using List.find?_some hr
  have hrq : r = q := List.inj_on_of_nodup_map hnodup (List.mem_of_find?_eq_some hr) hq hframe
  exact hrq ▸ hr

theorem nodup_of_numberLaw (h : numberLaw s = true) (n : Slot) : ((s.chain n).map (·.frame)).Nodup := by
  have hn := List.all_eq_true.mp h n (mem_allSlots n)
  rw [beq_iff_eq] at hn
  rw [hn]
  exact List.nodup_range'

theorem setRecord_chain (s : State) (n : Slot) (frame : Nat) (f : FrameRecord → FrameRecord) :
    (s.setRecord n frame f).chain n = (s.chain n).map fun q => if q.frame = frame then f q else q :=
  State.chain_setChain_self ..

/-! ## Slip corrections -/

/-- Deck `d` and its mark reader corrected by `δ`, before the crossing set is looked at (R36). -/
def slipped (s : State) (d : DeckId) (δ : Int) : State :=
  (s.setDeck d { (s.deck d).correct δ with search := (s.deck d).search.map (·.shift δ) }).setMark d ((s.mark d).shift δ)

theorem deck_slipped (s : State) (d : DeckId) (δ : Int) : (slipped s d δ).deck d =
    { (s.deck d).correct δ with search := (s.deck d).search.map (·.shift δ) } := Pair.get_set_self _ _ _

theorem mark_slipped (s : State) (d : DeckId) (δ : Int) : (slipped s d δ).mark d = (s.mark d).shift δ :=
  Pair.get_set_self _ _ _

theorem slip_of_still {δ : Int} (h : clampCounter ((s.deck d).counter + δ) = (s.deck d).counter) :
    s.slip d δ = slipped s d δ := by
  rw [← counter_correct] at h
  exact if_pos h

theorem slip_of_moved {δ : Int} (h : clampCounter ((s.deck d).counter + δ) ≠ (s.deck d).counter) :
    s.slip d δ =
      if ((slipped s d δ).holdCrossing d (s.deck d).counter true |>.mark d).inProgress.isNone = true then
        ((slipped s d δ).holdCrossing d (s.deck d).counter true).updateCrossing d
      else (slipped s d δ).holdCrossing d (s.deck d).counter true := by
  rw [← counter_correct] at h
  exact if_neg h

theorem slip_shape (s : State) (d : DeckId) (δ : Int) : ∃ cs l, s.slip d δ =
    { slipped s d δ with chains := cs, poolDecks := s.poolDecks.set d { s.pool d with crossing := l } } := by
  by_cases h : clampCounter ((s.deck d).counter + δ) = (s.deck d).counter
  · exact ⟨s.chains, (s.pool d).crossing, (slip_of_still h).trans (State.setPool_self (slipped s d δ) d).symm⟩
  · obtain ⟨l, hl⟩ := holdCrossing_shape (slipped s d δ) d (s.deck d).counter true
    rw [slip_of_moved h, hl]
    split
    · obtain ⟨cs, l', hu⟩ := updateCrossing_shape
        { slipped s d δ with poolDecks := s.poolDecks.set d { s.pool d with crossing := l } } d
      refine ⟨cs, l', hu.trans ?_⟩
      simp [State.pool]
    · exact ⟨s.chains, l, rfl⟩

/-- Record `q` leaves the crossing set of deck `d` with a miss when a correction takes the counter from `old` to `c` (R42): its
window holds neither counter, and its member is unmatched and was not excused before. -/
def leftUnmatched (s : State) (d : DeckId) (old c : Nat) (q : FrameRecord) : Bool :=
  !inWindow s q c && !inWindow s q old &&
    (((s.pool d).crossing.find? fun x => x.frame == q.frame).any fun x => !x.matched && !x.excused)

theorem frame_heldCrossing (s : State) (d : DeckId) (n : Slot) (old : Nat) (x : Crossing) :
    (heldCrossing s d n old true x).frame = x.frame := by
  unfold heldCrossing
  split
  · rfl
  · split
    · rfl
    · split <;> rfl

theorem find_heldCrossing (s : State) (d : DeckId) (n : Slot) (old frame : Nat) (l : List Crossing) :
    (l.map (heldCrossing s d n old true)).find? (fun x => x.frame == frame) =
      (l.find? fun x => x.frame == frame).map (heldCrossing s d n old true) := by
  rw [List.find?_map]
  congr 1
  refine congrArg (fun p => List.find? p l) (funext fun x => ?_)
  rw [Function.comp_apply, frame_heldCrossing]

/-- A member held through a correction still calls for a miss where it did before and the correction has not left its window. -/
theorem held_left_iff {c old : Nat} {q : FrameRecord} (hc : (s.deck d).counter = c) (hq : s.record n q.frame = some q)
    (l : List Crossing) :
    (!inWindow s q c && (((l.map (heldCrossing s d n old true)).find? fun x => x.frame == q.frame).any fun x =>
      !x.matched && !x.excused)) =
    (!inWindow s q c && !inWindow s q old && ((l.find? fun x => x.frame == q.frame).any fun x =>
      !x.matched && !x.excused)) := by
  rw [find_heldCrossing]
  cases hx : l.find? fun x => x.frame == q.frame with
  | none => simp
  | some x =>
    have hframe : x.frame = q.frame := by simpa using List.find?_some hx
    simp only [Option.map_some, Option.any_some, heldCrossing, hframe, hq, hc]
    cases inWindow s q c <;> cases inWindow s q old <;> simp

/-- The chain of a deck's entry after a slip correction (R41, R42, log 10). -/
theorem chains_slip {δ : Int} {c : Nat} (hn : s.entryOf d = some n) (hnodup : ((s.chain n).map (·.frame)).Nodup)
    (hc : clampCounter ((s.deck d).counter + δ) = c) : (s.slip d δ).chains = s.chains.set n ((s.chain n).map fun q =>
      if c ≠ (s.deck d).counter ∧ (s.mark d).inProgress = none ∧ (s.deck d).state.matching = true ∧
          (s.deck d).state ≠ .searching ∧ leftUnmatched s d (s.deck d).counter c q = true
        then missedAs q else q) := by
  have keeps {p : FrameRecord → Prop} [DecidablePred p] (h : ∀ q, ¬ p q) :
      s.chains.set n ((s.chain n).map fun q => if p q then missedAs q else q) = s.chains := by
    simp [h, State.chain]
  have hstate : ((slipped s d δ).deck d).state = (s.deck d).state := by rw [deck_slipped]; exact state_correct _ _
  have hcounter : ((slipped s d δ).deck d).counter = c := by rw [deck_slipped, ← hc]; exact counter_correct _ _
  by_cases hmoved : c = (s.deck d).counter
  · rw [slip_of_still (hc.trans hmoved), keeps fun q h => h.1 hmoved]
    rfl
  have hslip := slip_of_moved (s := s) (d := d) (δ := δ) (by rw [hc]; exact hmoved)
  obtain ⟨l, hl⟩ := holdCrossing_shape (slipped s d δ) d (s.deck d).counter true
  by_cases hp : (s.mark d).inProgress = none
  case neg =>
    rw [hslip, if_neg, hl, keeps fun q h => hp h.2.1]
    · rfl
    · rw [mark_holdCrossing, mark_slipped]
      simpa [Mark.shift] using hp
  rw [if_pos] at hslip
  case hc =>
    rw [mark_holdCrossing, mark_slipped]
    simp [Mark.shift, hp]
  cases hm : (s.deck d).state.matching with
  | false =>
    rw [hslip, hl, updateCrossing_of_not_matching (by exact hstate ▸ hm), keeps fun q h => by simp at h]
    rfl
  | true =>
    have hm' : ((slipped s d δ).deck d).state.matching = true := hstate ▸ hm
    let held := ((slipped s d δ).pool d).crossing.map (heldCrossing (slipped s d δ) d n (s.deck d).counter true)
    let u := (slipped s d δ).setPool d { (slipped s d δ).pool d with crossing := held }
    have hu : (slipped s d δ).holdCrossing d (s.deck d).counter true = u := holdCrossing_of_entry (by exact hn) hm' _ _
    rw [hslip, hu, updateCrossing_eq (s := u) (by exact hn) hm']
    refine congrArg (s.chains.set n) (List.map_congr_left fun q hq => if_congr ?_ rfl rfl)
    have hleft : (!inWindow u q (u.deck d).counter && (((u.pool d).crossing.find? fun x => x.frame == q.frame).any fun x =>
        !x.matched && !x.excused)) = leftUnmatched s d (s.deck d).counter c q := by
      rw [show (u.deck d).counter = c from hcounter, show u.pool d = { (slipped s d δ).pool d with crossing := held } from
        State.pool_setPool_self ..]
      exact held_left_iff (s := slipped s d δ) hcounter (record_of_mem (s := slipped s d δ) hnodup hq) _
    have hsearch : ((u.deck d).state != .searching) = true ↔ (s.deck d).state ≠ .searching := by
      rw [show (u.deck d).state = (s.deck d).state from hstate, bne_iff_ne]
    refine (Bool.and_eq_true _ _).to_iff.trans ((and_congr (iff_of_eq (congrArg (· = true) hleft)) hsearch).trans ?_)
    exact ⟨fun h => ⟨hmoved, hp, rfl, h.2, h.1⟩, fun ⟨_, _, _, h2, h1⟩ => ⟨h1, h2⟩⟩

/-! ## A correction from a VERIFIED record -/

/-- The entry's correction count and the record's misses, as a correction from the record leaves them (R36, R45). -/
def correctionCounted (s : State) (n : Slot) (frame : Nat) (delta : Int) : State :=
  let s := s.setRecord n frame fun r => { r with missCount := 0 }
  if delta ≠ 0 then s.setEntry n { s.entry n with correction := min 65535 ((s.entry n).correction + 1) } else s

theorem correctBy_eq (s : State) (d : DeckId) (n : Slot) (frame : Nat) (delta : Int) :
    s.correctBy d n frame delta = (correctionCounted s n frame delta).slip d (-delta) := rfl

theorem correctionCounted_of_zero (s : State) (n : Slot) (frame : Nat) :
    correctionCounted s n frame 0 = s.setRecord n frame fun r => { r with missCount := 0 } := by
  simp [correctionCounted]

theorem correctionCounted_of_ne {delta : Int} (h : delta ≠ 0) (s : State) (n : Slot) (frame : Nat) :
    correctionCounted s n frame delta = (s.setRecord n frame fun r => { r with missCount := 0 }).setEntry n
      { s.entry n with correction := min 65535 ((s.entry n).correction + 1) } := if_pos h

/-- What the counting of a correction leaves as it is. -/
theorem correctionCounted_shape (s : State) (n : Slot) (frame : Nat) (delta : Int) : ∃ es,
    correctionCounted s n frame delta = { s with
      chains := s.chains.set n ((s.chain n).map fun q => if q.frame = frame then { q with missCount := 0 } else q)
      entries := es } ∧ (delta = 0 → es = s.entries) ∧
    (delta ≠ 0 → es = s.entries.set n { s.entry n with correction := min 65535 ((s.entry n).correction + 1) }) := by
  by_cases h : delta = 0
  · subst h
    exact ⟨s.entries, correctionCounted_of_zero s n frame, fun _ => rfl, fun h => absurd rfl h⟩
  · exact ⟨_, correctionCounted_of_ne h s n frame, fun h' => absurd h' h, fun _ => rfl⟩

theorem entryOf_correctionCounted (s : State) (n : Slot) (frame : Nat) (delta : Int) (d : DeckId) :
    (correctionCounted s n frame delta).entryOf d = s.entryOf d := by
  unfold correctionCounted
  dsimp only
  split
  · rw [entryOf_setEntry]
    all_goals rfl
  · rfl

/-- What a correction from a VERIFIED record changes (R36, R45), but for the misses it leaves to the other records. -/
theorem correctBy_shape (s : State) (d : DeckId) (n : Slot) (frame : Nat) (delta : Int) : ∃ es cs l,
    s.correctBy d n frame delta = { slipped s d (-delta) with
      entries := es, chains := cs, poolDecks := s.poolDecks.set d { s.pool d with crossing := l } } ∧
    (delta = 0 → es = s.entries) ∧
    (delta ≠ 0 → es = s.entries.set n { s.entry n with correction := min 65535 ((s.entry n).correction + 1) }) := by
  obtain ⟨es, hes, h0, h1⟩ := correctionCounted_shape s n frame delta
  obtain ⟨cs, l, hslip⟩ := slip_shape (correctionCounted s n frame delta) d (-delta)
  rw [hes] at hslip
  exact ⟨es, cs, l, (correctBy_eq ..).trans ((congrArg (State.slip · d (-delta)) hes).trans hslip), h0, h1⟩

/-- The chain after a correction from a VERIFIED record of it (R36, R41, R42, log 10). -/
theorem chains_correctBy {delta : Int} (hn : s.entryOf d = some n) (hnum : numberLaw s = true) (frame : Nat) :
    (s.correctBy d n frame delta).chains =
      s.chains.set n (correctedChain s d n frame (clampCounter ((s.deck d).counter - delta))) := by
  obtain ⟨es, hes, -, -⟩ := correctionCounted_shape s n frame delta
  have hchain : (correctionCounted s n frame delta).chain n =
      (s.chain n).map fun q => if q.frame = frame then { q with missCount := 0 } else q := by
    rw [hes]
    exact setRecord_chain s n frame _
  have hframes : ((correctionCounted s n frame delta).chain n).map (·.frame) = (s.chain n).map (·.frame) := by
    rw [hchain, List.map_map]
    refine List.map_congr_left fun q _ => ?_
    rw [Function.comp_apply]
    split <;> rfl
  have hdeck : (correctionCounted s n frame delta).deck d = s.deck d := by rw [hes]; rfl
  rw [correctBy_eq, chains_slip ((entryOf_correctionCounted ..).trans hn)
    (hframes ▸ nodup_of_numberLaw hnum n) (c := clampCounter ((s.deck d).counter - delta)) (by rw [hdeck]; rfl), hchain]
  simp only [hes]
  rw [Vector.set_set, List.map_map]
  refine congrArg (s.chains.set n) (List.map_congr_left fun q _ => ?_)
  rw [Function.comp_apply]
  dsimp only
  by_cases hq : q.frame = frame
  · simp only [if_pos hq]
    rfl
  · simp only [if_neg hq]
    rfl

end

theorem correctedChain_congr {s t : State} {d : DeckId} {n : Slot} (hparams : t.params = s.params) (hdeck : t.deck d = s.deck d)
    (hcross : (t.pool d).crossing = (s.pool d).crossing) (hmark : (t.mark d).inProgress = (s.mark d).inProgress)
    (hchain : t.chain n = s.chain n) (frame c : Nat) : correctedChain t d n frame c = correctedChain s d n frame c := by
  have hwindow : inWindow t = inWindow s := by funext r p; simp only [inWindow, hparams]
  unfold correctedChain
  rw [hwindow, hdeck, hcross, hmark, hchain]

/-! ## The places of records -/

/-- The records of every entry stand at the same positions, frame by frame. -/
def SamePlaces (s t : State) : Prop :=
  ∀ k, (t.chain k).map (fun q => (q.frame, q.position)) = (s.chain k).map fun q => (q.frame, q.position)

theorem SamePlaces.trans {s t u : State} (h : SamePlaces s t) (h' : SamePlaces t u) : SamePlaces s u :=
  fun k => (h' k).trans (h k)

theorem SamePlaces.of_chains {s t : State} (h : t.chains = s.chains) : SamePlaces s t := fun k => by
  simp only [State.chain, h]

theorem SamePlaces.map {s t : State} {n : Slot} {f : FrameRecord → FrameRecord}
    (h : t.chains = s.chains.set n ((s.chain n).map f)) (hf : ∀ q, (f q).frame = q.frame ∧ (f q).position = q.position) :
    SamePlaces s t := fun k => by
  have hchain : t.chain k = if k = n then (s.chain n).map f else s.chain k := by
    rw [← State.chain_setChain]
    simp only [State.chain, h, State.setChain]
  rw [hchain]
  split
  · rename_i hk
    subst hk
    simp [hf]
  · rfl

theorem SamePlaces.position {s t : State} (h : SamePlaces s t) (k : Slot) (frame : Nat) :
    (t.record k frame).map (·.position) = (s.record k frame).map (·.position) := by
  have hfind (l : List FrameRecord) : (l.find? fun q => q.frame == frame).map (·.position) =
      ((l.map fun q => (q.frame, q.position)).find? fun x => x.1 == frame).map (·.2) := by
    rw [List.find?_map, Option.map_map]
    rfl
  simp only [State.record, hfind, h k]

theorem SamePlaces.updateCrossing (s : State) (d : DeckId) : SamePlaces s (s.updateCrossing d) := by
  cases hn : s.entryOf d with
  | none => exact .of_chains (by rw [updateCrossing_of_no_entry hn])
  | some n =>
    cases hm : (s.deck d).state.matching with
    | true =>
      rw [updateCrossing_eq hn hm]
      refine .map (n := n) rfl fun q => ?_
      split <;> exact ⟨rfl, rfl⟩
    | false => exact .of_chains (by rw [updateCrossing_of_not_matching hm])

theorem SamePlaces.slip (s : State) (d : DeckId) (δ : Int) : SamePlaces s (s.slip d δ) := by
  by_cases h : clampCounter ((s.deck d).counter + δ) = (s.deck d).counter
  · exact .of_chains (by rw [slip_of_still h]; rfl)
  · obtain ⟨l, hl⟩ := holdCrossing_shape (slipped s d δ) d (s.deck d).counter true
    have hheld : SamePlaces s ((slipped s d δ).holdCrossing d (s.deck d).counter true) := .of_chains (by rw [hl]; rfl)
    rw [slip_of_moved h]
    split
    · exact hheld.trans (.updateCrossing _ _)
    · exact hheld

theorem SamePlaces.correctBy (s : State) (d : DeckId) (n : Slot) (frame : Nat) (delta : Int) :
    SamePlaces s (s.correctBy d n frame delta) := by
  obtain ⟨es, hes, -, -⟩ := correctionCounted_shape s n frame delta
  refine SamePlaces.trans (t := correctionCounted s n frame delta) ?_ (.slip _ _ _)
  rw [hes]
  refine .map (n := n) rfl fun q => ?_
  split <;> exact ⟨rfl, rfl⟩

theorem record_setRecord_self {s : State} {n : Slot} {frame : Nat} {r : FrameRecord} (hr : s.record n frame = some r)
    {f : FrameRecord → FrameRecord} (hf : ∀ q, (f q).frame = q.frame) : (s.setRecord n frame f).record n frame = some (f r) := by
  have hframe : r.frame = frame := by simpa using List.find?_some hr
  have hpred : (fun q : FrameRecord => q.frame == frame) ∘ (fun q => if q.frame = frame then f q else q) =
      fun q => q.frame == frame := funext fun q => by
    rw [Function.comp_apply]
    split
    · rw [hf]
    · rfl
  rw [State.record, setRecord_chain, List.find?_map, hpred, show (s.chain n).find? _ = some r from hr, Option.map_some,
    if_pos hframe]

/-! ## The pool's choice at the end of a search -/

/-- The search record and candidate dropped (R45). -/
def searchDropped (s : State) (d : DeckId) : State := { s with
  marks := s.marks.set d { s.mark d with searchReference := none, searchCandidate := none }
  poolDecks := s.poolDecks.set d { s.pool d with searchRecord := none } }

/-- A search that has succeeded: its record is the deck's found record, and its position is answered (R45). -/
def searchFound (s : State) (d : DeckId) (n : Slot) (frame : Nat) : State × Option Nat :=
  ({ s with poolDecks := s.poolDecks.set d { s.pool d with found := some frame } }, (s.record n frame).map (·.position))

/-- What the pool makes of a search candidate, by the search record's condition (R45). -/
def candidateTaken (s : State) (d : DeckId) (n : Slot) (frame p : Nat) (r : FrameRecord) : State × Option Nat :=
  match r.condition with
  | .verified => searchFound (s.correctBy d n frame ((p : Int) - r.position)) d n frame
  | .damaged => searchFound (s.setRecord n frame fun q => { q with missCount := 0 }) d n frame
  | .seen | .declared =>
    if orderOk (s.chain n) frame p then searchFound (s.moveRecord n frame p) d n frame
    else ((s.damage n frame).failSearch n frame, none)

section
variable {s : State} {d : DeckId} {n : Slot} {frame : Nat} {r : FrameRecord}

theorem searchChoice_of_no_candidate (hn : s.entryOf d = some n) (hf : (s.pool d).searchRecord = some frame)
    (hr : s.record n frame = some r) (hc : (s.mark d).searchCandidate = none) :
    s.searchChoice d = ((searchDropped s d).failSearch n frame, none) := by
  have hn' : ((s.setMark d (s.mark d).dropSearch).setPool d { s.pool d with searchRecord := none }).entryOf d = some n := hn
  have hr' : ((s.setMark d (s.mark d).dropSearch).setPool d { s.pool d with searchRecord := none }).record n frame = some r := hr
  simp only [State.searchChoice, hf, hn', hr', hc]
  rfl

theorem searchChoice_of_candidate {p : Nat} (hn : s.entryOf d = some n) (hf : (s.pool d).searchRecord = some frame)
    (hr : s.record n frame = some r) (hc : (s.mark d).searchCandidate = some p) :
    s.searchChoice d = candidateTaken (searchDropped s d) d n frame p r := by
  have hn' : ((s.setMark d (s.mark d).dropSearch).setPool d { s.pool d with searchRecord := none }).entryOf d = some n := hn
  have hr' : ((s.setMark d (s.mark d).dropSearch).setPool d { s.pool d with searchRecord := none }).record n frame = some r := hr
  simp only [State.searchChoice, hf, hn', hr', hc]
  rfl

theorem searchFound_eq {x : FrameRecord} (hr : s.record n frame = some x) : searchFound s d n frame =
    ({ s with poolDecks := s.poolDecks.set d { s.pool d with found := some frame } }, some x.position) := by
  rw [searchFound, hr]
  rfl

theorem failSearch_eq (s : State) (n : Slot) (frame : Nat) : s.failSearch n frame = s.setRecord n frame missedAs :=
  congrArg (s.setRecord n frame) (funext miss_eq_missedAs)

theorem setRecord_setRecord (s : State) (n : Slot) (frame : Nat) {f g : FrameRecord → FrameRecord}
    (hf : ∀ q, (f q).frame = q.frame) : (s.setRecord n frame f).setRecord n frame g = s.setRecord n frame (g ∘ f) := by
  rw [State.setRecord, setRecord_chain, List.map_map]
  simp only [State.setRecord, State.setChain, Vector.set_set]
  congr 2
  refine List.map_congr_left fun q _ => ?_
  simp only [Function.comp_apply]
  split <;> simp_all

theorem moveRecord_of_last {p : Nat} (h : frame = (s.entry n).frameCount ∧ (s.entry n).extent < p) :
    s.moveRecord n frame p = (s.setRecord n frame fun r =>
        { r with position := p, condition := .verified, missCount := 0 }).setEntry n
      { s.entry n with extent := p } := if_pos h

theorem moveRecord_of_inner {p : Nat} (h : ¬ (frame = (s.entry n).frameCount ∧ (s.entry n).extent < p)) :
    s.moveRecord n frame p = s.setRecord n frame fun r => { r with position := p, condition := .verified, missCount := 0 } :=
  if_neg h

/-! ## A search command -/

/-- Deck `d` on leg 1 of a search before its motion begins (R17, R44). -/
def searchSet (s : State) (d : DeckId) (target frame : Nat) : State := { s with
  decks := s.decks.set d { s.deck d with
    state := .searching, stopping := false
    search := some ⟨((target - s.params.span : Nat) : Int), ((min (target + s.params.span) 2097151 : Nat) : Int), false⟩ }
  marks := s.marks.set d { s.mark d with searchReference := some (target : Int), searchCandidate := none }
  poolDecks := s.poolDecks.set d { s.pool d with searchRecord := some frame, found := none } }

theorem searchFor_of_ready (h : (s.deck d).state = .ready) (target : Nat) :
    s.searchFor d target frame = (searchSet s d target frame).beginMotion d := if_pos h

theorem searchFor_of_not_ready (h : (s.deck d).state ≠ .ready) (target : Nat) : s.searchFor d target frame = s := if_neg h

end

/-- Settles O41: the beginning of a search's motion, and `candidateTaken` by the record's condition. -/
theorem searchCommandAndChoice : Obligations.SearchCommandAndChoice := by
  refine ⟨fun s d target frame => ?command, fun s d n frame r hn hf hr => ?choice⟩
  case command =>
    intro k hold u
    refine ⟨fun h => searchFor_of_not_ready h target, fun h hh => ?_, fun h hh => ?_⟩
    · rw [searchFor_of_ready h, beginMotion_of_hold (by exact hh)]
      simp [searchSet, State.setDeck, State.deck, u, k]
    · rw [searchFor_of_ready h, beginMotion_of_no_hold (by exact hh),
        motionBegins_run (.inr (.inr (by simp [searchSet, State.deck])))]
      simp [searchSet, State.setDeck, State.deck, u, k]
  case choice =>
    intro e u w found
    have hr' : (searchDropped s d).record n frame = some r := hr
    refine ⟨fun hc => ?_, fun p hc => ?_⟩
    · rw [searchChoice_of_no_candidate hn hf hr hc, failSearch_eq]
      rfl
    have taken := searchChoice_of_candidate hn hf hr hc
    refine ⟨fun hd => ?_, fun hd ho => ?_, fun hd ho => ?_, fun hd => ?_⟩
    · rw [taken, candidateTaken, hd]
      have hrec : ((searchDropped s d).setRecord n frame fun q => { q with missCount := 0 }).record n frame =
          some { r with missCount := 0 } := record_setRecord_self hr' fun _ => rfl
      exact searchFound_eq (x := { r with missCount := 0 }) hrec
    · have hbad : candidateTaken (searchDropped s d) d n frame p r =
          (((searchDropped s d).damage n frame).failSearch n frame, none) := by
        rcases hd with hd | hd <;> simp only [candidateTaken, hd] <;>
            exact if_neg (by simp [show orderOk ((searchDropped s d).chain n) frame p = false from ho])
      rw [taken, hbad, failSearch_eq, State.damage, setRecord_setRecord]
      · rfl
      · exact fun _ => rfl
    · have hgood : candidateTaken (searchDropped s d) d n frame p r =
          searchFound ((searchDropped s d).moveRecord n frame p) d n frame := by
        rcases hd with hd | hd <;> simp only [candidateTaken, hd] <;> exact if_pos ho
      have hrec : ((searchDropped s d).setRecord n frame fun r =>
          { r with position := p, condition := .verified, missCount := 0 }).record
          n frame = some { r with position := p, condition := .verified, missCount := 0 } :=
        record_setRecord_self hr' fun _ => rfl
      intro moved
      refine ⟨fun hlast => ?_, fun hlast => ?_⟩
      · rw [taken, hgood, moveRecord_of_last (by exact hlast), searchFound_eq (by exact hrec)]
        rfl
      · rw [taken, hgood, moveRecord_of_inner (by exact hlast), searchFound_eq hrec]
        rfl
    · intro delta sum c t
      have hverified : s.searchChoice d = searchFound ((searchDropped s d).correctBy d n frame delta) d n frame := by
        rw [taken, candidateTaken, hd]
      obtain ⟨es, cs, l, hshape, h0, h1⟩ := correctBy_shape (searchDropped s d) d n frame delta
      have hchains : numberLaw s = true → ((searchDropped s d).correctBy d n frame delta).chains =
          s.chains.set n (correctedChain (searchDropped s d) d n frame c) := fun hnum =>
        chains_correctBy (s := searchDropped s d) hn hnum frame
      have hsame : correctedChain (searchDropped s d) d n frame c = correctedChain s d n frame c := by
        refine correctedChain_congr (s := s) (t := searchDropped s d) rfl rfl ?_ ?_ rfl frame c <;>
            simp [searchDropped, State.pool, State.mark]
      have hposition := (SamePlaces.correctBy (searchDropped s d) d n frame delta).position n frame
      rw [hr'] at hposition
      have ht : t = (searchFound ((searchDropped s d).correctBy d n frame delta) d n frame).1 := congrArg Prod.fst hverified
      rw [hshape] at ht
      refine ⟨?_, fun hnum => ?_, ?_⟩
      · rw [hverified]
        exact hposition
      · rw [← hsame, ← hchains hnum]
        exact congrArg (fun x => (State.chains x.1)) hverified
      · have hdeck : t.deck d = { (s.deck d).correct (-delta) with search := (s.deck d).search.map (·.shift (-delta)) } := by
          rw [ht]
          exact deck_slipped (searchDropped s d) d (-delta)
        have hpool : t.pool d = { s.pool d with crossing := l, searchRecord := none, found := some frame } := by
          rw [ht]
          simp [searchFound, searchDropped, State.pool]
        have hmark : t.mark d = Mark.shift { s.mark d with searchReference := none, searchCandidate := none } (-delta) := by
          rw [ht]
          refine (mark_slipped (searchDropped s d) d (-delta)).trans ?_
          simp [searchDropped, State.mark]
        have hentries : t.entries = es := by rw [ht]; rfl
        refine ⟨by rw [hdeck]; exact counter_correct _ _, by rw [hdeck]; exact anchored_correct_iff _ _, by rw [hpool],
          by rw [hpool], by rw [hmark]; rfl, fun h => hentries.trans (h0 h), fun h => hentries.trans (h1 h), ?_⟩
        rw [ht]
        exact ⟨rfl, rfl, rfl, rfl, rfl, rfl⟩

end Sys2Proof.Machine
end

section
/-! PROOFS. The turn and the completion of a search (R17, R45, R156). -/

namespace Sys2Proof.Machine

/-! ## What the pool's choice keeps -/

/-- The shares of the state that decide what the scheduler has to do, but for decks and catalogue, are the same. -/
def KeepsWork (s t : State) : Prop := t.scheds = s.scheds ∧ t.opa = s.opa ∧ t.tickets = s.tickets

theorem KeepsWork.sched {s t : State} (h : KeepsWork s t) (d : DeckId) : t.sched d = s.sched d :=
  congrArg (fun p => Pair.get p d) h.1

theorem KeepsWork.ticket {s t : State} (h : KeepsWork s t) (n : TicketNo) : t.ticket n = s.ticket n := by
  simp only [State.ticket, h.2.2]

theorem KeepsWork.schedIdle {s t : State} (h : KeepsWork s t) (hidle : schedIdle s = true) : schedIdle t = true :=
  schedIdle_congr hidle h.1 (by rw [h.2.1]) h.2.2

theorem keepsWork_correctBy (s : State) (d : DeckId) (n : Slot) (frame : Nat) (delta : Int) :
    KeepsWork s (s.correctBy d n frame delta) := by
  obtain ⟨es, cs, l, h, -, -⟩ := correctBy_shape s d n frame delta
  rw [h]
  exact ⟨rfl, rfl, rfl⟩

theorem keepsWork_moveRecord (s : State) (n : Slot) (frame p : Nat) : KeepsWork s (s.moveRecord n frame p) := by
  by_cases h : frame = (s.entry n).frameCount ∧ (s.entry n).extent < p
  · rw [moveRecord_of_last h]
    exact ⟨rfl, rfl, rfl⟩
  · rw [moveRecord_of_inner h]
    exact ⟨rfl, rfl, rfl⟩

section
variable {s : State} {d : DeckId}

theorem searchChoice_of_no_record (h : ∀ n frame, s.entryOf d = some n → (s.pool d).searchRecord = some frame →
    s.record n frame = none) : s.searchChoice d = (searchDropped s d, none) := by
  unfold State.searchChoice
  dsimp only
  split
  · rename_i n frame hn hf
    have hr : (searchDropped s d).record n frame = none := h n frame hn hf
    split
    · rfl
    · rename_i r hr'
      exact absurd (hr.symm.trans hr') (by simp)
  · rfl

theorem candidateTaken_cases (n : Slot) (frame p : Nat) (r : FrameRecord) :
    (∃ t, KeepsWork s t ∧ candidateTaken s d n frame p r = searchFound t d n frame) ∨
    ∃ t, KeepsWork s t ∧ candidateTaken s d n frame p r = (t, none) := by
  unfold candidateTaken
  split
  · exact .inl ⟨_, keepsWork_correctBy s d n frame _, rfl⟩
  · exact .inl ⟨s.setRecord n frame _, ⟨rfl, rfl, rfl⟩, rfl⟩
  all_goals
    split
    · exact .inl ⟨_, keepsWork_moveRecord s n frame p, rfl⟩
    · exact .inr ⟨(s.damage n frame).failSearch n frame, ⟨rfl, rfl, rfl⟩, rfl⟩

/-- The pool's choice succeeds with the search record as the deck's found record, or it fails (R45). -/
theorem searchChoice_cases (s : State) (d : DeckId) :
    KeepsWork s (s.searchChoice d).1 ∧ ((s.searchChoice d).2 ≠ none →
      ((s.searchChoice d).1.pool d).found = (s.pool d).searchRecord) := by
  by_cases h : ∀ n frame, s.entryOf d = some n → (s.pool d).searchRecord = some frame → s.record n frame = none
  · rw [searchChoice_of_no_record h]
    exact ⟨⟨rfl, rfl, rfl⟩, fun h => absurd rfl h⟩
  · push Not at h
    obtain ⟨n, frame, hn, hf, hr⟩ := h
    obtain ⟨r, hr⟩ := Option.ne_none_iff_exists'.mp hr
    cases hc : (s.mark d).searchCandidate with
    | none =>
      rw [searchChoice_of_no_candidate hn hf hr hc]
      exact ⟨⟨rfl, rfl, rfl⟩, fun h => absurd rfl h⟩
    | some p =>
      rw [searchChoice_of_candidate hn hf hr hc]
      rcases candidateTaken_cases (s := searchDropped s d) (d := d) n frame p r with ⟨t, ht, h⟩ | ⟨t, ht, h⟩ <;> rw [h]
      · refine ⟨ht, fun _ => ?_⟩
        rw [hf]
        simp [searchFound, State.pool]
      · exact ⟨ht, fun h => absurd rfl h⟩

/-! ## The end of a search -/

theorem searchEnded_of_inactive (h : (s.sched d).active = none) : s.searchEnded d = (s.searchChoice d).1 := by
  simp only [State.searchEnded, (searchChoice_cases s d).1.sched, h]

theorem searchEnded_lost {t : TicketNo} (h : (s.sched d).active = some t) (hstep : (s.sched d).step = some .search)
    (hx : (s.searchChoice d).2 = none) : s.searchEnded d = (s.searchChoice d).1.finalize t .lost := by
  simp only [State.searchEnded, (searchChoice_cases s d).1.sched, h, hstep, hx]

theorem searchEnded_found {t : TicketNo} {pos frame : Nat} (h : (s.sched d).active = some t)
    (hstep : (s.sched d).step = some .search) (hx : (s.searchChoice d).2 = some pos)
    (hf : (s.pool d).searchRecord = some frame) : s.searchEnded d =
      State.shuttleTo { (s.searchChoice d).1 with
        tickets := s.tickets.set t { s.ticket t with state := .moving }
        scheds := s.scheds.set d { s.sched d with step := some .shuttle } } d t pos frame := by
  have hkeeps := (searchChoice_cases s d).1
  have hgoes : s.searchEnded d = (((s.searchChoice d).1.stage t .moving).modSched d fun c =>
      { c with step := some .shuttle }).shuttleTo d t pos frame := by
    simp only [State.searchEnded, hkeeps.sched, h, hstep, hx, hf]
  have hshare : (((s.searchChoice d).1.stage t .moving).modSched d fun c => { c with step := some .shuttle }) =
      { (s.searchChoice d).1 with
        tickets := (s.searchChoice d).1.tickets.set t { (s.searchChoice d).1.ticket t with state := .moving }
        scheds := (s.searchChoice d).1.scheds.set d { (s.searchChoice d).1.sched d with step := some .shuttle } } := rfl
  rw [hkeeps.ticket, hkeeps.sched, hkeeps.1, hkeeps.2.2] at hshare
  rw [hgoes, hshare]

theorem shuttleTo_of_underway {t : TicketNo} {pos frame : Nat} (h : (s.shuttle d pos (some frame)).2 = none) :
    s.shuttleTo d t pos frame = (s.shuttle d pos (some frame)).1 := by
  simp only [State.shuttleTo, h]

theorem shuttleTo_of_arrived {t : TicketNo} {pos frame : Nat} {a : Arrived} (h : (s.shuttle d pos (some frame)).2 = some a) :
    s.shuttleTo d t pos frame = (s.shuttle d pos (some frame)).1.movingArrived d t a := by
  simp only [State.shuttleTo, h]

/-- A shuttle that arrives at once is confirmed by the watch, and changes the deck's share of the pool alone. -/
theorem shuttle_arrived {target : Nat} {frame : Option Nat} {a : Arrived} (h : (s.shuttle d target frame).2 = some a) :
    (s.shuttle d target frame).1 = s.setPool d { s.pool d with watched := none, found := none } ∧
    a.confirmed = ((s.pool d).watch frame).confirms := by
  by_cases hready : (s.deck d).state = .ready
  · by_cases hn : inBand (s.deck d).counter target = true
    · rw [shuttle_of_near hready hn] at h ⊢
      exact ⟨rfl, congrArg Arrived.confirmed (Option.some.inj h).symm⟩
    · rw [shuttle_of_far hready hn] at h
      cases h
  · by_cases hs : (s.deck d).state = .shuttling
    · rw [shuttle_of_shuttling hs] at h
      cases h
    · rw [shuttle_of_elsewhere hready hs] at h
      cases h

end

/-! ## The capstan of a search -/

theorem heading_of_search {k : Deck} {l : SearchLegs} (hs : k.state = .searching) (hstop : k.stopping = false)
    (hl : k.search = some l) : k.heading =
      if l.leg2 then (if (k.counter : Int) < l.high then some .forward else none)
      else if l.low < k.counter then some .backward
      else some .forward := by
  simp [Deck.heading, hs, hstop, hl]

/-- Settles O43: the end of a search by `searchEnded_lost` and `searchEnded_found`, and the capstan by the heading. -/
theorem searchTurnsAndCompletes : Obligations.SearchTurnsAndCompletes := by
  intro s d legs hrun hs hm hl k does atEnd short x
  have rests {t : State} (h : filmRests d s = t) : does t := (exec_searchCompletion hrun hs).trans (congrArg _ h)
  have hp : s.power d = true := power_of_matching (by rw [hs]; rfl)
  have hshuttle : (s.deck d).state ≠ .shuttling := by rw [hs]; decide
  have end_iff : legs.leg2 = true ∧ legs.atHighEnd k.counter = true ↔ legs.leg2 = true ∧ atEnd :=
    and_congr_right' decide_eq_true_iff
  refine ⟨next_live_eq hrun ?turn, fun hstop hshort => rests ?short, fun hstop h2 hend => ?done, fun hstop => ?capstan⟩
  case turn =>
    refine (if_pos ⟨hs, hm⟩).trans ?_
    simp only [State.modDeck, hl]
    rfl
  case short =>
    refine filmRests_of_none (rest_of_short_search hm hs hstop hl fun h => ?_)
    obtain ⟨h2, hend⟩ := end_iff.mp h
    rcases hshort with h | h
    · exact absurd (h2.symm.trans h) (by decide)
    · exact h hend
  case done =>
    have ends : filmRests d s = ((readyAs s d).searchEnded d).settle := by
      rw [filmRests_of_report (rest_of_searched hm hs hstop hl (end_iff.mpr ⟨h2, hend⟩)) (by simp), State.rested]
    obtain ⟨hkeeps, hfound⟩ := searchChoice_cases (readyAs s d) d
    refine ⟨fun hidle => rests ?_, fun t ht hstep => ⟨fun hx => rests ?_, fun pos frame hx hf => ?_⟩⟩
    · have hidle' : schedIdle (readyAs s d) = true := schedIdle_congr hidle rfl rfl rfl
      rw [ends, searchEnded_of_inactive (by rw [sched_of_idle hidle']; rfl)]
      exact settle_of_idle (hkeeps.schedIdle hidle')
    · rw [ends, searchEnded_lost (s := readyAs s d) ht hstep hx]
    · intro v go
      have hf' : ((readyAs s d).pool d).searchRecord = some frame := by simpa [readyAs, State.pool] using hf
      have goes : filmRests d s = (v.shuttleTo d t pos frame).settle := by
        rw [ends, searchEnded_found (s := readyAs s d) ht hstep hx hf']
        rfl
      have confirmed {a : Arrived} (ha : go.2 = some a) : a.confirmed = true ∧ go.1.ticket t = v.ticket t := by
        obtain ⟨hgo, hconf⟩ := shuttle_arrived ha
        refine ⟨hconf.trans (watch_confirms_iff.mpr ⟨frame, rfl, .inl ?_⟩), by rw [show go.1 = _ from hgo]; rfl⟩
        exact (hfound (by rw [hx]; simp)).trans hf'
      have hkind : (v.ticket t).kind = (s.ticket t).kind := by simp [v, State.ticket]
      refine ⟨fun hgo => rests ?_, fun hgo hk => rests ?_, fun hgo hk => rests ?_⟩
      · rw [goes, shuttleTo_of_underway hgo]
      all_goals
        obtain ⟨a, ha⟩ := Option.ne_none_iff_exists'.mp hgo
        obtain ⟨hconf, hticket⟩ := confirmed ha
        rw [goes, shuttleTo_of_arrived ha, movingArrived_of_confirmed hconf]
      · rw [if_pos (by rw [show ((v.shuttle d pos (some frame)).1.ticket t) = v.ticket t from hticket, hkind]; exact hk)]
      · rw [if_neg (by rw [show ((v.shuttle d pos (some frame)).1.ticket t) = v.ticket t from hticket, hkind]; exact hk)]
  case capstan =>
    have heading : k.heading = _ := heading_of_search hs hstop hl
    refine ⟨fun h2 h => capstan_of_heading hp hm hshuttle (heading.trans ?_),
      fun h2 h => capstan_of_heading hp hm hshuttle (heading.trans ?_),
      fun h2 h => capstan_of_heading hp hm hshuttle (heading.trans ?_),
      fun h2 h => capstan_of_no_heading hp hm (heading.trans ?_)⟩
    · rw [h2]
      exact (if_neg (by decide)).trans (if_pos h)
    · rw [h2]
      exact (if_neg (by decide)).trans (if_neg (not_lt.mpr h))
    · rw [h2]
      exact (if_pos rfl).trans (if_pos h)
    · rw [h2]
      exact (if_pos rfl).trans (if_neg (not_lt.mpr h))

end Sys2Proof.Machine
end

section
/-! PROOFS. What comes of film at rest after a stop and after an identification (R10, R11, R15, R52, R152, R153). -/

namespace Sys2Proof.Machine

/-! ## The INDEXING stage at rest -/

/-- The film end met by a run of deck `d` noted where it was met (R152). -/
def filmEndNoted (s : State) (d : DeckId) (atEnd : Bool) : State :=
  { s with scheds := s.scheds.set d { s.sched d with filmEndMet := if atEnd then true else (s.sched d).filmEndMet } }

theorem filmEndNoted_eq (s : State) (d : DeckId) (atEnd : Bool) : filmEndNoted s d atEnd =
    if atEnd then s.modSched d fun c => { c with filmEndMet := true } else s := by
  cases atEnd
  · exact State.setSched_self s d
  · rfl

section
variable {s : State} {d : DeckId} {t : TicketNo} {atEnd : Bool}

theorem sched_filmEndNoted (s : State) (d : DeckId) (atEnd : Bool) : (filmEndNoted s d atEnd).sched d =
    { s.sched d with filmEndMet := if atEnd then true else (s.sched d).filmEndMet } := Pair.get_set_self _ _ _

theorem runRested_of_cancel (h : (s.sched d).active = some t) (hc : (s.ticket t).cancelPending = true) :
    s.runRested d atEnd = (filmEndNoted s d atEnd).finalize t .cancelled := by
  simp only [State.runRested, h, ← filmEndNoted_eq]
  exact if_pos hc

/-- What the INDEXING stage does at rest, by its step (R152, R153). -/
def stageRested (s : State) (d : DeckId) (t : TicketNo) (atEnd : Bool) : Option Step → State
  | some .closing => s.closeIndexing d t
  | some .track =>
    match (s.sched d).track with
    | some tr => if tr.running then s else s.trackShuttle d tr
    | none => s
  | some .run => if atEnd then s.filmEndOutcome d t else s
  | _ => s

theorem runRested_of_step (h : (s.sched d).active = some t) (hc : (s.ticket t).cancelPending = false) :
    s.runRested d atEnd = stageRested (filmEndNoted s d atEnd) d t atEnd (s.sched d).step := by
  have hstep : ((filmEndNoted s d atEnd).sched d).step = (s.sched d).step := by rw [sched_filmEndNoted]
  simp only [State.runRested, h, ← filmEndNoted_eq, hstep]
  rw [if_neg (by simp [show ((filmEndNoted s d atEnd).ticket t).cancelPending = false from hc])]
  unfold stageRested
  generalize (s.sched d).step = x
  cases x with
  | none => rfl
  | some x => cases x <;> rfl

theorem stageRested_of_elsewhere {x : Option Step} (h1 : x ≠ some .closing) (h2 : x ≠ some .run) (h3 : x ≠ some .track) :
    stageRested s d t atEnd x = s := by
  unfold stageRested
  split <;> first | contradiction | rfl

theorem closeIndexing_of_index (h : (s.ticket t).kind = some .index) : s.closeIndexing d t = s.finalize t .completed :=
  if_pos h

theorem closeIndexing_of_frame (h : (s.ticket t).kind ≠ some .index) : s.closeIndexing d t = s.enterMoving d t := if_neg h

theorem filmEndOutcome_of_reached (h : (s.sched d).targetReached = true) : s.filmEndOutcome d t = s.closeIndexing d t :=
  if_pos h

theorem filmEndOutcome_to_end (h : (s.sched d).targetReached = false)
    (hi : (s.ticket t).kind = some .index ∧ (s.sched d).indexTarget = none) :
    s.filmEndOutcome d t = s.finalize t .completed :=
  (if_neg (by simp [h])).trans (if_pos ⟨hi.1, by simp [hi.2]⟩)

theorem filmEndOutcome_of_missed (h : (s.sched d).targetReached = false)
    (hi : ¬ ((s.ticket t).kind = some .index ∧ (s.sched d).indexTarget = none)) :
    s.filmEndOutcome d t = s.finalize t .notFound :=
  (if_neg (by simp [h])).trans (if_neg fun hh => hi ⟨hh.1, Option.isNone_iff_eq_none.mp hh.2⟩)

theorem trackShuttle_of_underway {tr : Track} (h : (s.shuttle d tr.pos (some tr.frame)).2 = none) :
    s.trackShuttle d tr = (s.shuttle d tr.pos (some tr.frame)).1 := by
  simp only [State.trackShuttle, h]

theorem trackShuttle_of_arrived {tr : Track} (h : (s.shuttle d tr.pos (some tr.frame)).2 ≠ none) :
    s.trackShuttle d tr = { (s.shuttle d tr.pos (some tr.frame)).1 with
      scheds := s.scheds.set d { s.sched d with track := some { tr with arrived := true } } } := by
  obtain ⟨a, ha⟩ := Option.ne_none_iff_exists'.mp h
  obtain ⟨hgo, -⟩ := shuttle_arrived ha
  simp only [State.trackShuttle, ha]
  rw [hgo]
  rfl

/-! ## The stage goes on after its track sweep -/

theorem continueStage_eq (h : (s.sched d).active = some t) (hstep : (s.sched d).step = some .track)
    (htrack : (s.sched d).track = none) (hready : (s.deck d).state = .ready) (hc : (s.ticket t).cancelPending = false)
    (hheld : (s.sched d).held = none) : s.continueStage d =
      if (s.sched d).targetReached then some (s.closeIndexing d t)
      else if (s.sched d).filmEndMet then some (s.filmEndOutcome d t)
      else some (s.startRun d) := by
  simp only [State.continueStage, h]
  exact if_pos ⟨hstep, by simp [htrack], hready, hc, by simp [hheld]⟩

theorem startRun_of_no_film_end (h : (s.deck d).state = .ready) (hf : (s.sensors d).filmEnd = false) :
    s.startRun d = runBegun (s.modSched d fun c => { c with step := some .run, filmEndMet := false }) d := by
  simp only [State.startRun]
  rw [indexRun_eq (by exact h) (by exact hf)]
  rfl

/-! ## Identification -/

theorem agrees_untagged_iff {e : Entry} : Reading.untagged.agrees e = true ↔ e.tag = none := Option.isNone_iff_eq_none

theorem agrees_tag_iff {e : Entry} {t : Nat} : (Reading.tag t).agrees e = true ↔ e.tag = some t := beq_iff_eq

theorem resolve_fresh (s : State) (d : DeckId) (r : Reading) : s.resolve d (some .fresh) r = s.resolveFresh d r := rfl

theorem resolve_of_no_entry (h : s.entryOf d = none) (i : Option Identification) (r : Reading) :
    s.resolve d i r = s.resolveFresh d r := by
  unfold State.resolve
  rw [h]
  split
  · contradiction
  · rfl

theorem resolve_remount {n : Slot} (h : s.entryOf d = some n) (r : Reading) : s.resolve d (some .remount) r =
    if r.agrees (s.entry n) then (s, .resumed) else (s.releaseDeck d).resolveFresh d r := by
  simp only [State.resolve, h]

end

/-- Settles O42: the rest after a stop by `runRested_of_cancel` and `runRested_of_step`, the identification by the cases of
`State.resolve`, and the stage after its track sweep by `continueStage_eq`. -/
theorem filmComesToRest : Obligations.FilmComesToRest := by
  refine ⟨fun s d hrun hm => ?rest, fun s d r => ?resolved, fun s d t h hstep htrack hready hc hheld => ?goesOn⟩
  case rest =>
    intro k c does
    have rests {u : State} (h : filmRests d s = u) : does u := (exec_filmAtRest hrun d).trans (congrArg _ h)
    refine ⟨fun hs hstop => ?_, fun r hs hr => rests ?_⟩
    case refine_2 =>
      rw [filmRests_of_report (rest_of_identified hm hs hr) (by simp)]
      rfl
    intro filmEnd
    let atEnd : Bool := decide (k.state = .indexing ∧ k.runMetEnd = true)
    have hrest : filmRests d s = ((readyAs s d).runRested d atEnd).settle := by
      have hreport := rest_of_stopping hm hstop hs
      by_cases hend : filmEnd
      · rw [if_pos (show (s.deck d).state = .indexing ∧ (s.deck d).runMetEnd = true from hend)] at hreport
        rw [filmRests_of_report hreport (by simp), State.rested, show atEnd = true from decide_eq_true hend]
      · rw [if_neg (show ¬ ((s.deck d).state = .indexing ∧ (s.deck d).runMetEnd = true) from hend)] at hreport
        rw [filmRests_of_report hreport (by simp), State.rested, show atEnd = false from decide_eq_false hend]
    refine ⟨fun hidle => rests ?_, fun t ht => ?_⟩
    · rw [hrest, runRested_of_inactive (s := readyAs s d)
        (by rw [show (readyAs s d).sched d = s.sched d from rfl, sched_of_idle hidle]; rfl)]
      exact settle_of_idle (schedIdle_congr hidle rfl rfl rfl)
    intro r c' u isIndex closes
    have hu : filmEndNoted r d atEnd = u := by
      simp only [filmEndNoted, atEnd, decide_eq_true_eq]
      rfl
    have hsched : u.sched d = c' := Pair.get_set_self _ _ _
    have steps (hc : (s.ticket t).cancelPending = false) : filmRests d s = (stageRested u d t atEnd c.step).settle := by
      rw [hrest, runRested_of_step (s := r) (t := t) ht hc, hu]
      rfl
    refine ⟨fun hc => rests ?_, fun hc => ⟨fun hstep => ⟨fun hi => rests ?_, fun hi => rests ?_⟩,
      fun hstep hend hr => ⟨fun hi => rests ?_, fun hi => rests ?_⟩,
      fun hstep hend hr => ⟨fun hi => rests ?_, fun hi => rests ?_⟩, fun hstep hend => rests ?_, fun tr hstep htr hrunning => ?_,
      fun hstep htr => rests ?_, fun h1 h2 h3 => rests ?_⟩⟩
    · rw [hrest, runRested_of_cancel (s := r) (t := t) ht hc, hu]
    · rw [steps hc, hstep, stageRested, closeIndexing_of_index (by exact hi)]
    · rw [steps hc, hstep, stageRested, closeIndexing_of_frame (by exact hi)]
    · rw [steps hc, hstep, stageRested, if_pos (decide_eq_true hend), filmEndOutcome_of_reached (by rw [hsched]; exact hr),
        closeIndexing_of_index (by exact hi)]
    · rw [steps hc, hstep, stageRested, if_pos (decide_eq_true hend), filmEndOutcome_of_reached (by rw [hsched]; exact hr),
        closeIndexing_of_frame (by exact hi)]
    · rw [steps hc, hstep, stageRested, if_pos (decide_eq_true hend),
        filmEndOutcome_to_end (by rw [hsched]; exact hr) (by rw [hsched]; exact hi)]
    · rw [steps hc, hstep, stageRested, if_pos (decide_eq_true hend),
        filmEndOutcome_of_missed (by rw [hsched]; exact hr) (by rw [hsched]; exact hi)]
    · rw [steps hc, hstep, stageRested, if_neg fun h => hend (of_decide_eq_true h)]
    · intro back
      have hback : filmRests d s = (u.trackShuttle d tr).settle := by
        rw [steps hc, hstep, stageRested, show (u.sched d).track = some tr by rw [hsched]; exact htr]
        exact congrArg State.settle (if_neg (by simp [hrunning]))
      refine ⟨fun hb => rests ?_, fun hb => rests ?_⟩
      · rw [hback, trackShuttle_of_underway hb]
      · rw [hback, trackShuttle_of_arrived hb, hsched]
        exact congrArg (fun p => State.settle { back.1 with scheds := p }) (Pair.set_set _ _ _ _)
    · rw [steps hc, hstep, stageRested, show (u.sched d).track = none by rw [hsched]; exact htr]
    · rw [steps hc, stageRested_of_elsewhere h1 h2 h3]
  case resolved =>
    intro agrees
    have agrees_iff (n : Slot) : r.agrees (s.entry n) = true ↔ agrees n := by
      cases r
      · exact agrees_untagged_iff
      · exact agrees_tag_iff
    refine ⟨resolve_fresh s d r, fun hn => resolve_of_no_entry hn _ r, fun n hn => ⟨fun ha => ?_, fun ha htag hsweep => ?_⟩⟩
    · rw [resolve_remount hn, if_pos ((agrees_iff n).mpr ha)]
    · have hsweep' : ∀ w, s.fseq.sweep = some w → w.deck ≠ d := by
        simpa only [Option.all_eq_true, bne_iff_ne] using hsweep
      rw [resolve_remount hn, if_neg (mt (agrees_iff n).mp ha), releaseDeck_of_tagged hn htag hsweep']
  case goesOn =>
    intro c isIndex
    have goes := continueStage_eq h hstep htrack hready hc hheld
    refine ⟨fun hr => ?_, fun hr hend => ?_, fun hr hend hf => ?_⟩
    · rw [goes, if_pos hr]
      exact ⟨fun hi => congrArg some (closeIndexing_of_index hi), fun hi => congrArg some (closeIndexing_of_frame hi)⟩
    · rw [goes, if_neg (by simp [show (s.sched d).targetReached = false from hr]), if_pos hend]
      exact ⟨fun hi => congrArg some (filmEndOutcome_to_end hr hi), fun hi => congrArg some (filmEndOutcome_of_missed hr hi)⟩
    · intro u
      rw [goes, if_neg (by simp [show (s.sched d).targetReached = false from hr]),
        if_neg (by simp [show (s.sched d).filmEndMet = false from hend]), startRun_of_no_film_end hready hf]
      have hstepped : (s.modSched d fun c => { c with step := some .run, filmEndMet := false }) =
          { s with scheds := s.scheds.set d { c with step := some .run } } := by
        have hmet : ({ c with step := some .run, filmEndMet := false } : Sched) = { c with step := some .run } := by
          simp [show c.filmEndMet = false from hend]
        exact congrArg (s.setSched d) hmet
      rw [hstepped]
      refine ⟨fun hh => congrArg some ?_, fun hh => congrArg some ?_⟩
      · simp only [runBegun, u, hh, beq_self_eq_true, Bool.and_self, if_true]
        rfl
      · have hheld : (s.pins.hold && s.opa.path.selected == d) = false := by simpa using hh
        simp only [runBegun, u, hheld, Bool.false_eq_true, if_false]
        rfl

end Sys2Proof.Machine
end

section
/-! PROOFS. Identity resolution and the release of a transient entry (R49 to R51, R54), and BIND DECK (R61). -/

namespace Sys2Proof.Machine

/-! ## Binding -/

/-- The width of a kind (R51). -/
theorem bind_width_eq (k : Option Kind) : k.bind Kind.width? = match k with
    | some .mm16 => some .mm16
    | some .mm35 => some .mm35
    | _ => none := by
  rcases k with _ | (_ | _ | _) <;> rfl

/-- Entry `k` bound to a deck, before the crossing set is built (R49, R132). -/
def boundAs (s : State) (k : Slot) (d : DeckId) : State :=
  { s with
    entries := s.entries.set k { s.entry k with state := .mounted, deck := some d, interrupted := false }
    tickets := s.tickets.map fun t =>
      if t.slot = some k ∧ t.state = .awaitRoll then { t with state := .queued } else t }

section
variable {s : State} {d : DeckId} {k : Slot}

theorem bind_eq (s : State) (k : Slot) (d : DeckId) : s.bind k d = (boundAs s k d).rebuildCrossing d := rfl

theorem rebuildCrossing_shape (s : State) (d : DeckId) : ∃ l, s.rebuildCrossing d =
    { s with poolDecks := s.poolDecks.set d { s.pool d with crossing := l } } := ⟨_, rfl⟩

theorem entries_bind (s : State) (k : Slot) (d : DeckId) : (s.bind k d).entries =
    s.entries.set k { s.entry k with state := .mounted, deck := some d, interrupted := false } := rfl

theorem tickets_bind (s : State) (k : Slot) (d : DeckId) : (s.bind k d).tickets = s.tickets.map fun t =>
    if t.slot = some k ∧ t.state = .awaitRoll then { t with state := .queued } else t := rfl

theorem entries_createEntry (s : State) (k : Slot) (d : DeckId) (tag : Option Nat) : (s.createEntry k d tag).entries =
    s.entries.set k { Entry.free with
      state := .mounted, deck := some d, width := (s.deck d).kind.bind Kind.width?, tag := tag } := by
  rw [State.createEntry, entries_bind, State.entry_setEntry_self]
  exact Vector.set_set ..

/-! ## The table of R50 -/

theorem tagHolder_of_only {t : Nat} (hk : (s.entry k).tag = some t) (honly : ∀ n, (s.entry n).tag = some t → n = k) :
    s.tagHolder t = some k :=
  find?_allSlots_of_lowest (by simpa using hk) fun n hn => by
    rw [beq_eq_false_iff_ne]
    exact fun h => absurd (honly n h) (ne_of_lt hn)

theorem tagHolder_of_absent {t : Nat} (h : ∀ n, (s.entry n).tag ≠ some t) : s.tagHolder t = none := by
  rw [← Option.not_isSome_iff_eq_none, tagHolder_isSome_iff]
  exact fun ⟨n, hn⟩ => h n hn

theorem resolveFresh_untagged_full (h : s.freeSlot = none) : s.resolveFresh d .untagged = (s, .catalogueFull) := by
  simp only [State.resolveFresh, h]

theorem resolveFresh_untagged (h : s.freeSlot = some k) :
    s.resolveFresh d .untagged = (s.createEntry k d none, .transient) := by
  simp only [State.resolveFresh, h]

theorem resolveFresh_held {t : Nat} (h : s.tagHolder t = some k) : s.resolveFresh d (.tag t) =
    if (s.entry k).state = .mounted then (s, .duplicateTag)
    else if (s.entry k).width = (s.deck d).kind.bind Kind.width? then (s.bind k d, .known)
    else (s, .widthMismatch) := by
  simp only [State.resolveFresh, h]

theorem resolveFresh_new_full {t : Nat} (h : s.tagHolder t = none) (hf : s.freeSlot = none) :
    s.resolveFresh d (.tag t) = (s, .catalogueFull) := by
  simp only [State.resolveFresh, h, hf]

theorem resolveFresh_new {t : Nat} (h : s.tagHolder t = none) (hf : s.freeSlot = some k) :
    s.resolveFresh d (.tag t) = (s.createEntry k d (some t), .newRoll) := by
  simp only [State.resolveFresh, h, hf]

/-! ## A transient entry released -/

theorem heldTicket_iff {t : TicketNo} : s.heldTicket t = true ↔ ∃ d, s.activeAt t = some d ∧
    ((s.sched d).held ≠ none ∨ ((s.ticket t).cancelPending = true ∧ s.orderFor d = true)) := by
  unfold State.heldTicket
  cases h : s.activeAt t with
  | none => simp
  | some d => simp [Option.isSome_iff_ne_none]

end

/-- Settles O44: the rows of R50 by the tag's holder and the lowest FREE entry, and the tickets that a transient entry fails. -/
theorem entriesMadeAndReleased : Obligations.EntriesMadeAndReleased := by
  refine ⟨fun s d => ?table, fun s k htag => ?released⟩
  case table =>
    intro width full made holds
    have hwidth : (s.deck d).kind.bind Kind.width? = width := bind_width_eq _
    have hfull (h : full) : s.freeSlot = none := freeSlot_eq_none_iff.mpr h
    have hmade (k : Slot) (tag : Option Nat) : (s.createEntry k d tag).entries = s.entries.set k (made tag) := by
      rw [entries_createEntry, hwidth]
      rfl
    refine ⟨fun h => resolveFresh_untagged_full (hfull h), fun k hk => ?_, fun t k hh hm => ?_, fun t k hh hm hw => ?_,
      fun t k hh hm hw => ?_, fun t ht h => resolveFresh_new_full (tagHolder_of_absent ht) (hfull h), fun t k ht hk => ?_⟩
    · rw [resolveFresh_untagged (freeSlot_of_lowest hk)]
      exact ⟨rfl, hmade k none⟩
    · rw [resolveFresh_held (tagHolder_of_only hh.1 hh.2), if_pos hm]
    · rw [resolveFresh_held (tagHolder_of_only hh.1 hh.2), if_neg hm, hwidth, if_neg hw]
    · rw [resolveFresh_held (tagHolder_of_only hh.1 hh.2), if_neg hm, hwidth, if_pos hw]
      exact ⟨rfl, entries_bind s k d, tickets_bind s k d⟩
    · rw [resolveFresh_new (tagHolder_of_absent ht) (freeSlot_of_lowest hk)]
      exact ⟨rfl, hmade k (some t)⟩
  case released =>
    intro u
    refine ⟨List.filter_sublist, fun t => ?_, fun h => if_pos h, fun h => if_neg h⟩
    rw [← heldTicket_iff]
    simp [State.unlistedTickets, and_assoc]

/-! ## BIND DECK -/

section
variable {s : State} {d : DeckId} {k : Slot} {slot : Byte}

theorem bindable_iff : s.bindable d = true ↔
    ∀ n, s.entryOf d = some n → (s.entry n).tag = none ∧ (s.entry n).frameCount = 0 := by
  unfold State.bindable
  cases h : s.entryOf d <;> simp

theorem bindDeck_of_no_slot (h : 16 ≤ slot.toNat) (deck : Byte) : s.bindDeck deck slot = s.refuse .badArgument := by
  rw [State.bindDeck, slotOf_of_ge h]
  cases deckOf deck <;> rfl

/-- The checks of R61 in their order. -/
theorem bindDeck_of_slot (h : slot.toNat = k.val) : s.bindDeck (if d = .a then 0 else 1) slot =
    if (s.deck d).state ≠ .ready then s.refuse .state
    else if (s.sched d).active.isSome then s.refuse .busy
    else if s.bindable d = false then s.refuse .state
    else if (s.entry k).state = .free then s.refuse .notListed
    else if (s.entry k).state ≠ .listed ∨ (s.entry k).releasePending then s.refuse .state
    else if (s.entry k).width ≠ (s.deck d).kind.bind Kind.width? then s.refuse .badArgument
    else (((s.releaseDeck d).bind k d).settle).answer [] := by
  rw [State.bindDeck, slotOf_of_toNat_eq h, deckOf_code]

/-- An entry bound to a deck without an entry is the deck's entry. -/
theorem entryOf_boundAs (h : s.entryOf d = none) (k : Slot) : (boundAs s k d).entryOf d = some k := by
  have hmounted : (boundAs s k d).entry k = { s.entry k with state := .mounted, deck := some d, interrupted := false } :=
    State.entry_setEntry_self ..
  have hothers (n : Slot) (hn : n ≠ k) : (boundAs s k d).entry n = s.entry n := State.entry_setEntry_of_ne _ _ hn
  refine find?_allSlots_of_lowest (by simp [hmounted]) fun n hn => ?_
  have hnone := List.find?_eq_none.mp h n (mem_allSlots n)
  rw [hothers n (ne_of_lt hn)]
  simpa using hnone

/-- The crossing set of an entry bound to a READY deck without an entry (R41). -/
theorem bind_of_ready (h : s.entryOf d = none) (hr : (s.deck d).state = .ready) : s.bind k d =
    { boundAs s k d with
      poolDecks := s.poolDecks.set d { s.pool d with
        crossing := ((s.chain k).filter fun r => inWindow s r (s.deck d).counter).map fun r => ⟨r.frame, false, false⟩ } } := by
  have hm : ((boundAs s k d).deck d).state.matching = true := by
    rw [show (boundAs s k d).deck d = s.deck d from rfl, hr]
    rfl
  have hnear (r : FrameRecord) : r.near (boundAs s k d).params.window ((boundAs s k d).deck d).counter =
      inWindow s r (s.deck d).counter := near_eq_inWindow s r _
  rw [bind_eq, State.rebuildCrossing, entryOf_boundAs h k]
  simp only [hm, if_true, hnear]
  rfl

end

/-- Settles O22: the checks of `State.bindDeck` in their order, and `bind_of_ready`. -/
theorem bindDeckTaken : Obligations.BindDeckTaken := by
  refine ⟨fun s deck slot hidle h => receiveRequest_of_carryOut (.bindDeck deck slot) hidle rfl rfl (bindDeck_of_no_slot h deck),
    fun s d slot k hidle hk => ?_⟩
  intro deck does e width replaceable ready unserved listed
  have hwidth : (s.deck d).kind.bind Kind.width? = width := bind_width_eq _
  have replies {t : State} {c : ResultCode} (h : s.bindDeck deck slot = ⟨t, c, []⟩) : does t c :=
    receiveRequest_of_carryOut (.bindDeck deck slot) hidle rfl rfl h
  have isUnserved (h : unserved) : ¬ (s.sched d).active.isSome = true := by simp [show (s.sched d).active = none from h]
  have isBindable (h : replaceable) : ¬ s.bindable d = false := by simp [bindable_iff.mpr h]
  have isListed (h : listed) : ¬ (e.state ≠ .listed ∨ e.releasePending = true) := by simp [h.1, h.2]
  have isMade (h : listed) : ¬ e.state = .free := by simp [h.1]
  refine ⟨fun hr => replies ?_, fun hr hu => replies ?_, fun hr hu hb => replies ?_, fun hr hu hb hf => replies ?_,
    fun hr hu hb hf hl => replies ?_, fun hr hu hb hl hw => replies ?_, fun hr hu hn hl hw => ?_⟩
  · rw [bindDeck_of_slot hk, if_pos hr]
    rfl
  · rw [bindDeck_of_slot hk, if_neg (not_not.mpr hr), if_pos (Option.isSome_iff_ne_none.mpr hu)]
    rfl
  · rw [bindDeck_of_slot hk, if_neg (not_not.mpr hr), if_neg (isUnserved hu),
      if_pos (Bool.eq_false_iff.mpr fun h => hb (bindable_iff.mp h))]
    rfl
  · rw [bindDeck_of_slot hk, if_neg (not_not.mpr hr), if_neg (isUnserved hu), if_neg (isBindable hb), if_pos hf]
    rfl
  · have hnot : e.state ≠ .listed ∨ e.releasePending = true := by
      by_contra h
      push Not at h
      exact hl ⟨h.1, by simpa using h.2⟩
    rw [bindDeck_of_slot hk, if_neg (not_not.mpr hr), if_neg (isUnserved hu), if_neg (isBindable hb), if_neg hf, if_pos hnot]
    rfl
  · rw [bindDeck_of_slot hk, if_neg (not_not.mpr hr), if_neg (isUnserved hu), if_neg (isBindable hb), if_neg (isMade hl),
      if_neg (isListed hl), hwidth, if_pos hw]
    rfl
  · intro near u
    have hb : replaceable := fun n h => by rw [hn] at h; cases h
    refine replies ?_
    rw [bindDeck_of_slot hk, if_neg (not_not.mpr hr), if_neg (isUnserved hu), if_neg (isBindable hb), if_neg (isMade hl),
      if_neg (isListed hl), hwidth, if_neg (not_not.mpr hw), releaseDeck_of_no_entry hn, bind_of_ready hn hr]
    rfl

end Sys2Proof.Machine
end

section
/-! PROOFS. DECLARE FRAMES (R65 to R67, R76, R77). -/

namespace Sys2Proof.Machine

/-! ## The items as read -/

theorem itemsOf_length {items : List DeclItem} {xs : List Item} (h : itemsOf items = some xs) : xs.length = items.length := by
  induction items generalizing xs with
  | nil =>
    cases h
    rfl
  | cons i rest ih =>
    rw [itemsOf] at h
    split at h
    · rename_i x ys hx hys
      cases h
      rw [List.length_cons, List.length_cons, ih hys]
    · cases h

theorem rising_some_iff {p : Nat} {xs : List Item} :
    rising (some p) xs = true ↔ List.Pairwise (· < ·) (p :: xs.map (·.pos)) := by
  rw [← List.isChain_iff_pairwise]
  induction xs generalizing p with
  | nil => simp [rising]
  | cons x xs ih => simp only [rising, Bool.and_eq_true, ih, List.map_cons, List.isChain_cons_cons, Option.all_some,
      decide_eq_true_eq]

theorem rising_iff {before : Option Nat} {xs : List Item} :
    rising before xs = true ↔ List.Pairwise (· < ·) (before.toList ++ xs.map (·.pos)) := by
  cases before with
  | some p => exact rising_some_iff
  | none =>
    cases xs with
    | nil => simp [rising]
    | cons x xs => simpa [rising] using rising_some_iff (p := x.pos) (xs := xs)

/-! ## The records appended -/

/-- The records that items declare, appended to a chain in item order (R77). -/
def declaredRecords (k : Slot) : List FrameRecord → Nat → List Item → List FrameRecord
  | _, _, [] => []
  | chain, count, x :: xs =>
    let r := newRecord k chain count x.pos x.cls .declared x.setpoint
    r :: declaredRecords k (chain ++ [r]) (count + 1) xs

theorem declaredRecords_length (k : Slot) (chain : List FrameRecord) (count : Nat) (xs : List Item) :
    (declaredRecords k chain count xs).length = xs.length := by
  induction xs generalizing chain count with
  | nil => rfl
  | cons x xs ih => rw [declaredRecords, List.length_cons, List.length_cons, ih]

/-- Each declared record is numbered and placed in the hierarchy after those before it (R65, R67). -/
theorem declaredRecords_getElem (k : Slot) (chain : List FrameRecord) (count : Nat) (xs : List Item) (i : Nat)
    (h : i < (declaredRecords k chain count xs).length) (h' : i < xs.length) : (declaredRecords k chain count xs)[i] =
      newRecord k (chain ++ (declaredRecords k chain count xs).take i) (count + i) xs[i].pos xs[i].cls .declared
        xs[i].setpoint := by
  induction xs generalizing chain count i with
  | nil => cases h'
  | cons x xs ih =>
    cases i with
    | zero => simp [declaredRecords]
    | succ i =>
      simp only [declaredRecords, List.getElem_cons_succ, List.take_succ_cons]
      rw [ih _ _ _ (by simpa [declaredRecords] using h) (by simpa using h'), List.append_assoc]
      congr 1
      omega

theorem append_eq (s : State) (k : Slot) (p : Nat) (c : MarkClass) (cond : Condition) (setpoint : Option Nat) :
    s.append k p c cond setpoint = { s with
      chains := s.chains.set k (s.chain k ++ [newRecord k (s.chain k) (s.entry k).frameCount p c cond setpoint])
      entries := s.entries.set k { s.entry k with frameCount := (s.entry k).frameCount + 1 }
      freeCount := s.freeCount - 1 } := rfl

theorem appendItems_eq (s : State) (k : Slot) (xs : List Item) : s.appendItems k xs = { s with
    chains := s.chains.set k (s.chain k ++ declaredRecords k (s.chain k) (s.entry k).frameCount xs)
    entries := s.entries.set k { s.entry k with frameCount := (s.entry k).frameCount + xs.length }
    freeCount := s.freeCount - xs.length } := by
  induction xs generalizing s with
  | nil =>
    have hentries : s.entries.set k { s.entry k with frameCount := (s.entry k).frameCount + 0 } = s.entries :=
      Vector.set_getElem_self ..
    have hchains : s.chains.set k (s.chain k ++ []) = s.chains := by simp [State.chain]
    simp only [declaredRecords, List.length_nil, hentries, hchains]
    rfl
  | cons x xs ih =>
    have hcons : s.appendItems k (x :: xs) = (s.append k x.pos x.cls .declared x.setpoint).appendItems k xs := rfl
    rw [hcons, ih, append_eq]
    simp [State.chain, State.entry, declaredRecords, Nat.sub_sub, Nat.add_assoc, Nat.add_comm 1]

/-! ## The request -/

section
variable {s : State} {slot : Byte} {k : Slot} {first : Half} {count : Byte} {items : List DeclItem} {xs : List Item}

theorem declareFrames_of_no_slot (h : 16 ≤ slot.toNat) :
    s.declareFrames slot first count items = s.refuse .badArgument := by
  rw [State.declareFrames, slotOf_of_ge h]

theorem declareFrames_of_bad_items (h : itemsOf items = none) :
    s.declareFrames slot first count items = s.refuse .badArgument := by
  rw [State.declareFrames, h]
  cases slotOf slot <;> rfl

/-- The records declared, and the extent after them (R77, R40). -/
def framesDeclared (s : State) (k : Slot) (xs : List Item) : State :=
  let new := declaredRecords k (s.chain k) (s.entry k).frameCount xs
  { s with
    chains := s.chains.set k (s.chain k ++ new)
    entries := s.entries.set k { s.entry k with
      frameCount := (s.entry k).frameCount + xs.length
      extent := max (s.entry k).extent (((s.chain k ++ new).getLast?.map (·.position)).getD 0) }
    freeCount := s.freeCount - xs.length }

/-- The checks of R76 in their order. -/
theorem declareFrames_of_items (hk : slot.toNat = k.val) (h : itemsOf items = some xs) :
    s.declareFrames slot first count items =
      if count.toNat = 0 ∨ count.toNat > 16 then s.refuse .badArgument
      else if (s.entry k).state ≠ .listed ∨ (s.entry k).releasePending then s.refuse .state
      else if first.toNat ≠ (s.entry k).frameCount + 1 then s.refuse .badArgument
      else if rising (s.lastPosition k) xs = false then s.refuse .badArgument
      else if s.freeCount < xs.length then s.refuse .full
      else (framesDeclared s k xs).answer (num16 ((s.entry k).frameCount + xs.length)) := by
  rw [State.declareFrames, slotOf_of_toNat_eq hk, h]
  simp only [appendItems_eq]
  simp [framesDeclared, State.entry, State.chain, State.setEntry, State.lastPosition]

end

theorem count_of_wf {slot : Byte} {first : Half} {items : List DeclItem} (h : (Instr.declareFrames slot first items).wf = true) :
    (num8 items.length).toNat = items.length := by
  have hsize := Laws.Wellformed.length_le items
  simp only [Instr.wf, itemsWf, Bool.and_eq_true, decide_eq_true_eq] at h
  simp only [num8, BitVec.toNat_ofNat]
  omega

/-- Settles O23: the checks of R76 in their order, and the appended records by `appendItems_eq`. -/
theorem declareFramesAppends : Obligations.DeclareFramesAppends := by
  have replies {s t : State} {slot : Byte} {first : Half} {items : List DeclItem} {c : ResultCode} {data : List Byte}
      (hidle : linkIdle s = true) (hwf : (Instr.declareFrames slot first items).wf = true)
      (h : s.declareFrames slot first (num8 items.length) items = ⟨t, c, data⟩) :
      exec (.declareFrames slot first items) s =
        .next (answered t (.declareFrames slot first (BitVec.ofNat 8 items.length) items) c data) := by
    have hcount := count_of_wf hwf
    refine receiveRequest_of_carryOut (.declareFrames slot first (num8 items.length) items) hidle ?_ ?_ h
    · simp only [Request.wf, hcount, beq_self_eq_true, Bool.true_and]
      exact hwf
    · simp only [Instr.wf, itemsWf, Bool.and_eq_true, decide_eq_true_eq] at hwf
      have hbytes := Laws.Wellformed.items_length items
      refine Nat.ble_eq_true_of_le ?_
      simp [Request.body, Request.arguments, bytes16, hbytes]
      omega
  refine ⟨fun s slot first items hidle hwf h => replies hidle hwf (declareFrames_of_no_slot h),
    fun s slot k first items hidle hwf hk => ?_⟩
  intro r refused e listed
  have refuses {c : ResultCode} (h : s.declareFrames slot first (num8 items.length) items = s.refuse c) : refused c :=
    replies hidle hwf h
  have hcount := count_of_wf hwf
  refine ⟨fun h => refuses ?_, fun xs hxs h1 h16 => ?_⟩
  · cases hxs : itemsOf items with
    | none => exact declareFrames_of_bad_items hxs
    | some xs =>
      rw [declareFrames_of_items hk hxs]
      refine if_pos ?_
      rw [hcount]
      rcases h with h | h | h
      · rw [hxs] at h
        cases h
      · exact .inl h
      · exact .inr h
  intro rises
  have checked := declareFrames_of_items (s := s) (first := first) (count := num8 items.length) hk hxs
  rw [if_neg (by rw [hcount]; omega), itemsOf_length hxs] at checked
  have isListed (h : listed) : ¬ (e.state ≠ .listed ∨ e.releasePending = true) := by simp [h.1, h.2]
  have notRising (h : ¬ rises) : rising (s.lastPosition k) xs = false := Bool.eq_false_iff.mpr (mt rising_iff.mp h)
  have isRising (h : rises) : ¬ rising (s.lastPosition k) xs = false := by simp [rising_iff.mpr h]
  refine ⟨fun hl => refuses ?_, fun hl hf => refuses ?_, fun hl hf hr => refuses ?_, fun hl hf hr hfull => refuses ?_,
    fun hl hf hr hroom => ?_⟩
  · have hnot : e.state ≠ .listed ∨ e.releasePending = true := by
      by_contra h
      push Not at h
      exact hl ⟨h.1, by simpa using h.2⟩
    rw [checked, if_pos hnot]
  · rw [checked, if_neg (isListed hl), if_pos hf]
  · rw [checked, if_neg (isListed hl), if_neg (not_not.mpr hf), if_pos (notRising hr)]
  · rw [checked, if_neg (isListed hl), if_neg (not_not.mpr hf), if_neg (isRising hr), if_pos hfull]
  · have hlen := itemsOf_length hxs
    refine ⟨declaredRecords k (s.chain k) e.frameCount xs, (declaredRecords_length ..).trans hlen, fun i hi hi' => ?_, ?_⟩
    · rw [declaredRecords_getElem k (s.chain k) e.frameCount xs i hi hi']
      simp only [newRecord]
      congr 1
      omega
    · refine replies hidle hwf ?_
      rw [checked, if_neg (isListed hl), if_neg (not_not.mpr hf), if_neg (isRising hr), if_neg (not_lt.mpr hroom)]
      simp only [framesDeclared, hlen]
      rfl

end Sys2Proof.Machine
end

section
/-! PROOFS. The final transition of a ticket (R134 to R136, R54, R55), and a halt or a removal at the scheduler (R23, R164). -/

namespace Sys2Proof.Machine

/-! ## The final transition -/

/-- A ticket ended and taken from the list (R135, steps 1 and 2). -/
def ticketEnded (s : State) (t : TicketNo) (o : TicketOutcome) : State :=
  { s with tickets := s.tickets.set t ((s.ticket t).finish o), admission := s.admission.filter (· ≠ t) }

/-- The deck at which a ticket was active left without an active ticket (R135, step 4). -/
def leftIdle (s : State) (d : Option DeckId) : State :=
  match d with
  | some d => s.setSched d (s.sched d).idle
  | none => s

section
variable {s : State} {t : TicketNo} {o : TicketOutcome} {k : Slot} {d : DeckId}

theorem finalize_of_not_live (h : (s.ticket t).state.isLive = false) : s.finalize t o = s := if_neg (by simp [h])

theorem uncount_of_kept (h : (s.entry k).releasePending = false ∨ 1 < (s.entry k).ticketCount) :
    s.uncount k = s.setEntry k { s.entry k with ticketCount := (s.entry k).ticketCount - 1 } := by
  refine if_neg ?_
  rintro ⟨h1, h2⟩
  dsimp only at h1 h2
  rcases h with h | h
  · exact absurd (h1.symm.trans h) (by decide)
  · omega

theorem uncount_of_freed (h1 : (s.entry k).releasePending = true) (h2 : (s.entry k).ticketCount = 1) : s.uncount k = { s with
    entries := s.entries.set k Entry.free
    chains := s.chains.set k []
    freeCount := s.freeCount + (s.entry k).frameCount } := by
  refine (if_pos ⟨h1, by dsimp only; omega⟩).trans ?_
  rw [State.freeEntry, State.entry_setEntry_self]
  simp [State.setEntry, State.setChain]

/-- What the count of an entry's tickets touches (R135, step 3). -/
theorem uncount_shape (s : State) (k : Slot) : ∃ es cs fc, s.uncount k =
    { s with entries := es, chains := cs, freeCount := fc } := by
  unfold State.uncount
  dsimp only
  split <;> exact ⟨_, _, _, rfl⟩

theorem activeAt_congr {s' : State} (h : s'.scheds = s.scheds) (t : TicketNo) : s'.activeAt t = s.activeAt t := by
  unfold State.activeAt State.sched
  rw [h]

theorem activeAt_uncount (s : State) (k : Slot) (t : TicketNo) : (s.uncount k).activeAt t = s.activeAt t := by
  obtain ⟨es, cs, fc, h⟩ := uncount_shape s k
  rw [h]
  rfl

/-- The final transition of a live ticket that names entry `k`, in the order of R135. -/
theorem finalize_of_slot (hlive : (s.ticket t).state.isLive = true) (hk : (s.ticket t).slot = some k) :
    s.finalize t o = leftIdle ((ticketEnded s t o).uncount k) (s.activeAt t) := by
  simp only [State.finalize, hlive, hk, if_true]
  have hactive : ((ticketEnded s t o).uncount k).activeAt t = s.activeAt t := activeAt_uncount _ _ _
  change (match ((ticketEnded s t o).uncount k).activeAt t with
    | some d => ((ticketEnded s t o).uncount k).setSched d (((ticketEnded s t o).uncount k).sched d).idle
    | none => (ticketEnded s t o).uncount k) = _
  rw [hactive]
  rfl

theorem finalize_of_no_slot (hlive : (s.ticket t).state.isLive = true) (hk : (s.ticket t).slot = none) :
    s.finalize t o = leftIdle (ticketEnded s t o) (s.activeAt t) := by
  simp only [State.finalize, hlive, hk, if_true]
  rfl

/-- What a final transition of a ticket that is active nowhere touches. -/
theorem finalize_shape_of_inactive (hlive : (s.ticket t).state.isLive = true) (hactive : s.activeAt t = none) :
    ∃ es cs fc, s.finalize t o = { ticketEnded s t o with entries := es, chains := cs, freeCount := fc } := by
  cases hk : (s.ticket t).slot with
  | none => exact ⟨_, _, _, (finalize_of_no_slot hlive hk).trans (by rw [hactive]; rfl)⟩
  | some k =>
    obtain ⟨es, cs, fc, h⟩ := uncount_shape (ticketEnded s t o) k
    exact ⟨es, cs, fc, (finalize_of_slot hlive hk).trans (by rw [hactive, h]; rfl)⟩

theorem outcome_state_eq (o : TicketOutcome) : o.state = match o with
    | .completed => .done
    | .cancelled => .cancelled
    | _ => .failed := by
  cases o <;> rfl

/-! ## A halt or a removal -/

theorem deckFailed_of_free {h : HeldOutcome} (ht : (s.sched d).active = some t) (ho : s.orderFor d = false)
    (hc : (s.ticket t).cancelPending = false) :
    s.deckFailed d h = s.finalize t (if h = .halted then .halted else .removed) := by
  simp only [State.deckFailed, ht, ho, hc, Bool.false_eq_true, if_false]
  cases h <;> rfl

theorem deckFailed_of_cancel {h : HeldOutcome} (ht : (s.sched d).active = some t) (ho : s.orderFor d = false)
    (hc : (s.ticket t).cancelPending = true) : s.deckFailed d h = s.finalize t .cancelled := by
  simp only [State.deckFailed, ht, ho, hc, Bool.false_eq_true, if_false, if_true]

theorem deckFailed_in_order {h : HeldOutcome} (ht : (s.sched d).active = some t) (ho : s.orderFor d = true) :
    s.deckFailed d h = if (s.ticket t).cancelPending = true ∨ (s.sched d).held.isSome = true then s
      else s.modSched d fun c => { c with held := some h } := by
  simp only [State.deckFailed, ht, ho, if_true]

end

/-- Settles O30: the final transition by what `State.uncount` makes of the entry, and the cases of `State.deckFailed`. -/
theorem finalTransitionAndDeckFailure : Obligations.FinalTransitionAndDeckFailure := by
  refine ⟨fun s t o k => ?final, fun s d t h ht => ?failure⟩
  case final =>
    intro x e st u idle
    have hst : o.state = st := outcome_state_eq o
    have hended : ticketEnded s t o = { u with entries := s.entries } := by
      simp only [ticketEnded, Ticket.finish, hst]
      rfl
    refine ⟨finalize_of_not_live, fun hlive hk hkept => ?_, fun hlive hk hp hc => ?_⟩
    · have heq : (ticketEnded s t o).uncount k = u := by
        rw [hended, uncount_of_kept (by exact hkept)]
        rfl
      rw [finalize_of_slot hlive hk, heq]
      exact ⟨fun h => by rw [h]; rfl, fun d h => by rw [h]; rfl⟩
    · intro freed
      have heq : (ticketEnded s t o).uncount k = freed := by
        rw [hended, uncount_of_freed (by exact hp) (by exact hc)]
        rfl
      rw [finalize_of_slot hlive hk, heq]
      exact ⟨fun h => by rw [h]; rfl, fun d h => by rw [h]; rfl⟩
  case failure =>
    refine ⟨deckFailed_of_free ht, deckFailed_of_cancel ht, fun ho hc hheld => ?_, fun ho h => ?_⟩
    · rw [deckFailed_in_order ht ho, if_neg (by simp [hc, hheld])]
      rfl
    · rw [deckFailed_in_order ht ho]
      exact if_pos (h.imp_right Option.isSome_iff_ne_none.mpr)

end Sys2Proof.Machine
end

section
/-! PROOFS. CANCEL (R137 to R141): what a cancel makes of the ticket's stage, and of a sweep of it (R98, R139, R140). -/

namespace Sys2Proof.Machine

/-! ## What the arbiter leaves of the scheduler's work -/

/-- A deck's share of the scheduler after the arbiter has acted: the same but for a track sweep that was not running (R102). -/
def SameStage (c c' : Sched) : Prop :=
  c' = { c with track := c'.track } ∧ (c.track.any (·.running) = true → c'.track = c.track)

theorem SameStage.trans {c c' c'' : Sched} (h : SameStage c c') (h' : SameStage c' c'') : SameStage c c'' := by
  obtain ⟨h1, h2⟩ := h
  obtain ⟨h1', h2'⟩ := h'
  refine ⟨?_, fun hr => ?_⟩
  · rw [h1', h1]
  · have hsame := h2 hr
    rw [h2' (by rw [hsame]; exact hr), hsame]

/-- The tickets are the same, and each deck's stage is. -/
structure KeepsStages (s t : State) : Prop where
  tickets : t.tickets = s.tickets
  stage (d : DeckId) : SameStage (s.sched d) (t.sched d)

theorem KeepsStages.of_eq {s t : State} (h1 : t.tickets = s.tickets) (h2 : t.scheds = s.scheds) : KeepsStages s t where
  tickets := h1
  stage d := by
    have h : t.sched d = s.sched d := congrArg (fun p => Pair.get p d) h2
    rw [h]
    exact ⟨rfl, fun _ => rfl⟩

theorem KeepsStages.trans {s t u : State} (h : KeepsStages s t) (h' : KeepsStages t u) : KeepsStages s u :=
  ⟨h'.tickets.trans h.tickets, fun d => (h.stage d).trans (h'.stage d)⟩

theorem KeepsStages.after {s s' t : State} (h : KeepsStages s' t) (h1 : s'.tickets = s.tickets) (h2 : s'.scheds = s.scheds) :
    KeepsStages s t := (KeepsStages.of_eq h1 h2).trans h

theorem KeepsStages.grant (s : State) (d : DeckId) : KeepsStages s (s.grant d) := by
  unfold State.grant
  dsimp only
  split
  · rename_i tr htr
    have htr : (s.sched d.other).track = some tr := htr
    split
    · exact .of_eq rfl rfl
    · rename_i hrun
      have hdropped : SameStage (s.sched d.other) { s.sched d.other with track := none } :=
        ⟨rfl, fun h => absurd (by simpa [htr] using h) hrun⟩
      refine ⟨rfl, fun e => ?_⟩
      change SameStage (s.sched e) ((s.setSched d.other { s.sched d.other with track := none }).sched e)
      rw [State.sched_setSched]
      split
      · rename_i he
        rw [he]
        exact hdropped
      · exact ⟨rfl, fun _ => rfl⟩
  · exact .of_eq rfl rfl

theorem KeepsStages.apply (s : State) (x : Decision) : KeepsStages s (s.apply x) := by
  cases x with
  | grant d => exact .grant s d
  | want | clear | keep => exact .of_eq rfl rfl

theorem KeepsStages.arbitrate (n : Nat) (limited : Option DeckId) (s : State) : KeepsStages s (State.arbitrate n limited s) := by
  induction n generalizing limited s with
  | zero => exact .of_eq rfl rfl
  | succ n ih =>
    have happly := KeepsStages.apply s (s.opa.decide limited)
    unfold State.arbitrate
    dsimp only
    split
    · exact .of_eq rfl rfl
    · split
      · split
        · have hmove (g : DeckId) : KeepsStages (s.apply (s.opa.decide limited))
              ((s.apply (s.opa.decide limited)).beginMove g) := .of_eq rfl rfl
          split
          · exact happly.trans ((ih _ _).after rfl rfl)
          · exact happly.trans (hmove _)
        · exact happly
      · exact happly

theorem KeepsStages.releaseTenure (s : State) (limited : Option DeckId) : KeepsStages s (s.releaseTenure limited) := by
  unfold State.releaseTenure State.arbitrateNow
  exact (KeepsStages.arbitrate _ _ _).after rfl rfl

theorem KeepsStages.decideTenure (s : State) (d : DeckId) : KeepsStages s (s.decideTenure d) := by
  unfold State.decideTenure
  split
  · exact .releaseTenure s _
  · split
    · split
      · exact .releaseTenure s _
      · exact .of_eq rfl rfl
    · exact .releaseTenure s _

theorem KeepsStages.jobEnd (s : State) (d : DeckId) : KeepsStages s (s.jobEnd d) := by
  unfold State.jobEnd
  split
  · exact (KeepsStages.decideTenure _ d).after rfl rfl
  · exact .of_eq rfl rfl

/-! ## A sweep aborted by its ticket's cancel -/

section
variable {s : State} {d : DeckId} {t : TicketNo} {w : Sweep}

theorem abortSweep_at_once (hw : s.fseq.sweep = some w) (hd : w.deck = d)
    (hp : w.phase = .lens ∨ ∃ pos timer, w.phase = .settle pos timer) (cause : AbortCause) :
    s.abortSweep d cause = ((s.setSweep none).jobEnd d, some ⟨d, w.track, .aborted cause⟩) := by
  subst hd
  rcases hp with hp | ⟨pos, timer, hp⟩ <;> simp [State.abortSweep, hw, hp, State.endAbort]

theorem abortSweep_in_order {pos : Nat} (hw : s.fseq.sweep = some w) (hd : w.deck = d) (hp : w.phase = .order pos)
    (cause : AbortCause) : s.abortSweep d cause = (s.setSweep (some { w with phase := .aborting cause }), none) := by
  simp [State.abortSweep, hw, hd, hp]

theorem endTicket_of_cancel {o : TicketOutcome} (hh : (s.sched d).held = none) (hc : (s.ticket t).cancelPending = true) :
    s.endTicket d t o = s.finalize t .cancelled := by
  simp only [State.endTicket, hh, hc, if_true]

/-- The sweep of a ticket with a cancel pending is aborted by it in LENS or SETTLE, and the ticket ends (R98, R139, R140). -/
theorem cancelSweep_at_once (hw : s.fseq.sweep = some w) (hd : w.deck = d)
    (hp : w.phase = .lens ∨ ∃ pos timer, w.phase = .settle pos timer) (ht : (s.sched d).active = some t)
    (hh : (s.sched d).held = none) (hc : (s.ticket t).cancelPending = true)
    (hstage : if w.track then (s.sched d).track.any (·.running) = true else (s.sched d).step = some .sweep) :
    s.cancelSweep d = ((s.setSweep none).jobEnd d).finalize t .cancelled := by
  obtain ⟨htickets, hsched⟩ := KeepsStages.jobEnd (s.setSweep none) d
  have hsame : ((s.setSweep none).jobEnd d).sched d =
      { s.sched d with track := (((s.setSweep none).jobEnd d).sched d).track } := (hsched d).1
  have htrack : (s.sched d).track.any (·.running) = true →
      (((s.setSweep none).jobEnd d).sched d).track = (s.sched d).track := (hsched d).2
  have hticket : ((s.setSweep none).jobEnd d).ticket t = s.ticket t := by simp only [State.ticket, htickets]; rfl
  have hends : ((s.setSweep none).jobEnd d).endTicket d t .cancelled =
      ((s.setSweep none).jobEnd d).finalize t .cancelled :=
    endTicket_of_cancel (by rw [hsame]; exact hh) (by rw [hticket]; exact hc)
  have hactive : (((s.setSweep none).jobEnd d).sched d).active = some t := by rw [hsame]; exact ht
  rw [State.cancelSweep, abortSweep_at_once hw hd hp, State.sweepReport?]
  simp only [State.sweepReported, hactive]
  cases htr : w.track with
  | true =>
    rw [htr, if_pos rfl] at hstage
    rw [if_pos rfl, if_pos (by rw [htrack hstage]; exact hstage), State.trackEnded,
        if_pos (.inr (by rw [hticket]; exact hc)), hends]
  | false =>
    rw [htr, if_neg (by decide)] at hstage
    rw [if_neg (by decide), if_pos (by rw [hsame]; exact hstage), State.sweepFinished]
    exact hends

theorem cancelSweep_in_order {pos : Nat} (hw : s.fseq.sweep = some w) (hd : w.deck = d) (hp : w.phase = .order pos) :
    s.cancelSweep d = s.setSweep (some { w with phase := .aborting .cancel }) := by
  rw [State.cancelSweep, abortSweep_in_order hw hd hp, State.sweepReport?]

/-! ## The stop of a cancelled ticket -/

theorem cancelMotion_of_ready (h : (s.deck d).state = .ready) : s.cancelMotion d t = s.finalize t .cancelled := if_pos h

theorem cancelMotion_of_motion
    (h : (s.deck d).state = .shuttling ∨ (s.deck d).state = .indexing ∨ (s.deck d).state = .searching) :
    s.cancelMotion d t =
      if (s.deck d).motion = .deferred then (stoppedAs s d).finalize t .cancelled else stoppedAs s d := by
  have hready : (s.deck d).state ≠ .ready := by rcases h with h | h | h <;> simp [h]
  simp only [State.cancelMotion, if_neg hready, stop_eq]
  rcases h with h | h | h <;> simp [stoppedWhereMoving, h]

/-! ## The request -/

theorem activeAt_eq_some (h : s.activeAt t = some d) : (s.sched d).active = some t := by
  unfold State.activeAt at h
  split at h
  · rename_i ha
    cases h
    exact ha
  · split at h
    · rename_i hb
      cases h
      exact hb
    · cases h

theorem cancelTicket_of_ticket {b : Byte} (h : b.toNat = t.val) : s.cancelTicket b =
    if (s.ticket t).state.isLive then ((s.takeCancel t).settle).answer [] else s.refuse .state := by
  simp only [State.cancelTicket, ticketOf_of_toNat_eq h]

theorem cancelTicket_of_ge {b : Byte} (h : 16 ≤ b.toNat) : s.cancelTicket b = s.refuse .badArgument := by
  simp only [State.cancelTicket, ticketOf_of_ge h]

theorem takeCancel_of_waiting (h : (s.ticket t).state = .awaitRoll ∨ (s.ticket t).state = .queued) :
    s.takeCancel t = s.finalize t .cancelled := if_pos h

theorem takeCancel_of_pending (h1 : (s.ticket t).state ≠ .awaitRoll) (h2 : (s.ticket t).state ≠ .queued)
    (hc : (s.ticket t).cancelPending = true) : s.takeCancel t = s :=
  (if_neg (not_or.mpr ⟨h1, h2⟩)).trans (if_pos hc)

/-- The ticket with its cancel set pending (R137). -/
def cancelSet (s : State) (t : TicketNo) : State :=
  { s with tickets := s.tickets.set t { s.ticket t with cancelPending := true } }

theorem ticket_cancelSet (s : State) (t : TicketNo) :
    (cancelSet s t).ticket t = { s.ticket t with cancelPending := true } := by simp [cancelSet, State.ticket]

theorem takeCancel_of_active (h1 : (s.ticket t).state ≠ .awaitRoll) (h2 : (s.ticket t).state ≠ .queued)
    (hc : (s.ticket t).cancelPending = false) (hd : s.activeAt t = some d) : s.takeCancel t =
      if (s.sched d).held.isSome then cancelSet s t else (cancelSet s t).cancelActive d t := by
  have hactive : (cancelSet s t).activeAt t = some d := hd
  refine (if_neg (not_or.mpr ⟨h1, h2⟩)).trans ((if_neg (by simp [hc])).trans ?_)
  change (match (cancelSet s t).activeAt t with
    | none => cancelSet s t
    | some d => if ((cancelSet s t).sched d).held.isSome then cancelSet s t else (cancelSet s t).cancelActive d t) = _
  rw [hactive]
  rfl

/-- The scheduler stays idle when a ticket that waits for a roll is cancelled. -/
theorem schedIdle_finalize (hidle : schedIdle s = true) (h : (s.ticket t).state = .awaitRoll) :
    schedIdle (s.finalize t .cancelled) = true := by
  obtain ⟨hs, hr, hq⟩ := schedIdle_iff.1 hidle
  have hactive : s.activeAt t = none := by simp [State.activeAt, sched_of_idle hidle, Sched.reset]
  obtain ⟨es, cs, fc, heq⟩ := finalize_shape_of_inactive (o := .cancelled) (by rw [h]; rfl) hactive
  rw [heq]
  refine schedIdle_iff.2 ⟨hs, hr, fun n => ?_⟩
  have hset : (ticketEnded s t .cancelled).ticket n =
      if n = t then (s.ticket t).finish .cancelled else s.ticket n := State.ticket_setTicket ..
  change ((ticketEnded s t .cancelled).ticket n).state ≠ .queued
  rw [hset]
  split
  · exact (by decide : TicketState.cancelled ≠ .queued)
  · exact hq n

end

/-- Settles O28: the ticket's state decides among `takeCancel_of_waiting`, `takeCancel_of_pending` and `takeCancel_of_active`,
and its stage what becomes of a motion or a sweep. -/
theorem cancelTaken : Obligations.CancelTaken := by
  intro s b hidle does
  have replies {u : State} {c : ResultCode} (h : s.cancelTicket b = ⟨u, c, []⟩) : does u c :=
    receiveRequest_of_carryOut (.cancel b) hidle rfl rfl h
  refine ⟨fun h => replies (cancelTicket_of_ge h), fun t ht => ?_⟩
  intro x
  have takes {u : State} (hlive : x.state.isLive = true) (h : s.takeCancel t = u) : does u.settle .ok := by
    refine replies ?_
    rw [cancelTicket_of_ticket ht, if_pos hlive, h]
    rfl
  have liveOf (h : x.state = .awaitRoll ∨ x.state = .queued) : x.state.isLive = true := by
    rcases h with h | h <;> rw [h] <;> rfl
  refine ⟨fun h => replies ?_, fun h => takes (liveOf h) (takeCancel_of_waiting h), fun h hsched => ?_,
    fun hlive h1 h2 hc => takes hlive (takeCancel_of_pending h1 h2 hc), fun d hd hc => ?_⟩
  · rw [cancelTicket_of_ticket ht, if_neg (by simp [show (s.ticket t).state.isLive = false from h])]
    rfl
  · have hdone := takes (liveOf (.inl h)) (takeCancel_of_waiting (.inl h))
    rwa [settle_of_idle (schedIdle_finalize hsched h)] at hdone
  intro p c ends moves stops sweepEnds
  have hactive : (p.sched d).active = some t := activeAt_eq_some hd
  have hticket : p.ticket t = { x with cancelPending := true } := ticket_cancelSet s t
  have hpending : (p.ticket t).cancelPending = true := by rw [hticket]
  have hstate : (p.ticket t).state = x.state := by rw [hticket]
  refine ⟨fun hlive h1 h2 hheld => takes hlive ?_, fun hheld => ?_⟩
  · rw [takeCancel_of_active h1 h2 hc hd, if_pos (Option.isSome_iff_ne_none.mpr hheld)]
    rfl
  have acts {u : State} (hs : x.state = .moving ∨ x.state = .searching ∨ x.state = .indexing ∨ x.state = .focusing ∨
      x.state = .exposing) (h : p.cancelActive d t = u) : does u.settle .ok := by
    have hlive : x.state.isLive = true := by rcases hs with h | h | h | h | h <;> rw [h] <;> rfl
    have hnot : x.state ≠ .awaitRoll ∧ x.state ≠ .queued := by rcases hs with h | h | h | h | h <;> rw [h] <;> decide
    refine takes hlive ?_
    rw [takeCancel_of_active hnot.1 hnot.2 hc hd, if_neg (by simp [show (s.sched d).held = none from hheld])]
    exact h
  have stopped {u : State} (hu : u.decks = s.decks) (hdoes : ∀ v, u.cancelMotion d t = v → does v.settle .ok) : stops u := by
    have hdeck : u.deck d = s.deck d := congrArg (fun q => Pair.get q d) hu
    refine ⟨fun hr => hdoes _ (cancelMotion_of_ready (by rw [hdeck]; exact hr)), fun hm hdef => hdoes _ ?_,
        fun hm hdef => hdoes _ ?_⟩
    · rw [cancelMotion_of_motion (by rw [hdeck]; exact hm), hdeck, if_pos hdef]
    · rw [cancelMotion_of_motion (by rw [hdeck]; exact hm), hdeck, if_neg hdef]
  have swept {track : Bool} (hstage : if track then c.track.any (·.running) = true else c.step = some .sweep)
      (hdoes : ∀ v, p.cancelSweep d = v → does v.settle .ok) : sweepEnds track := by
    intro w hw hdeck htrack
    refine ⟨fun hp => hdoes _ ?_, fun pos hp => hdoes _ (cancelSweep_in_order (s := p) hw hdeck hp)⟩
    exact cancelSweep_at_once (s := p) hw hdeck hp hactive hheld hpending (by rw [htrack]; exact hstage)
  refine ⟨fun hs => stopped rfl fun v hv => acts (hs.elim .inl (.inr ∘ .inl)) ?_,
    fun hs htr => stopped rfl fun v hv => acts (.inr (.inr (.inl hs))) ?_,
    fun hs htr => swept htr fun v hv => acts (.inr (.inr (.inl hs))) ?_,
    fun hs hstep => swept hstep fun v hv => acts (.inr (.inr (.inr (.inl hs)))) ?_,
    fun hs hstep => acts (.inr (.inr (.inr (.inl hs)))) ?_,
    fun hs hstep => acts (.inr (.inr (.inr (.inr hs)))) ?_,
    fun hs hstep => acts (.inr (.inr (.inr (.inr hs)))) ?_⟩
  · rcases hs with hs | hs <;> simp only [State.cancelActive, hstate, hs] <;> exact hv
  · have hnot : ¬ (p.sched d).track.any (·.running) = true := by
      have htr' : c.track.all (fun tr => !tr.running) = true := htr
      change ¬ c.track.any (·.running) = true
      cases h : c.track <;> simp_all
    simp only [State.cancelActive, hstate, hs, if_neg hnot]
    exact hv
  · simp only [State.cancelActive, hstate, hs]
    exact (if_pos (by exact htr)).trans hv
  · simp only [State.cancelActive, hstate, hs]
    exact (if_pos (by exact hstep)).trans hv
  · simp only [State.cancelActive, hstate, hs]
    exact if_neg (by exact hstep)
  · simp only [State.cancelActive, hstate, hs]
    exact if_neg (by exact hstep)
  · simp only [State.cancelActive, hstate, hs]
    exact if_pos (by exact hstep)

end Sys2Proof.Machine
end

section
/-! PROOFS. Selection, redirect and the beginning of work (R148, R149, R154, R155, R157), and the INDEXING stage up to its index
run (R150, R152). -/

namespace Sys2Proof.Machine

/-! ## Selection -/

section
variable {s : State} {d : DeckId} {t a : TicketNo} {k : Slot} {frame : Nat} {r : FrameRecord}

/-- The first of the highest priority in a list of tickets: those before it have less, those after it no more. -/
def BestOf (s : State) (l : List TicketNo) (t : TicketNo) : Prop :=
  ∃ before after, l = before ++ t :: after ∧ (∀ u ∈ before, (s.ticket u).priority < (s.ticket t).priority) ∧
    ∀ u ∈ after, (s.ticket u).priority ≤ (s.ticket t).priority

theorem bestOf_foldl {l : List TicketNo} {b : TicketNo} (h : l.foldl s.betterTicket (some b) = some t) :
    BestOf s (b :: l) t := by
  induction l generalizing b with
  | nil =>
    cases h
    exact ⟨[], [], rfl, by simp, by simp⟩
  | cons c l ih =>
    rw [List.foldl_cons, State.betterTicket] at h
    split at h
    · rename_i hlt
      obtain ⟨before, after, hl, hbefore, hafter⟩ := ih h
      refine ⟨b :: before, after, by rw [hl, List.cons_append], fun u hu => ?_, hafter⟩
      rcases List.mem_cons.mp hu with rfl | hu
      · cases before with
        | nil =>
          cases hl
          exact hlt
        | cons x before =>
          cases hl
          exact hlt.trans (hbefore c List.mem_cons_self)
      · exact hbefore u hu
    · rename_i hle
      obtain ⟨before, after, hl, hbefore, hafter⟩ := ih h
      cases before with
      | nil =>
        cases hl
        exact ⟨[], c :: l, rfl, by simp, fun u hu => (List.mem_cons.mp hu).elim (fun h => h ▸ not_lt.mp hle) (hafter u)⟩
      | cons x before =>
        cases hl
        have hb := hbefore b List.mem_cons_self
        refine ⟨b :: c :: before, after, rfl, fun u hu => ?_, hafter⟩
        rcases List.mem_cons.mp hu with rfl | hu
        · exact hb
        · rcases List.mem_cons.mp hu with rfl | hu
          · exact (not_lt.mp hle).trans_lt hb
          · exact hbefore u (List.mem_cons_of_mem _ hu)

theorem bestOf_choose (h : s.choose k = some t) :
    BestOf s (s.admission.filter fun u => (s.ticket u).state == .queued && (s.ticket u).slot == some k) t := by
  unfold State.choose at h
  generalize s.admission.filter _ = l at h
  cases l with
  | nil => cases h
  | cons b l => exact bestOf_foldl h

/-- A list that filters to a part before an element and one from it on, cut at that element. -/
theorem filter_cut {p : TicketNo → Bool} {l before after : List TicketNo} (h : l.filter p = before ++ t :: after) :
    p t = true ∧ ∃ l₁ l₂, l = l₁ ++ t :: l₂ ∧ l₁.filter p = before := by
  obtain ⟨x, y, rfl, hx, hy⟩ := List.filter_eq_append_iff.mp h
  obtain ⟨y₁, y₂, rfl, hy₁, ht, -⟩ := List.filter_eq_cons_iff.mp hy
  refine ⟨ht, x ++ y₁, y₂, by simp, ?_⟩
  rw [List.filter_append, hx, List.filter_eq_nil_iff.mpr hy₁, List.append_nil]

/-- The element at which a list is cut stands no later than one that is not before the cut. -/
theorem idxOf_le_of_cut {u : TicketNo} {l₁ l₂ : List TicketNo} (hu : u ∉ l₁) :
    (l₁ ++ t :: l₂).idxOf t ≤ (l₁ ++ t :: l₂).idxOf u := by
  have ht : (l₁ ++ t :: l₂).idxOf t ≤ l₁.length := by
    rw [List.idxOf_append]
    split
    · exact List.idxOf_le_length
    · simp
  have hu' : l₁.length ≤ (l₁ ++ t :: l₂).idxOf u := by
    rw [List.idxOf_append, if_neg hu]
    exact Nat.le_add_left ..
  exact ht.trans hu'

/-! ## Redirect -/

theorem mayRedirect_of_active (h : (s.sched d).active = some a) (k : Slot) (t : TicketNo) : s.mayRedirect d k t =
    if (s.ticket a).state = .moving ∧ (s.ticket a).cancelPending = false ∧ (s.sched d).held.isNone = true ∧
        (s.ticket a).priority < (s.ticket t).priority ∧ (s.ticket t).kind ≠ some .index ∧
        (s.ticket t).current.getD 0 ≤ (s.entry k).frameCount then some a else none := by
  simp only [State.mayRedirect, h]

theorem redirect_of_none (hk : (s.ticket t).slot = some k) (hd : (s.entry k).deck = some d)
    (h : s.mayRedirect d k t = none) : s.redirect t = s := by
  simp only [State.redirect, hk, hd, h]

theorem redirect_of_some (hk : (s.ticket t).slot = some k) (hd : (s.entry k).deck = some d)
    (h : s.mayRedirect d k t = some a) : s.redirect t =
      ((s.modTicket a fun x => { x with state := .queued, pathWait := false }).activate d t).enterMoving d t := by
  simp only [State.redirect, hk, hd, h]

/-- The share of the scheduler of a deck where a frame of ticket `t` starts (R148, R149). -/
def startedSched (s : State) (d : DeckId) (t : TicketNo) : Sched :=
  ⟨some t, none, none, false, false, none, (s.sched d).request, none, false, none, none⟩

theorem activate_eq (s : State) (d : DeckId) (t : TicketNo) : s.activate d t = { s with
    tickets := s.tickets.set t { s.ticket t with pathWait := false }
    scheds := s.scheds.set d (startedSched s d t) } := rfl

/-! ## MOVING -/

/-- Ticket `t` in MOVING at deck `d` before its commands (R154). -/
def movingSet (s : State) (d : DeckId) (t : TicketNo) : State := { s with
  tickets := s.tickets.set t { s.ticket t with state := .moving }
  scheds := s.scheds.set d { s.sched d with step := some .shuttle } }

theorem ticket_movingSet (s : State) (d : DeckId) (t : TicketNo) :
    (movingSet s d t).ticket t = { s.ticket t with state := .moving } := by simp [movingSet, State.ticket]

theorem sched_movingSet (s : State) (d : DeckId) (t : TicketNo) :
    (movingSet s d t).sched d = { s.sched d with step := some .shuttle } := Pair.get_set_self _ _ _

/-- The lens is given a target with the shuttle: for a FETCH or RANGE with a focus policy (R154). -/
def OpticsApply (s : State) (t : TicketNo) : Prop :=
  ((s.ticket t).kind = some .fetch ∨ (s.ticket t).kind = some .range) ∧ s.params.policy ≠ .off

theorem enterMoving_eq (hk : (s.ticket t).slot = some k) (hf : (s.ticket t).current = some frame)
    (hr : s.record k frame = some r) : s.enterMoving d t =
      (match (movingSet s d t).movingLens (s.ticket t) r with
        | some p => (movingSet s d t).schedMove d p
        | none => movingSet s d t : State).shuttleTo d t r.position frame := by
  have hr' : (movingSet s d t).record k frame = some r := hr
  change (match (s.ticket t).slot, (s.ticket t).current with
    | some k, some frame =>
      match (movingSet s d t).record k frame with
      | some r => State.shuttleTo (match (movingSet s d t).movingLens (s.ticket t) r with
          | some p => (movingSet s d t).schedMove d p
          | none => movingSet s d t) d t r.position frame
      | none => movingSet s d t
    | _, _ => movingSet s d t) = _
  rw [hk, hf]
  simp only [hr']

theorem enterMoving_without_lens (hk : (s.ticket t).slot = some k) (hf : (s.ticket t).current = some frame)
    (hr : s.record k frame = some r) (h : ¬ OpticsApply s t ∨ r.setpoint = none) :
    s.enterMoving d t = (movingSet s d t).shuttleTo d t r.position frame := by
  have hlens : (movingSet s d t).movingLens (s.ticket t) r = none := by
    unfold State.movingLens
    rcases h with h | h
    · exact if_neg h
    · split
      · exact h
      · rfl
  rw [enterMoving_eq hk hf hr, hlens]

theorem enterMoving_with_lens {p : Nat} (hk : (s.ticket t).slot = some k) (hf : (s.ticket t).current = some frame)
    (hr : s.record k frame = some r) (h : OpticsApply s t) (hp : r.setpoint = some p) :
    s.enterMoving d t = ((movingSet s d t).schedMove d p).shuttleTo d t r.position frame := by
  have hlens : (movingSet s d t).movingLens (s.ticket t) r = some p := (if_pos h).trans hp
  rw [enterMoving_eq hk hf hr, hlens]

theorem schedMove_underway {p : Nat} (h : (s.lensMove d p .scheduler).2 = none) :
    s.schedMove d p = (s.lensMove d p .scheduler).1 := by
  simp only [State.schedMove, h]

/-- A lens arrival taken at once in step SHUTTLE is noted (R154). -/
theorem schedMove_noted {p q : Nat} (h : (s.lensMove d p .scheduler).2 = some q) (ht : (s.sched d).active = some t)
    (hstep : (s.sched d).step = some .shuttle) : s.schedMove d p =
      (s.lensMove d p .scheduler).1.modSched d fun c => { c with notedLens := some q } := by
  have hsched : ((s.lensMove d p .scheduler).1).sched d = s.sched d := rfl
  simp only [State.schedMove, h, State.schedLens, hsched, ht, hstep]

/-- The shuttle of a deck under way takes the new target without coming to rest (R14, R43). -/
theorem shuttleTo_of_shuttling (h : (s.deck d).state = .shuttling) (t : TicketNo) (pos frame : Nat) :
    s.shuttleTo d t pos frame = { s with
      decks := s.decks.set d { s.deck d with target := some pos, stopping := false }
      poolDecks := s.poolDecks.set d { s.pool d with watched := some ⟨frame, (s.pool d).found == some frame⟩, found := none } } := by
  rw [shuttleTo_of_underway (by rw [shuttle_of_shuttling h]), shuttle_of_shuttling h, shuttleSet, ← h]
  rfl

/-! ## The beginning of work -/

theorem ticket_activate (s : State) (d : DeckId) (t : TicketNo) :
    (s.activate d t).ticket t = { s.ticket t with pathWait := false } := by simp [activate_eq, State.ticket]

/-- The ticket chosen with the entry's frame count as its current frame, as an INDEX starts (R149). -/
def indexStarted (s : State) (d : DeckId) (k : Slot) (t : TicketNo) : State :=
  (s.activate d t).modTicket t fun x => { x with current := some (s.entry k).frameCount }

theorem indexStarted_eq (s : State) (d : DeckId) (k : Slot) (t : TicketNo) : indexStarted s d k t = { s with
    tickets := s.tickets.set t { s.ticket t with pathWait := false, current := some (s.entry k).frameCount }
    scheds := s.scheds.set d (startedSched s d t) } := by
  simp only [indexStarted, State.modTicket, ticket_activate]
  rw [activate_eq]
  simp [State.setTicket]

theorem beginWork_of_index (hi : (s.ticket t).kind = some .index) : s.beginWork d k t =
    if ((s.ticket t).first.any fun n => decide (n ≤ (s.entry k).frameCount)) = true then
      (indexStarted s d k t).finalize t .completed
    else if (s.entry k).complete = true then
      (s.activate d t).finalize t (if (s.ticket t).first.isNone then .completed else .notFound)
    else (indexStarted s d k t).enterIndexing d t k (s.ticket t).first := by
  rw [State.beginWork]
  simp only [ticket_activate, hi, if_true]
  rfl

theorem beginWork_of_frame (hi : (s.ticket t).kind ≠ some .index) : s.beginWork d k t =
    if (s.ticket t).current.getD 0 ≤ (s.entry k).frameCount then (s.activate d t).enterMoving d t
    else if (s.entry k).complete = true then (s.activate d t).finalize t .notFound
    else (s.activate d t).enterIndexing d t k (s.ticket t).current := by
  rw [State.beginWork]
  simp only [ticket_activate, if_neg hi]
  rfl

theorem selection_of_choice (hready : (s.deck d).state = .ready) (hactive : (s.sched d).active = none)
    (ho : s.orderFor d = false) (hk : s.entryOf d = some k) (hc : s.choose k = some t) : s.selection d = some (k, t) := by
  refine (if_pos ⟨hready, by simp [hactive], ho⟩).trans ?_
  rw [hk]
  simp only [hc, Option.map_some]

/-! ## The INDEXING stage -/

/-- Ticket `t` in INDEXING at deck `d` before its shuttle (R150). -/
def indexingSet (s : State) (d : DeckId) (t : TicketNo) (target : Option Nat) : State := { s with
  tickets := s.tickets.set t { s.ticket t with state := .indexing }
  scheds := s.scheds.set d { s.sched d with step := some .approach, indexTarget := target, targetReached := false } }

/-- The index run follows the shuttle's arrival (R150). -/
def runAfter (d : DeckId) (x : State × Option Arrived) : State :=
  match x.2 with
  | some _ => x.1.startRun d
  | none => x.1

theorem runAfter_of_none {x : State × Option Arrived} (h : x.2 = none) : runAfter d x = x.1 := by simp only [runAfter, h]

theorem runAfter_of_arrived {x : State × Option Arrived} (h : x.2 ≠ none) : runAfter d x = x.1.startRun d := by
  obtain ⟨a, ha⟩ := Option.ne_none_iff_exists'.mp h
  simp only [runAfter, ha]

theorem enterIndexing_of_last {q : FrameRecord} {target : Option Nat} (h : (s.chain k).getLast? = some q) :
    s.enterIndexing d t k target = runAfter d ((indexingSet s d t target).shuttle d q.position (some q.frame)) := by
  have h' : ((indexingSet s d t target).chain k).getLast? = some q := h
  change runAfter d (match ((indexingSet s d t target).chain k).getLast? with
    | some q => (indexingSet s d t target).shuttle d q.position (some q.frame)
    | none => (indexingSet s d t target).shuttle d 0 none) = _
  rw [h']

theorem enterIndexing_of_empty {target : Option Nat} (h : s.chain k = []) :
    s.enterIndexing d t k target = runAfter d ((indexingSet s d t target).shuttle d 0 none) := by
  have h' : ((indexingSet s d t target).chain k).getLast? = none := by
    rw [show (indexingSet s d t target).chain k = s.chain k from rfl, h]
    rfl
  change runAfter d (match ((indexingSet s d t target).chain k).getLast? with
    | some q => (indexingSet s d t target).shuttle d q.position (some q.frame)
    | none => (indexingSet s d t target).shuttle d 0 none) = _
  rw [h']

theorem deckArrived_of_approach (h : (s.sched d).active ≠ none) (hstep : (s.sched d).step = some .approach) (x : Arrived) :
    s.deckArrived d x = s.startRun d := by
  obtain ⟨t, ht⟩ := Option.ne_none_iff_exists'.mp h
  simp only [State.deckArrived, ht, hstep]

/-- An index run commanded where the film end already shows ends at once (R16, R152). -/
theorem startRun_at_film_end {n : Slot} (hready : (s.deck d).state = .ready) (hf : (s.sensors d).filmEnd = true)
    (hn : s.entryOf d = some n) : s.startRun d = State.runRested { s with
      scheds := s.scheds.set d { s.sched d with step := some .run, filmEndMet := false }
      entries := s.entries.set n { s.entry n with complete := true } } d true := by
  have hset : (s.modSched d fun c => { c with step := some .run, filmEndMet := false }).setComplete d = { s with
      scheds := s.scheds.set d { s.sched d with step := some .run, filmEndMet := false }
      entries := s.entries.set n { s.entry n with complete := true } } := setComplete_of_entry (by exact hn)
  have hrun : (s.modSched d fun c => { c with step := some .run, filmEndMet := false }).indexRun d =
      ((s.modSched d fun c => { c with step := some .run, filmEndMet := false }).setComplete d, true) :=
    (if_pos (by exact hready)).trans (if_pos (by exact hf))
  simp only [State.startRun, hrun, if_true]
  rw [hset]

end

/-- Settles O31: `bestOf_choose`, the cases of `State.mayRedirect`, `enterMoving_without_lens` and `enterMoving_with_lens`, the
rows of `State.beginWork`, and the start of a run with and without the film end. -/
theorem choiceByPriorityAndOrder : Obligations.ChoiceByPriorityAndOrder := by
  refine ⟨fun s k => ?choice, fun s t k d hk hd => ?redirect, fun s d t k frame r hk hf hr hs => ?shuttling,
    fun s d t k frame r hk hf hr hs => ?ready, fun s d k t => ?work, fun s d t k target => ?indexing,
    fun s d target hrun hactive hstep hs hm hstop ht hn1 hn2 => ?approach, fun s d hready => ?run⟩
  case choice =>
    intro waits
    refine ⟨(choose_eq_none_iff s k).trans ⟨fun h u ⟨h1, h2, h3⟩ => h u h1 h2 h3, fun h u h1 h2 h3 => h u ⟨h1, h2, h3⟩⟩,
      fun t h => ?_⟩
    obtain ⟨before, after, hl, hbefore, hafter⟩ := bestOf_choose h
    have waits_iff (u : TicketNo) : waits u ↔
        u ∈ s.admission.filter fun u => (s.ticket u).state == .queued && (s.ticket u).slot == some k := by
      simp [waits, List.mem_filter]
    obtain ⟨-, l₁, l₂, hcut, hfilter⟩ := filter_cut hl
    refine ⟨(waits_iff t).mpr (by rw [hl]; simp), fun u hu => ?_⟩
    have hmem := (waits_iff u).mp hu
    refine ⟨?_, fun hprio => ?_⟩
    · rw [hl, List.mem_append, List.mem_cons] at hmem
      rcases hmem with h | rfl | h
      · exact (hbefore u h).le
      · exact le_rfl
      · exact hafter u h
    · rw [hcut]
      refine idxOf_le_of_cut fun hin => ?_
      have hb : u ∈ before := by
        rw [← hfilter]
        exact List.mem_filter.mpr ⟨hin, (List.mem_filter.mp hmem).2⟩
      exact absurd hprio (hbefore u hb).ne
  case redirect =>
    intro x
    refine ⟨fun h => redirect_of_none hk hd (by simp only [State.mayRedirect, h]), fun a ha => ?_⟩
    intro y displaces idle u
    have may := mayRedirect_of_active ha k t
    refine ⟨fun h => redirect_of_none hk hd (may.trans (if_neg fun hh => h ?_)), fun h => ?_⟩
    · obtain ⟨h1, h2, h3, h4⟩ := hh
      exact ⟨h1, h2, Option.isNone_iff_eq_none.mp h3, h4⟩
    · obtain ⟨h1, h2, h3, hprio, h4⟩ := h
      have hne : t ≠ a := fun hta => absurd hprio (by rw [show x = y from congrArg s.ticket hta]; exact lt_irrefl _)
      have hkeep : (s.modTicket a fun x => { x with state := .queued, pathWait := false }).ticket t = x :=
        State.ticket_setTicket_of_ne _ _ hne
      rw [redirect_of_some hk hd (may.trans (if_pos ⟨h1, h2, Option.isNone_iff_eq_none.mpr h3, hprio, h4⟩)), activate_eq, hkeep]
      rfl
  case shuttling =>
    intro x u goes optics
    have shuttles (v : State) (hv : v.decks = s.decks) (hp : v.poolDecks = s.poolDecks) :
        v.shuttleTo d t r.position frame = goes v := by
      have hdeck : v.deck d = s.deck d := congrArg (fun p => Pair.get p d) hv
      have hpool : v.pool d = s.pool d := congrArg (fun p => Pair.get p d) hp
      rw [shuttleTo_of_shuttling (by rw [hdeck]; exact hs)]
      simp only [goes, hpool]
    refine ⟨fun h => (enterMoving_without_lens hk hf hr h).trans (shuttles u rfl rfl), fun p ho hp => ?_⟩
    intro m
    have moves := enterMoving_with_lens (d := d) hk hf hr ho hp
    refine ⟨fun h => ?_, fun q h hactive => ?_⟩
    · rw [moves, schedMove_underway (s := movingSet s d t) h]
      exact shuttles m.1 rfl rfl
    · rw [moves, schedMove_noted (s := movingSet s d t) (t := t) h (by rw [sched_movingSet]; exact hactive)
        (by rw [sched_movingSet])]
      exact shuttles _ rfl rfl
  case ready =>
    intro x u goes optics
    have goesOf (v : State) (hv : v.tickets = u.tickets) (hc : v.chains = s.chains)
        (h : s.enterMoving d t = v.shuttleTo d t r.position frame) : goes v := by
      let go := v.shuttle d r.position (some frame)
      refine ⟨fun hgo => h.trans (shuttleTo_of_underway hgo), fun a ha => ?_⟩
      have hticket : go.1.ticket t = { x with state := .moving } := by
        rw [show go.1 = _ from (shuttle_arrived ha).1]
        change v.ticket t = _
        simp only [State.ticket, hv]
        exact ticket_movingSet s d t
      have htickets : go.1.tickets = s.tickets.set t { x with state := .moving } := by
        rw [show go.1 = _ from (shuttle_arrived ha).1]
        exact hv
      have hrec : go.1.record k frame = some r := by
        rw [show go.1 = _ from (shuttle_arrived ha).1]
        simp only [State.record, State.chain, State.setPool, hc]
        exact hr
      have arrives : s.enterMoving d t = go.1.movingArrived d t a := h.trans (shuttleTo_of_arrived ha)
      refine ⟨fun hconf hkind => ?_, fun hconf hkind => ?_, fun hconf => ?_⟩
      · rw [arrives, movingArrived_of_confirmed hconf, if_pos (by rw [hticket]; exact hkind)]
      · rw [arrives, movingArrived_of_confirmed hconf, if_neg (by rw [hticket]; exact hkind)]
      · rw [arrives, movingArrived_of_unconfirmed (by simp [hconf]) (by rw [hticket]; exact hk) (by rw [hticket]; exact hf) hrec]
        refine congrArg (fun w => State.searchFor w d r.position frame) ?_
        simp only [State.stage, State.modTicket, State.modSched, State.setTicket, State.setSched, hticket, htickets,
            Vector.set_set]
        rfl
    refine ⟨fun h => goesOf u rfl rfl (enterMoving_without_lens hk hf hr h), fun p ho hp => ?_⟩
    intro m
    have moves := enterMoving_with_lens (d := d) hk hf hr ho hp
    refine ⟨fun h => goesOf m.1 rfl rfl ?_, fun q h hactive => goesOf _ rfl rfl ?_⟩
    · rw [moves, schedMove_underway (s := movingSet s d t) h]
      rfl
    · rw [moves, schedMove_noted (s := movingSet s d t) (t := t) h (by rw [sched_movingSet]; exact hactive)
        (by rw [sched_movingSet])]
      rfl
  case work =>
    intro x e idle u v begins reached
    have hu : s.activate d t = u := activate_eq s d t
    have hticket : u.ticket t = { x with pathWait := false } := hu ▸ ticket_activate s d t
    have hv : indexStarted s d k t = v := indexStarted_eq s d k t
    have reached_iff : (x.first.any fun n => decide (n ≤ e.frameCount)) = true ↔ reached := by
      simp [Option.any_eq_true, reached]
    refine ⟨fun hready hactive ho hk hc => ?_, fun hi => ?_, fun n _ hi hn => ?_⟩
    · simp only [State.deckAction, selection_of_choice hready hactive ho hk hc]
    · have works := beginWork_of_index (d := d) (k := k) hi
      rw [hu, hv] at works
      have unreached (hr : ¬ reached) := works.trans (if_neg (mt reached_iff.mp hr))
      refine ⟨fun hr => works.trans (if_pos (reached_iff.mpr hr)), fun hr hcomp hn => (unreached hr).trans ?_,
        fun hr hcomp hn => (unreached hr).trans ?_, fun hr hcomp =>
            (unreached hr).trans (if_neg (by simp [show (s.entry k).complete = false from hcomp]))⟩
      · rw [if_pos (show (s.entry k).complete = true from hcomp), if_pos (by rw [show (s.ticket t).first = none from hn]; rfl)]
      · rw [if_pos (show (s.entry k).complete = true from hcomp), if_neg (by rw [Option.isNone_iff_eq_none]; exact hn)]
    · have works := beginWork_of_frame (d := d) (k := k) hi
      rw [hu, show (s.ticket t).current = some n from hn] at works
      refine ⟨fun hle => works.trans (if_pos hle), fun _ hlt => ?_⟩
      have beyond := works.trans (if_neg (show ¬ n ≤ (s.entry k).frameCount from not_le.mpr hlt))
      exact ⟨fun hcomp => beyond.trans (if_pos hcomp),
        fun hcomp => beyond.trans (if_neg (by simp [show (s.entry k).complete = false from hcomp]))⟩
  case indexing =>
    intro u goes
    exact ⟨fun q hq => ⟨fun h => (enterIndexing_of_last hq).trans (runAfter_of_none h),
        fun h => (enterIndexing_of_last hq).trans (runAfter_of_arrived h)⟩,
      fun hempty => ⟨fun h => (enterIndexing_of_empty hempty).trans (runAfter_of_none h),
        fun h => (enterIndexing_of_empty hempty).trans (runAfter_of_arrived h)⟩⟩
  case approach =>
    intro r u
    have hrest : s.rest d = (u, .arrived ⟨(s.pool d).confirms⟩) :=
      rest_of_arrival hm hs hstop ht (inBand_iff.mpr ⟨hn1, hn2⟩)
    have hrests : filmRests d s = (u.startRun d).settle := by
      rw [filmRests_of_report hrest (by simp), State.rested, deckArrived_of_approach (s := u) hactive hstep]
    exact ⟨(exec_arrival hrun hs).trans (congrArg _ hrests), (exec_filmAtRest hrun d).trans (congrArg _ hrests)⟩
  case run =>
    intro c runs
    refine ⟨startRun_of_no_film_end hready, fun t n hf ht hn => ?_⟩
    intro u isIndex ends
    let w : State := { s with
      scheds := s.scheds.set d { c with step := some .run, filmEndMet := false }
      entries := s.entries.set n { s.entry n with complete := true } }
    have hw : filmEndNoted w d true = u := by simp [filmEndNoted, w, u, runs, State.sched]
    have hsched : w.sched d = { c with step := some .run, filmEndMet := false } := Pair.get_set_self _ _ _
    have husched : u.sched d = { c with step := some .run, filmEndMet := true } := Pair.get_set_self _ _ _
    have starts : s.startRun d = w.runRested d true := startRun_at_film_end hready hf hn
    have hactive : (w.sched d).active = some t := by rw [hsched]; exact ht
    have outcome (hc : (s.ticket t).cancelPending = false) : s.startRun d = u.filmEndOutcome d t := by
      rw [starts, runRested_of_step hactive hc, hw, hsched, stageRested, if_pos rfl]
    refine ⟨fun hc => ?_, fun hc => ⟨fun hi h => ?_, fun hi hr => ?_, fun hi hr => ?_⟩⟩
    · exact starts.trans ((runRested_of_cancel hactive hc).trans (by rw [hw]))
    · by_cases hr : c.targetReached = true
      · exact (outcome hc).trans ((filmEndOutcome_of_reached (by rw [husched]; exact hr)).trans (closeIndexing_of_index hi))
      · exact (outcome hc).trans (filmEndOutcome_to_end (by rw [husched]; simpa using hr)
          ⟨hi, by rw [husched]; exact h.resolve_right hr⟩)
    · exact (outcome hc).trans ((filmEndOutcome_of_reached (by rw [husched]; exact hr)).trans (closeIndexing_of_frame hi))
    · refine (outcome hc).trans (filmEndOutcome_of_missed (by rw [husched]; exact hr) ?_)
      rw [husched]
      rintro ⟨h1, h2⟩
      exact hi.elim (fun h => h h1) (fun h => h h2)

end Sys2Proof.Machine
end

section
/-! PROOFS. Admissions taken (R129, R130), the requests and path wait (R127, R147), and what the scheduler does between events. -/

namespace Sys2Proof.Machine

/-! ## Admissions taken -/

section
variable {s : State} {a : Admission} {t : TicketNo}

theorem admissionRefusal_none (h : Admittable s a)
    (hok : a.kind ≠ .index → (a.frameOk (s.entry a.slot) a.first && a.frameOk (s.entry a.slot) a.last) = true ∧
      (s.frameWithdrawn a.slot a.first || s.frameWithdrawn a.slot a.last) = false)
    (hrange : a.kind = .range → a.first.getD 0 ≤ a.last.getD 0)
    (hindex : a.kind = .index → (s.entry a.slot).complete = false) : s.admissionRefusal a = none := by
  rw [admissionRefusal_of_admittable h, if_neg, if_neg, if_neg, if_neg]
  · exact fun hh => absurd (hh.2.symm.trans (hindex hh.1)) (by decide)
  · exact fun hh => absurd hh.2 (not_lt.mpr (hrange hh.1))
  · exact fun hh => absurd (hh.2.symm.trans (hok hh.1).2) (by decide)
  · exact fun hh => absurd (hh.2.symm.trans (hok hh.1).1) (by decide)

theorem enterTicket_of_taken (h : s.admissionRefusal a = none) (hf : s.freeTicket = some t) : s.enterTicket a =
    (((s.takeAdmission a t).redirect t).settle).answer [num8 t.val, num8 ((s.takeAdmission a t).ticket t).state.code] := by
  simp only [State.enterTicket, h, hf]

theorem ticket_takeAdmission (s : State) (a : Admission) (t : TicketNo) :
    (s.takeAdmission a t).ticket t = a.ticket (s.entry a.slot) :=
  State.ticket_setTicket_self s t (a.ticket (s.entry a.slot))

/-- The code of the state in which a ticket is admitted (R130). -/
theorem code_admitted (e : Entry) :
    num8 (a.ticket e).state.code = if e.state = .mounted then 2 else 1 := by
  simp only [Admission.ticket]
  split <;> rfl

/-- A ticket for a roll on no deck displaces none, and leaves an idle scheduler idle. -/
theorem settle_takeAdmission (hidle : schedIdle s = true) (hl : (s.entry a.slot).state = .listed)
    (hd : (s.entry a.slot).deck = none) : ((s.takeAdmission a t).redirect t).settle = s.takeAdmission a t := by
  have hticket := ticket_takeAdmission s a t
  have hentry : ((s.takeAdmission a t).entry a.slot).deck = none := by
    rw [show (s.takeAdmission a t).entry a.slot = { s.entry a.slot with ticketCount := (s.entry a.slot).ticketCount + 1 } from
      State.entry_setEntry_self ..]
    exact hd
  have hredirect : (s.takeAdmission a t).redirect t = s.takeAdmission a t := by
    simp only [State.redirect, hticket, Admission.ticket, hentry]
  obtain ⟨hs, hr, hq⟩ := schedIdle_iff.1 hidle
  rw [hredirect]
  refine settle_of_idle (schedIdle_iff.2 ⟨hs, hr, fun n => ?_⟩)
  have hset : (s.takeAdmission a t).ticket n = if n = t then a.ticket (s.entry a.slot) else s.ticket n :=
    State.ticket_setTicket ..
  rw [hset]
  split
  · simp [Admission.ticket, hl]
  · exact hq n

/-- A frame within the count, or beyond it with EXTEND (R129, check 3), that is not withdrawn (check 4). -/
theorem frame_admitted {f : Nat} (h1 : 1 ≤ f)
    (h : (f ≤ (s.entry a.slot).frameCount ∧ ∀ r, s.record a.slot f = some r → r.withdrawn = false) ∨
      (a.extend = true ∧ (s.entry a.slot).complete = false ∧ s.record a.slot f = none)) :
    a.frameOk (s.entry a.slot) (some f) = true ∧ s.frameWithdrawn a.slot (some f) = false := by
  rw [frameOk_iff h1, ← Bool.not_eq_true (s.frameWithdrawn _ _), frameWithdrawn_iff]
  rcases h with ⟨hle, hw⟩ | ⟨hext, hc, hnone⟩
  · refine ⟨.inl hle, ?_⟩
    rintro ⟨r, hr, hr'⟩
    exact absurd (hr'.symm.trans (hw r hr)) (by decide)
  · refine ⟨.inr ⟨hext, hc⟩, ?_⟩
    rintro ⟨r, hr, -⟩
    rw [hnone] at hr
    cases hr

end

/-! ## Requests and path wait -/

section
variable {s : State} {d : DeckId} {t : TicketNo} {k : Slot}

/-- The ticket is in a stage that needs the path, with neither a cancel pending nor a failure held (R147). -/
def NeedsPath (s : State) (d : DeckId) (t : TicketNo) : Prop :=
  ((s.ticket t).kind = some .fetch ∨ (s.ticket t).kind = some .range ∨ (s.ticket t).kind = some .focus) ∧
  ((s.ticket t).state = .moving ∨ (s.ticket t).state = .searching ∨ (s.ticket t).state = .focusing ∨
    (s.ticket t).state = .exposing) ∧ (s.ticket t).cancelPending = false ∧ (s.sched d).held = none

theorem ticketWants_of_inactive (h : (s.sched d).active = none) : s.ticketWants d = false := by
  simp only [State.ticketWants, h]

theorem ticketWants_iff_of_active (h : (s.sched d).active = some t) : s.ticketWants d = true ↔ NeedsPath s d t := by
  simp only [State.ticketWants, h, NeedsPath, Ticket.needsPath, Bool.and_eq_true, Bool.or_eq_true, beq_iff_eq,
    Bool.not_eq_true', Option.isNone_iff_eq_none, or_assoc, and_assoc]

theorem ticketWants_iff : s.ticketWants d = true ↔ ∃ t, (s.sched d).active = some t ∧ NeedsPath s d t := by
  cases h : (s.sched d).active with
  | none => simp [ticketWants_of_inactive h]
  | some t => simp [ticketWants_iff_of_active h]

theorem requestWanted_iff : s.requestWanted d = true ↔ (∃ t, (s.sched d).active = some t ∧ NeedsPath s d t) ∨
    ((s.sched d).track ≠ none ∧ (s.sched d).held = none) := by
  rw [State.requestWanted, Bool.or_eq_true, ticketWants_iff, Bool.and_eq_true, Option.isSome_iff_ne_none,
    Option.isNone_iff_eq_none]

theorem updateRequest_of_wanted (h : s.requestWanted d = true) :
    s.updateRequest d = (s.setSched d { s.sched d with request := true }).raise d := by
  simp only [State.updateRequest, h, if_true]
  rfl

theorem updateRequest_of_unwanted (h : s.requestWanted d = false) :
    s.updateRequest d = (s.setSched d { s.sched d with request := false }).withdraw d := by
  simp only [State.updateRequest, h, Bool.false_eq_true, if_false]
  rfl

theorem showPathWait_of_inactive (h : (s.sched d).active = none) : s.showPathWait d = s := by
  simp only [State.showPathWait, h]

theorem showPathWait_of_active (h : (s.sched d).active = some t) : s.showPathWait d =
    s.setTicket t { s.ticket t with pathWait := s.ticketWants d && s.opa.holder != some d } := by
  simp only [State.showPathWait, h]
  rfl

/-! ## The actions of the scheduler -/

theorem selection_of_not_chooses (h : ¬ ((s.deck d).state = .ready ∧ (s.sched d).active = none ∧ s.orderFor d = false ∧
    ∃ k, s.entryOf d = some k ∧ s.choose k ≠ none)) : s.selection d = none := by
  unfold State.selection
  split
  · rename_i hc
    obtain ⟨h1, h2, h3⟩ := hc
    split
    · rename_i k hk
      have hnone : s.choose k = none := by
        by_contra hne
        exact h ⟨h1, Option.isNone_iff_eq_none.mp h2, h3, k, hk, hne⟩
      rw [hnone, Option.map_none]
    · rfl
  · rfl

theorem deckAction_of_no_selection (h : s.selection d = none) : s.deckAction d =
    (s.continueStage d).or ((s.beginTrack d).or ((s.beginSweep d).or (s.beginCapture d))) := by
  simp only [State.deckAction, h, Option.orElse_eq_or]

theorem continueStage_eq_none (h : ¬ ∃ t, (s.sched d).active = some t ∧ (s.sched d).step = some .track ∧
    (s.sched d).track = none ∧ (s.deck d).state = .ready ∧ (s.ticket t).cancelPending = false ∧ (s.sched d).held = none) :
    s.continueStage d = none := by
  unfold State.continueStage
  split
  · rfl
  · rename_i t ht
    refine if_neg ?_
    rintro ⟨h1, h2, h3, h4, h5⟩
    exact h ⟨t, ht, h1, Option.isNone_iff_eq_none.mp h2, h3, h4, Option.isNone_iff_eq_none.mp h5⟩

theorem beginTrack_eq_none (h : (s.sched d).active = none ∨ (s.sched d).track = none) : s.beginTrack d = none := by
  unfold State.beginTrack
  split
  · rename_i t tr k ht htr hk
    rcases h with h | h
    · rw [h] at ht
      cases ht
    · rw [h] at htr
      cases htr
  · rfl

theorem beginSweep_eq_none (h : (s.sched d).active = none ∨ (s.sched d).step ≠ some .sweepWait) : s.beginSweep d = none := by
  unfold State.beginSweep
  split
  · rename_i t k ht hstep hk
    rcases h with h | h
    · rw [h] at ht
      cases ht
    · exact absurd hstep h
  · rfl

theorem beginCapture_eq_none (h : (s.sched d).active = none ∨ (s.sched d).step ≠ some .captureWait) :
    s.beginCapture d = none := by
  unfold State.beginCapture
  split
  · rename_i t pos ht hstep hpos
    rcases h with h | h
    · rw [h] at ht
      cases ht
    · exact absurd hstep h
  · rfl

theorem nextAction_eq (s : State) : s.nextAction =
    (s.deckAction .a).or ((s.deckAction .b).or ((s.requestAction .a).or (s.requestAction .b))) := by
  simp only [State.nextAction, Option.orElse_eq_or]

/-- A deck whose share of the scheduler is as reset, and which cannot be chosen for, calls for no action. -/
theorem deckAction_of_reset (h : s.sched d = Sched.reset)
    (hc : (s.deck d).state ≠ .ready ∨ ∀ k, s.entryOf d = some k → s.choose k = none) : s.deckAction d = none := by
  have hactive : (s.sched d).active = none := by rw [h]; rfl
  have hsel : s.selection d = none := selection_of_not_chooses fun ⟨h1, _, _, k, hk, hne⟩ =>
    hc.elim (fun hn => hn h1) fun hn => hne (hn k hk)
  have hcont : s.continueStage d = none := continueStage_eq_none fun ⟨t, ht, _⟩ => by
    rw [hactive] at ht
    cases ht
  rw [deckAction_of_no_selection hsel, hcont, beginTrack_eq_none (.inl hactive), beginSweep_eq_none (.inl hactive),
    beginCapture_eq_none (.inl hactive)]
  rfl

/-- A deck whose ticket shuttles calls for no action. -/
theorem deckAction_of_shuttle (ht : (s.sched d).active = some t) (hstep : (s.sched d).step = some .shuttle)
    (htrack : (s.sched d).track = none) : s.deckAction d = none := by
  have hsel : s.selection d = none := selection_of_not_chooses fun ⟨_, h2, _⟩ => by
    rw [ht] at h2
    cases h2
  have hcont : s.continueStage d = none := continueStage_eq_none fun ⟨_, _, h, _⟩ => by
    rw [hstep] at h
    cases h
  rw [deckAction_of_no_selection hsel, hcont, beginTrack_eq_none (.inr htrack), beginSweep_eq_none (.inr (by rw [hstep]; decide)),
    beginCapture_eq_none (.inr (by rw [hstep]; decide))]
  rfl

theorem requestAction_of_agreed (h : s.opa.requests.get d = s.requestWanted d) : s.requestAction d = none := if_pos h

theorem requestAction_of_other (h : s.opa.requests.get d ≠ s.requestWanted d) : s.requestAction d = some (s.updateRequest d) :=
  if_neg h

theorem requestWanted_of_reset (h : s.sched d = Sched.reset) : s.requestWanted d = false := by
  rw [State.requestWanted, ticketWants_of_inactive (by rw [h]; rfl), h]
  rfl

/-- Actions of one deck come next where the other calls for none. -/
theorem nextAction_of_deck {u : State} (h : s.deckAction d = some u) (ho : s.deckAction d.other = none) :
    s.nextAction = some u := by
  rw [nextAction_eq]
  cases d with
  | a => rw [h, Option.some_or]
  | b => rw [show s.deckAction .a = none from ho, h, Option.none_or, Option.some_or]

theorem nextAction_of_requests (h : s.deckAction d = none) (ho : s.deckAction d.other = none)
    (hr : s.requestAction d.other = none) : s.nextAction = s.requestAction d := by
  rw [nextAction_eq]
  cases d with
  | a =>
    rw [h, show s.deckAction .b = none from ho, show s.requestAction .b = none from hr]
    simp
  | b =>
    rw [h, show s.deckAction .a = none from ho, show s.requestAction .a = none from hr]
    simp

/-! ## The arbiter where no track sweep is pending -/

/-- Where no deck has a track sweep, arbitration changes the arbiter alone, and not the request flags (R107, R109). -/
theorem arbitrate_shape (n : Nat) (limited : Option DeckId) (s : State) (h : ∀ e, (s.sched e).track = none) :
    ∃ o, State.arbitrate n limited s = { s with opa := o } ∧ o.requests = s.opa.requests := by
  have happly (s : State) (h : ∀ e, (s.sched e).track = none) (x : Decision) :
      ∃ o, s.apply x = { s with opa := o } ∧ o.requests = s.opa.requests := by
    cases x with
    | grant d =>
      have hg : s.grant d = { s with opa := { s.opa with
          holder := some d, jobCount := 0, closing := false, job := false, wanted := none } } := by
        have hother : (State.sched { s with opa := { s.opa with
          holder := some d, jobCount := 0, closing := false, job := false, wanted := none } } d.other).track = none := h d.other
        simp only [State.grant, hother]
      exact ⟨_, hg, rfl⟩
    | want g => exact ⟨_, rfl, rfl⟩
    | clear => exact ⟨_, rfl, rfl⟩
    | keep => exact ⟨_, rfl, rfl⟩
  induction n generalizing limited s with
  | zero => exact ⟨_, rfl, rfl⟩
  | succ n ih =>
    obtain ⟨o, ho, hreq⟩ := happly s h (s.opa.decide limited)
    unfold State.arbitrate
    dsimp only
    split
    · exact ⟨_, rfl, rfl⟩
    · rw [ho]
      split
      · rename_i g _
        split
        · split
          · obtain ⟨o', ho', hreq'⟩ := ih none (State.endMove (State.beginMove { s with opa := o } g) g) (by exact h)
            exact ⟨o', ho', hreq'.trans hreq⟩
          · exact ⟨_, rfl, hreq⟩
        · exact ⟨_, rfl, hreq⟩
      · exact ⟨_, rfl, hreq⟩

theorem raise_shape (h : ∀ e, (s.sched e).track = none) (hr : s.opa.requests.get d = false) :
    ∃ o, s.raise d = { s with opa := o } ∧ o.requests = s.opa.requests.set d true := by
  have hraise : s.raise d = ({ s with opa := { s.opa with
      requests := s.opa.requests.set d true, faultFirst := s.opa.noteRaise d } } : State).arbitrateNow none :=
    if_neg (by simp [hr])
  rw [hraise, State.arbitrateNow]
  exact arbitrate_shape 4 none _ h

/-! ## Settling -/

/-- What is left once the actions are done, where the requests shown are those that stand. -/
theorem settle_of_steps {u : State} (h : State.settleSteps 128 s = u)
    (hr : ∀ e, (u.sched e).request = u.opa.requests.get e) : s.settle = (u.showPathWait .a).showPathWait .b := by
  have ha : ({ u.scheds.a with request := u.opa.requests.a } : Sched) = u.scheds.a := by
    rw [show u.opa.requests.a = u.scheds.a.request from (hr .a).symm]
  have hb : ({ u.scheds.b with request := u.opa.requests.b } : Sched) = u.scheds.b := by
    rw [show u.opa.requests.b = u.scheds.b.request from (hr .b).symm]
  simp only [State.settle, h, ha, hb]

/-- Path wait is decided for the one deck with an active ticket. -/
theorem showPathWait_both (h : (s.sched d.other).active = none) :
    (s.showPathWait .a).showPathWait .b = s.showPathWait d := by
  have hsched : (s.showPathWait .a).sched = s.sched := by
    unfold State.showPathWait
    split <;> rfl
  cases d with
  | a => exact showPathWait_of_inactive (by rw [hsched]; exact h)
  | b => rw [show s.showPathWait .a = s from showPathWait_of_inactive h]

/-! ## One ticket that an idle scheduler takes -/

/-- Ticket `t` in MOVING at deck `d`, whose film shuttles to a record, with the request flag and the arbiter as given. -/
def loneShuttle (s : State) (d : DeckId) (t : TicketNo) (pos frame : Nat) (asks : Bool) (o : Opa) : State := { s with
  tickets := s.tickets.set t { s.ticket t with state := .moving, pathWait := false }
  scheds := s.scheds.set d ⟨some t, some .shuttle, none, false, false, none, asks, none, false, none, none⟩
  decks := s.decks.set d { s.deck d with
    state := .shuttling, target := some pos, stopping := false
    motion := if s.pins.hold && s.opa.path.selected == d then .deferred else .moving }
  poolDecks := s.poolDecks.set d { s.pool d with
    watched := some ⟨frame, (s.pool d).found == some frame⟩, found := none }
  opa := o }

section
variable {pos frame : Nat} {asks : Bool} {o : Opa} {r : FrameRecord}

theorem sched_loneShuttle : (loneShuttle s d t pos frame asks o).sched d =
    ⟨some t, some .shuttle, none, false, false, none, asks, none, false, none, none⟩ := Pair.get_set_self _ _ _

theorem sched_other_loneShuttle : (loneShuttle s d t pos frame asks o).sched d.other = s.sched d.other :=
  Pair.get_set_other _ _ _

theorem deck_other_loneShuttle : (loneShuttle s d t pos frame asks o).deck d.other = s.deck d.other :=
  Pair.get_set_other _ _ _

theorem ticket_loneShuttle : (loneShuttle s d t pos frame asks o).ticket t =
    { s.ticket t with state := .moving, pathWait := false } := by simp [loneShuttle, State.ticket]

theorem choose_loneShuttle {m : Slot} (h : s.choose m = none) : (loneShuttle s d t pos frame asks o).choose m = none := by
  rw [choose_eq_none_iff] at h ⊢
  intro u hu hq
  have hticket : (loneShuttle s d t pos frame asks o).ticket u =
      if u = t then { s.ticket t with state := .moving, pathWait := false } else s.ticket u := State.ticket_setTicket ..
  rw [hticket] at hq ⊢
  split at hq
  · cases hq
  · rename_i hne
    rw [if_neg hne]
    exact h u hu hq

theorem deckAction_loneShuttle : (loneShuttle s d t pos frame asks o).deckAction d = none :=
  deckAction_of_shuttle (by rw [sched_loneShuttle]) (by rw [sched_loneShuttle]) (by rw [sched_loneShuttle])

theorem deckAction_other_loneShuttle (hs : s.sched d.other = Sched.reset)
    (ho : (s.deck d.other).state ≠ .ready ∨ ∀ m, s.entryOf d.other = some m → s.choose m = none) :
    (loneShuttle s d t pos frame asks o).deckAction d.other = none :=
  deckAction_of_reset (sched_other_loneShuttle.trans hs)
    (ho.imp (fun h => by rw [deck_other_loneShuttle]; exact h) fun h m hm => choose_loneShuttle (h m hm))

theorem requestAction_other_loneShuttle (hs : s.sched d.other = Sched.reset) (hr : o.requests.get d.other = false) :
    (loneShuttle s d t pos frame asks o).requestAction d.other = none :=
  requestAction_of_agreed (hr.trans (requestWanted_of_reset (sched_other_loneShuttle.trans hs)).symm)

theorem requestWanted_loneShuttle :
    (loneShuttle s d t pos frame asks o).requestWanted d = (loneShuttle s d t pos frame asks o).ticketWants d := by
  rw [State.requestWanted, sched_loneShuttle]
  exact Bool.or_false _

theorem nextAction_loneShuttle (hs : s.sched d.other = Sched.reset)
    (ho : (s.deck d.other).state ≠ .ready ∨ ∀ m, s.entryOf d.other = some m → s.choose m = none)
    (hr : o.requests.get d.other = false) : (loneShuttle s d t pos frame asks o).nextAction =
      (loneShuttle s d t pos frame asks o).requestAction d :=
  nextAction_of_requests deckAction_loneShuttle (deckAction_other_loneShuttle hs ho) (requestAction_other_loneShuttle hs hr)

/-- The end of a settling in which the ticket shuttles: path wait is decided (R127, R147). -/
theorem settle_to_loneShuttle (h : State.settleSteps 128 s = loneShuttle s d t pos frame asks o)
    (hs : s.sched d.other = Sched.reset) (hasks : o.requests.get d = asks) (hr : o.requests.get d.other = false) :
    s.settle = (loneShuttle s d t pos frame asks o).setTicket t { s.ticket t with
      state := .moving
      pathWait := (loneShuttle s d t pos frame asks o).ticketWants d && o.holder != some d } := by
  have hactive : ((loneShuttle s d t pos frame asks o).sched d).active = some t := by rw [sched_loneShuttle]
  have hsame (e : DeckId) : ((loneShuttle s d t pos frame asks o).sched e).request =
      (loneShuttle s d t pos frame asks o).opa.requests.get e := by
    change _ = o.requests.get e
    by_cases he : e = d
    · rw [he, sched_loneShuttle, hasks]
    · rw [DeckId.eq_other_of_ne he, sched_other_loneShuttle, hs, hr]
      rfl
  rw [settle_of_steps h hsame, showPathWait_both (d := d) (by rw [sched_other_loneShuttle, hs]; rfl),
    showPathWait_of_active hactive, ticket_loneShuttle]
  rfl

/-- Ticket `t` in MOVING at deck `d`, which had no work before (R149, R154). -/
def loneMoving (s : State) (d : DeckId) (t : TicketNo) : State := { s with
  tickets := s.tickets.set t { s.ticket t with state := .moving, pathWait := false }
  scheds := s.scheds.set d ⟨some t, some .shuttle, none, false, false, none, false, none, false, none, none⟩ }

/-- The work on a frame whose film must move, where no lens is to move first (R149, R154). -/
theorem beginWork_to_loneShuttle (hs : s.sched d = Sched.reset) (hready : (s.deck d).state = .ready)
    (hslot : (s.ticket t).slot = some k) (hcur : (s.ticket t).current = some frame) (hrec : s.record k frame = some r)
    (hle : frame ≤ (s.entry k).frameCount) (hfar : ¬ inBand (s.deck d).counter r.position = true)
    (hkind : (s.ticket t).kind ≠ some .index) (hlens : ¬ OpticsApply s t ∨ r.setpoint = none) :
    s.beginWork d k t = loneShuttle s d t r.position frame false s.opa := by
  have hticket := ticket_activate s d t
  have hmove := enterMoving_without_lens (s := s.activate d t) (d := d) (t := t) (k := k) (frame := frame) (r := r)
    (by rw [hticket]; exact hslot) (by rw [hticket]; exact hcur) (by exact hrec)
    (hlens.imp_left fun h hh => h (by
      unfold OpticsApply at hh
      rw [hticket] at hh
      exact hh))
  have hset : movingSet (s.activate d t) d t = loneMoving s d t := by
    rw [movingSet, hticket, activate_eq]
    simp [State.sched, startedSched, show (s.scheds.get d) = Sched.reset from hs, Sched.reset, loneMoving]
  have hshuttle := shuttle_of_far (s := loneMoving s d t) (d := d) (target := r.position) hready hfar (some frame)
  rw [beginWork_of_frame hkind, hcur, if_pos (show (some frame).getD 0 ≤ _ from hle), hmove, hset,
    shuttleTo_of_underway (by rw [hshuttle]), hshuttle]
  by_cases hh : s.pins.hold = true ∧ s.opa.path.selected = d
  · rw [beginMotion_shuttleSet (s := loneMoving s d t) (m := .deferred) _ _ (.inl ⟨hh, rfl⟩), loneShuttle,
      if_pos (by rw [hh.1, hh.2, beq_self_eq_true, Bool.and_self])]
    rfl
  · rw [beginMotion_shuttleSet (s := loneMoving s d t) (m := .moving) _ _ (.inr ⟨hh, rfl⟩), loneShuttle,
      if_neg (by simpa using hh)]
    rfl

end

end

/-- Settles O26: each admission by `enterTicket_of_taken`; the requests, path wait and the actions by their conditions; and the
one ticket an idle scheduler takes by `beginWork_to_loneShuttle` and what remains to settle after it. -/
theorem admissionsTaken : Obligations.AdmissionsTaken := by
  refine ⟨fun s slot priority options k t first last target hidle hk hp ht hfree hpending => ?taken, fun s d => ?requests,
    fun s d => ?actions, fun s n => ⟨nextAction_eq s, rfl, settleSteps_of_none (n := n), fun u hu =>
        settleSteps_of_some hu n, rfl⟩,
    fun s d k t frame r hs hr hready horder hent hc hslot hcur hrec hle hfar hother => ?lone⟩
  case taken =>
    intro e known beyond goes
    have hfreeTicket := freeTicket_of_lowest ht
    have hadmit (a : Admission) (ha : a.slot = k) : Admittable s a :=
      ⟨⟨t, (lowestFreeTicket_iff.mp ht).1⟩, by rw [ha]; exact ⟨hfree, hpending⟩⟩
    have takes {i : Instr} {rq : Request} {a : Admission} (ha : a.slot = k) (hprio : a.priority = priority.toNat)
        (hext : a.extend = (a.kind != .index && options.getLsbD 0)) (hexec : exec i s = receiveRequest rq s)
        (hwf : rq.wf = true) (hlen : rq.body.length.ble 255 = true) (hreply : carryOut rq s = s.enterTicket a)
        (hnone : s.admissionRefusal a = none) :
        goes i rq a.kind a.first a.last (if a.kind = .index then some e.frameCount else a.first) := by
      subst ha
      have hu : s.takeAdmission a t = { s with
          tickets := s.tickets.set t
            { state := if e.state = .mounted then .queued else .awaitRoll, kind := some a.kind, priority := priority.toNat
              slot := some a.slot, first := a.first, last := a.last, extend := a.kind != .index && options.getLsbD 0
              current := if a.kind = .index then some e.frameCount else a.first
              captured := 0, skipped := 0, soft := 0, firstId := none, lastId := none, pathWait := false
              cancelPending := false, outcome := none, failedFrame := none }
          entries := s.entries.set a.slot { e with ticketCount := e.ticketCount + 1 }
          admission := s.admission ++ [t] } := by
        rw [← hext, ← hprio]
        rfl
      have hcarry := hreply.trans (enterTicket_of_taken hnone hfreeTicket)
      rw [ticket_takeAdmission, code_admitted] at hcarry
      refine ⟨?_, fun hsched hl hd => ?_⟩
      · rw [← hu]
        exact hexec.trans (receiveRequest_of_carryOut rq hidle hwf hlen hcarry)
      · rw [settle_takeAdmission hsched hl hd] at hcarry
        rw [← hu]
        exact hexec.trans (receiveRequest_of_carryOut rq hidle hwf hlen hcarry)
    have inRange {f : Half} (h : known f ∨ beyond f) : 1 ≤ f.toNat ∧ f.toNat ≤ 16384 := by
      rcases h with ⟨h1, h2, -⟩ | ⟨h1, h2, -⟩
      · exact ⟨h1, h2⟩
      · exact ⟨by omega, h2⟩
    have frames {a : Admission} {f : Half} (ha : a.slot = k) (h : known f ∨ (beyond f ∧ a.extend = true)) :
        a.frameOk (s.entry a.slot) (some f.toNat) = true ∧ s.frameWithdrawn a.slot (some f.toNat) = false := by
      subst ha
      refine frame_admitted (inRange (h.imp_right And.left)).1 (h.imp ?_ ?_)
      · rintro ⟨-, -, hle, hw⟩
        exact ⟨hle, hw⟩
      · rintro ⟨⟨-, -, -, hcomp, hnone⟩, hext⟩
        exact ⟨hext, hcomp, hnone⟩
    have single {a : Admission} {f : Half} (ha : a.slot = k) (hkind : a.kind ≠ .index) (hfirst : a.first = some f.toNat)
        (hlast : a.last = some f.toNat) (h : known f ∨ (beyond f ∧ a.extend = true)) : s.admissionRefusal a = none := by
      obtain ⟨hok, hw⟩ := frames ha h
      refine admissionRefusal_none (hadmit a ha) (fun _ => ?_) (fun _ => by rw [hfirst, hlast]) fun hi => absurd hi hkind
      rw [hfirst, hlast, hok, hw]
      exact ⟨rfl, rfl⟩
    refine ⟨fun h => ?fetch, fun h1 h2 hle => ?range, fun h hext => ⟨?locate, ?focus⟩, fun hext hcomp hto h1 h2 => ?target,
      fun hext hcomp hto => ?toEnd⟩
    case fetch =>
      refine takes (a := frameAdmission .fetch first priority options k) rfl rfl rfl rfl rfl rfl
        (admitChecked_of_ok hk hp (frameArgument_iff.mpr (inRange h))) (single rfl nofun rfl rfl ?_)
      exact h.imp_right fun hb => ⟨hb, hb.2.2.1⟩
    case range =>
      let a : Admission := ⟨.range, k, some first.toNat, some last.toNat, priority.toNat, extendOf options⟩
      obtain ⟨hok1, hw1⟩ := frames (a := a) (f := first) rfl (h1.imp_right fun hb => ⟨hb, hb.2.2.1⟩)
      obtain ⟨hok2, hw2⟩ := frames (a := a) (f := last) rfl (h2.imp_right fun hb => ⟨hb, hb.2.2.1⟩)
      refine takes (a := a) rfl rfl rfl rfl rfl rfl (admitChecked_of_ok hk hp ?_)
        (admissionRefusal_none (hadmit a rfl) (fun _ => ?_) (fun _ => hle) nofun)
      · rw [frameArgument_iff.mpr (inRange h1), frameArgument_iff.mpr (inRange h2)]
        rfl
      · exact ⟨Bool.and_eq_true_iff.mpr ⟨hok1, hok2⟩, Bool.or_eq_false_iff.mpr ⟨hw1, hw2⟩⟩
    case locate =>
      refine takes (a := frameAdmission .locate first priority options k) rfl rfl rfl rfl rfl rfl
        (admitChecked_of_ok hk hp ?_) (single rfl nofun rfl rfl (.inl h))
      rw [frameArgument_iff.mpr (inRange (.inl h)), extendOf, hext]
      rfl
    case focus =>
      refine takes (a := frameAdmission .focus first priority options k) rfl rfl rfl rfl rfl rfl
        (admitChecked_of_ok hk hp ?_) (single rfl nofun rfl rfl (.inl h))
      rw [frameArgument_iff.mpr (inRange (.inl h)), extendOf, hext]
      rfl
    case target =>
      have htarget : indexTarget target options = some target.toNat := if_pos hto
      have hgoes := takes (a := ⟨.index, k, indexTarget target options, indexTarget target options, priority.toNat, false⟩)
        (i := .index slot target priority options) (rq := .index slot target priority options)
        rfl rfl rfl rfl rfl rfl (admitChecked_of_ok hk hp (by
          rw [frameArgument_iff.mpr ⟨h1, h2⟩, extendOf, hext, Bool.or_true]
          rfl)) (admissionRefusal_none (hadmit _ rfl) (fun hn => absurd rfl hn) nofun fun _ => hcomp)
      rw [htarget] at hgoes
      exact hgoes
    case toEnd =>
      have htarget : indexTarget target options = none := if_neg (by rw [hto]; decide)
      have hgoes := takes (a := ⟨.index, k, indexTarget target options, indexTarget target options, priority.toNat, false⟩)
        (i := .index slot target priority options) (rq := .index slot target priority options)
        rfl rfl rfl rfl rfl rfl (admitChecked_of_ok hk hp (by
          rw [hto, extendOf, hext]
          rfl)) (admissionRefusal_none (hadmit _ rfl) (fun hn => absurd rfl hn) nofun fun _ => hcomp)
      rw [htarget] at hgoes
      exact hgoes
  case requests =>
    intro c busy wants wanted asks shown waits
    have wanted_iff : s.requestWanted d = true ↔ wanted := requestWanted_iff
    have agree_iff : s.opa.requests.get d = s.requestWanted d ↔ (wanted ↔ asks) := by
      rw [Bool.eq_iff_iff, wanted_iff]
      exact Iff.comm
    refine ⟨fun h => updateRequest_of_wanted (wanted_iff.mpr h),
      fun h => updateRequest_of_unwanted (Bool.eq_false_iff.mpr (mt wanted_iff.mp h)),
      fun h => requestAction_of_agreed (agree_iff.mpr h), fun h => requestAction_of_other (mt agree_iff.mp h),
      showPathWait_of_inactive, fun t ht => ⟨fun h hh => ?_, fun h => ?_⟩⟩
    · rw [showPathWait_of_active ht, ticketWants_iff.mpr h, Bool.true_and, bne_iff_ne.mpr hh]
      rfl
    · have hnot : (s.ticketWants d && s.opa.holder != some d) = false := by
        rcases h with h | h
        · rw [Bool.eq_false_iff.mpr (mt ticketWants_iff.mp h), Bool.false_and]
        · simp [show s.opa.holder = some d from h]
      rw [showPathWait_of_active ht, hnot]
      rfl
  case actions =>
    intro c chooses goesOn
    exact ⟨fun h => deckAction_of_no_selection (selection_of_not_chooses h), continueStage_eq_none, beginTrack_eq_none,
      beginSweep_eq_none, beginCapture_eq_none⟩
  case lone =>
    intro x hold u
    have hsched (e : DeckId) : s.sched e = Sched.reset := by rw [State.sched, hs]; cases e <;> rfl
    have hreq (e : DeckId) : s.opa.requests.get e = false := by rw [hr]; cases e <;> rfl
    have hu (asks : Bool) : loneShuttle s d t r.position frame asks s.opa = u asks := rfl
    have hnear : ¬ inBand (s.deck d).counter r.position = true := by
      rw [inBand_iff]
      omega
    have begins (hkind : x.kind ≠ some .index) (hlens : ¬ OpticsApply s t ∨ r.setpoint = none) (n : Nat) :
        State.settleSteps (n + 1) s = State.settleSteps n (u false) := by
      have hselect := selection_of_choice hready (by rw [hsched]; rfl) horder hent hc
      have haction : s.deckAction d = some (u false) := by
        simp only [State.deckAction, hselect]
        rw [beginWork_to_loneShuttle (hsched d) hready hslot hcur hrec hle hnear hkind hlens, hu]
      exact settleSteps_of_some (nextAction_of_deck haction (deckAction_of_reset (hsched _) hother)) n
    have next {asks : Bool} {o : Opa} (ho : o.requests.get d.other = false) :=
      nextAction_loneShuttle (t := t) (pos := r.position) (frame := frame) (asks := asks) (hsched d.other) hother ho
    have wants_iff {asks : Bool} {o : Opa} : (loneShuttle s d t r.position frame asks o).ticketWants d = true ↔
        NeedsPath (loneShuttle s d t r.position frame asks o) d t := ticketWants_iff_of_active (by rw [sched_loneShuttle])
    refine ⟨fun hkind => ?_, fun hkind hc hlens => ?_⟩
    · have hunwanted : (u false).ticketWants d = false := Bool.eq_false_iff.mpr fun h => by
        obtain ⟨h1, -⟩ := wants_iff.mp h
        rw [ticket_loneShuttle, show (s.ticket t).kind = some .locate from hkind] at h1
        simp at h1
      have hnone : (u false).nextAction = none :=
        (next (hreq d.other)).trans (requestAction_of_agreed ((hreq d).trans (requestWanted_loneShuttle.trans hunwanted).symm))
      have hsteps : State.settleSteps 128 s = u false := by
        rw [begins (by rw [hkind]; decide) (.inl fun h => ?_), settleSteps_of_none hnone]
        rw [OpticsApply, show (s.ticket t).kind = some .locate from hkind] at h
        simp at h
      rw [settle_to_loneShuttle hsteps (hsched _) (hreq d) (hreq d.other), hu, hunwanted]
      simp [State.setTicket, u, x]
    · intro v
      have hwanted {asks : Bool} {o : Opa} : (loneShuttle s d t r.position frame asks o).ticketWants d = true := by
        refine wants_iff.mpr ⟨.inl ?_, .inl ?_, ?_, ?_⟩
        · rw [ticket_loneShuttle]
          exact hkind
        · rw [ticket_loneShuttle]
        · rw [ticket_loneShuttle]
          exact hc
        · rw [sched_loneShuttle]
      have hraised : (u false).updateRequest d = v := by
        rw [← hu, updateRequest_of_wanted (requestWanted_loneShuttle.trans hwanted)]
        refine congrArg (State.raise · d) ?_
        simp [State.setSched, loneShuttle, u, State.sched, x, hold]
      have hfirst : (u false).nextAction = some v := by
        refine (next (hreq d.other)).trans ((requestAction_of_other fun h => ?_).trans (congrArg some hraised))
        have hfalse := (hreq d).symm.trans (h.trans (requestWanted_loneShuttle.trans hwanted))
        cases hfalse
      obtain ⟨o, ho, hro⟩ := raise_shape (s := u true) (d := d) (fun e => by
        by_cases he : e = d
        · rw [he, ← hu, sched_loneShuttle]
        · rw [DeckId.eq_other_of_ne he, ← hu, sched_other_loneShuttle, hsched]
          rfl) (hreq d)
      have hv : v = loneShuttle s d t r.position frame true o := ho
      have hd : o.requests.get d = true := by rw [hro]; exact Pair.get_set_self ..
      have hother' : o.requests.get d.other = false := by
        rw [hro]
        exact (Pair.get_set_other ..).trans (hreq d.other)
      have hdone : v.nextAction = none := by
        rw [hv, next hother']
        exact requestAction_of_agreed (hd.trans (requestWanted_loneShuttle.trans hwanted).symm)
      have hsteps : State.settleSteps 128 s = v := by
        rw [begins (by rw [hkind]; decide) (hlens.imp_left fun hoff h => h.2 hoff), settleSteps_of_some hfirst,
          settleSteps_of_none hdone]
      rw [settle_to_loneShuttle (hsteps.trans hv) (hsched _) hd hother', hwanted, Bool.true_and,
        show (o.holder != some d) = decide (o.holder ≠ some d) from Bool.eq_iff_iff.mpr (by simp), hv]
      simp [State.setTicket, loneShuttle, x]

end Sys2Proof.Machine
end

section
/-! PROOFS. Matched and unmatched marks (R35 to R39). -/

namespace Sys2Proof.Machine

section
variable {s : State} {d : DeckId} {n : Slot} {r : FrameRecord} {c : MarkClass} {p : Nat}

/-! ## A match by class and condition -/

theorem matchRecord_of_other_class (h : c ≠ r.cls) : s.matchRecord d n r c p = (s.damage n r.frame, 0) := if_pos h

theorem matchRecord_of_damaged (h : c = r.cls) (hr : r.condition = .damaged) : s.matchRecord d n r c p =
    (s.setRecord n r.frame fun q => { q with missCount := 0 }, 0) := by
  simp only [State.matchRecord, h, ne_eq, not_true_eq_false, if_false, hr]

theorem matchRecord_of_verified (h : c = r.cls) (hr : r.condition = .verified) : s.matchRecord d n r c p =
    (s.correctBy d n r.frame ((p : Int) - r.position), -((p : Int) - r.position)) := by
  simp only [State.matchRecord, h, ne_eq, not_true_eq_false, if_false, hr]

theorem matchRecord_of_unverified (h : c = r.cls) (hr : r.condition = .seen ∨ r.condition = .declared) :
    s.matchRecord d n r c p =
      if orderOk (s.chain n) r.frame p then (s.moveRecord n r.frame p, 0) else (s.damage n r.frame, 0) := by
  rcases hr with hr | hr <;> simp only [State.matchRecord, h, ne_eq, not_true_eq_false, if_false, hr]

/-! ## A mark with no record within the window -/

theorem unmatched_of_stray (h : p ≤ (s.entry n).extent) : s.unmatched d n c p =
    (s.setEntry n { s.entry n with stray := min 65535 ((s.entry n).stray + 1) }, .none) := if_pos h

theorem unmatched_of_no_run (h : (s.entry n).extent < p)
    (hr : ¬ ((s.deck d).state = .indexing ∧ (s.pool d).exhausted = false)) : s.unmatched d n c p = (s, .none) :=
  (if_neg (not_le.mpr h)).trans (if_neg hr)

theorem unmatched_of_full (h : (s.entry n).extent < p) (hr : (s.deck d).state = .indexing ∧ (s.pool d).exhausted = false)
    (hf : s.freeCount = 0) : s.unmatched d n c p = ((s.setEntry n { s.entry n with
        indexFull := true
        extent := max ((s.lastPosition n).getD 0) ((s.pool d).runExtent.getD 0) }).setPool d
      { s.pool d with exhausted := true }, .exhausted) :=
  (if_neg (not_le.mpr h)).trans ((if_pos hr).trans (if_pos hf))

/-- The entry with the new record of a mark appended (R38). -/
def markAppended (s : State) (n : Slot) (c : MarkClass) (p : Nat) : State := { s with
  chains := s.chains.set n (s.chain n ++ [newRecord n (s.chain n) (s.entry n).frameCount p c .seen none])
  entries := s.entries.set n { s.entry n with
    frameCount := (s.entry n).frameCount + 1, extent := p, indexFull := false }
  freeCount := s.freeCount - 1 }

theorem unmatched_of_new (h : (s.entry n).extent < p) (hr : (s.deck d).state = .indexing ∧ (s.pool d).exhausted = false)
    (hf : s.freeCount ≠ 0) : s.unmatched d n c p =
      (matchNoted (markAppended s n c p) d ((s.entry n).frameCount + 1), .newRecord ((s.entry n).frameCount + 1) p) := by
  have hset : (s.append n p c .seen none).setEntry n
      { (s.append n p c .seen none).entry n with extent := p, indexFull := false } = markAppended s n c p := by
    rw [append_eq]
    simp [markAppended, State.setEntry, State.entry]
  refine (if_neg (not_le.mpr h)).trans ((if_pos hr).trans ((if_neg hf).trans ?_))
  dsimp only
  rw [hset, setPool_noteMatch]

end

/-- Settles O47: the match by the record's class and condition, with `chains_correctBy` and `correctBy_shape` for a VERIFIED
record, and the unmatched mark by the extent, the run and the free count. -/
theorem matchedAndUnmatchedMarksTaken : Obligations.MatchedAndUnmatchedMarksTaken := by
  refine ⟨fun s d n r c p => ?matched, fun s d n c p => ?unmatched⟩
  case matched =>
    intro w t damaged
    have taken {x : State × Int} (h : s.matchRecord d n r c p = x) : t = x.1 := congrArg Prod.fst h
    refine ⟨fun h => taken (matchRecord_of_other_class h), fun h hr => taken (matchRecord_of_damaged h hr),
      fun h hr ho => taken ((matchRecord_of_unverified h hr).trans (if_neg (by simp [ho]))), fun h hr ho => ?_, fun h hr => ?_⟩
    · intro e moved
      have hmoves : t = s.moveRecord n r.frame p := taken ((matchRecord_of_unverified h hr).trans (if_pos ho))
      exact ⟨fun hl => hmoves.trans (moveRecord_of_last hl), fun hl => hmoves.trans (moveRecord_of_inner hl)⟩
    · intro sum
      have hcorrects : t = s.correctBy d n r.frame ((p : Int) - r.position) := taken (matchRecord_of_verified h hr)
      obtain ⟨es, cs, l, hshape, h0, h1⟩ := correctBy_shape s d n r.frame ((p : Int) - r.position)
      have ht := hcorrects.trans hshape
      have hdeck : t.deck d = { (s.deck d).correct (-((p : Int) - r.position)) with
          search := (s.deck d).search.map (·.shift (-((p : Int) - r.position))) } := by
        rw [ht]
        exact deck_slipped s d _
      have hentries : t.entries = es := by rw [ht]
      refine ⟨fun hnum hn => hcorrects ▸ chains_correctBy hn hnum r.frame, by rw [hdeck]; exact counter_correct _ _,
        by rw [hdeck]; exact anchored_correct_iff _ _, fun hp => hentries.trans (h0 (by omega)),
        fun hp => hentries.trans (h1 (by omega)), ?_⟩
      rw [ht]
      exact ⟨rfl, rfl, rfl, rfl, rfl⟩
  case unmatched =>
    intro e runs put
    refine ⟨unmatched_of_stray, unmatched_of_no_run, unmatched_of_full, fun h hr hf => ?_⟩
    intro x t
    have hnew := unmatched_of_new (c := c) h hr hf
    refine ⟨by rw [hnew], ?_⟩
    rw [show t = _ from congrArg Prod.fst hnew]
    exact ⟨rfl, rfl, rfl⟩

end Sys2Proof.Machine
end

section
/-! PROOFS. Ended marks: their classes, the nearest record, what a closing edge makes of a mark at a deck with and without an entry,
and what the scheduler makes of the report (R29 to R31, R34 to R44, R151, R152). -/

namespace Sys2Proof.Machine

/-! ## Width classes and the nearest record -/

theorem nearest_eq_none_iff {p : Nat} {chain : List FrameRecord} : nearest p chain = none ↔ chain = [] := by
  cases chain with
  | nil => simp [nearest]
  | cons r rest =>
    simp only [nearest, reduceCtorEq, iff_false]
    split
    · simp
    · split <;> simp

/-- The nearest record cuts the chain: those before it are farther, those after it no nearer (R34). -/
theorem nearest_cut {p : Nat} {chain : List FrameRecord} {r : FrameRecord} (h : nearest p chain = some r) :
    ∃ before after, chain = before ++ r :: after ∧
      (∀ q ∈ before, distance p r.position < distance p q.position) ∧
      (∀ q ∈ after, distance p r.position ≤ distance p q.position) := by
  induction chain generalizing r with
  | nil => cases h
  | cons x rest ih =>
    rw [nearest] at h
    split at h
    · rename_i hrest
      cases h
      rw [nearest_eq_none_iff.mp hrest]
      exact ⟨[], [], rfl, by simp, by simp⟩
    · rename_i q hrest
      obtain ⟨before, after, hcut, hbefore, hafter⟩ := ih hrest
      split at h
      · rename_i hlt
        cases h
        refine ⟨x :: before, after, by rw [hcut, List.cons_append], fun y hy => ?_, hafter⟩
        rcases List.mem_cons.mp hy with rfl | hy
        · exact hlt
        · exact hbefore y hy
      · rename_i hle
        cases h
        refine ⟨[], rest, rfl, by simp, fun y hy => ?_⟩
        rw [hcut, List.mem_append, List.mem_cons] at hy
        have hq : distance p q.position ≤ distance p y.position := by
          rcases hy with hy | rfl | hy
          · exact (hbefore y hy).le
          · exact le_rfl
          · exact hafter y hy
        exact (not_lt.mp hle).trans hq

theorem classify_noise {p : Params} {w : Nat} (h : w ≤ 1) : classify p w = .noise := if_pos h

theorem classify_mark {p : Params} {w : Nat} (h1 : 2 ≤ w) (h2 : w ≤ p.m3) : ∃ c, classify p w = .mark c := by
  unfold classify
  rw [if_neg (by omega)]
  split
  · exact ⟨_, rfl⟩
  · split
    · exact ⟨_, rfl⟩
    · exact ⟨_, rfl⟩

theorem classify_fault {p : Params} {w : Nat} (h : 2 ≤ w) (h1 : p.m1 < w) (h2 : p.m2 < w) (h3 : p.m3 < w) :
    classify p w = .fault := by
  unfold classify
  rw [if_neg (by omega), if_neg (by omega), if_neg (by omega), if_neg (by omega)]

/-! ## What a match keeps of its deck -/

/-- The deck's state and its entry are the same. -/
def SameDeck (d : DeckId) (s t : State) : Prop := t.entryOf d = s.entryOf d ∧ (t.deck d).state = (s.deck d).state

theorem SameDeck.trans {d : DeckId} {s t u : State} (h : SameDeck d s t) (h' : SameDeck d t u) : SameDeck d s u :=
  ⟨h'.1.trans h.1, h'.2.trans h.2⟩

theorem entryOf_congr {s t : State} (h : t.entries = s.entries) (d : DeckId) : t.entryOf d = s.entryOf d := by
  have hentry : t.entry = s.entry := funext fun k => by simp only [State.entry, h]
  simp only [State.entryOf, hentry]

section
variable {s : State} {d : DeckId} {n : Slot} {r : FrameRecord} {c : MarkClass} {p : Nat}

theorem sameDeck_correctBy (s : State) (d : DeckId) (n : Slot) (frame : Nat) (delta : Int) :
    SameDeck d s (s.correctBy d n frame delta) := by
  obtain ⟨es, cs, l, hshape, h0, h1⟩ := correctBy_shape s d n frame delta
  rw [hshape]
  refine ⟨?_, (congrArg Deck.state (deck_slipped s d (-delta))).trans (state_correct _ _)⟩
  by_cases h : delta = 0
  · exact entryOf_congr (h0 h) d
  · exact (entryOf_congr (s := s.setEntry n { s.entry n with correction := min 65535 ((s.entry n).correction + 1) })
      (h1 h) d).trans (entryOf_setEntry (x := { s.entry n with correction := min 65535 ((s.entry n).correction + 1) }) rfl rfl d)

/-- One entry written, with its state and deck as they were. -/
theorem SameDeck.of_entry {t : State} (x : Entry) (hentries : t.entries = s.entries.set n x)
    (hs : x.state = (s.entry n).state) (hd : x.deck = (s.entry n).deck) (hdecks : t.decks = s.decks) : SameDeck d s t :=
  ⟨(entryOf_congr (s := s.setEntry n x) hentries d).trans (entryOf_setEntry hs hd d),
    congrArg (fun p => (Pair.get p d).state) hdecks⟩

theorem sameDeck_moveRecord (s : State) (d : DeckId) (n : Slot) (frame p : Nat) : SameDeck d s (s.moveRecord n frame p) := by
  by_cases h : frame = (s.entry n).frameCount ∧ (s.entry n).extent < p
  · rw [moveRecord_of_last h]
    exact .of_entry { s.entry n with extent := p } rfl rfl rfl rfl
  · rw [moveRecord_of_inner h]
    exact ⟨rfl, rfl⟩

theorem sameDeck_matchRecord (s : State) (d : DeckId) (n : Slot) (r : FrameRecord) (c : MarkClass) (p : Nat) :
    SameDeck d s (s.matchRecord d n r c p).1 := by
  by_cases hc : c = r.cls
  · cases hr : r.condition with
    | damaged =>
      rw [matchRecord_of_damaged hc hr]
      exact ⟨rfl, rfl⟩
    | verified =>
      rw [matchRecord_of_verified hc hr]
      exact sameDeck_correctBy ..
    | seen | declared =>
      rw [matchRecord_of_unverified hc (by simp [hr])]
      split
      · exact sameDeck_moveRecord ..
      · exact ⟨rfl, rfl⟩
  · rw [matchRecord_of_other_class hc]
    exact ⟨rfl, rfl⟩

theorem sameDeck_unmatched (s : State) (d : DeckId) (n : Slot) (c : MarkClass) (p : Nat) :
    SameDeck d s (s.unmatched d n c p).1 := by
  rcases le_or_gt p (s.entry n).extent with h | h
  · rw [unmatched_of_stray h]
    exact .of_entry { s.entry n with stray := min 65535 ((s.entry n).stray + 1) } rfl rfl rfl rfl
  · by_cases hr : (s.deck d).state = .indexing ∧ (s.pool d).exhausted = false
    · by_cases hf : s.freeCount = 0
      · rw [unmatched_of_full h hr hf]
        exact .of_entry { s.entry n with
          indexFull := true, extent := max ((s.lastPosition n).getD 0) ((s.pool d).runExtent.getD 0) } rfl rfl rfl rfl
      · rw [unmatched_of_new h hr hf]
        exact .of_entry { s.entry n with
          frameCount := (s.entry n).frameCount + 1, extent := p, indexFull := false } rfl rfl rfl rfl
    · rw [unmatched_of_no_run h hr]
      exact ⟨rfl, rfl⟩

theorem unmatched_none_of_not_indexing (h : (s.deck d).state ≠ .indexing) : (s.unmatched d n c p).2 = .none := by
  rcases le_or_gt p (s.entry n).extent with hp | hp
  · rw [unmatched_of_stray hp]
  · rw [unmatched_of_no_run hp fun hr => h hr.1]

/-! ## The noting of a search -/

theorem noteSearch_of_no_record (h : (s.pool d).searchRecord = none) (matched : Option Nat) :
    s.noteSearch d n c p matched = s := by
  simp only [State.noteSearch, h]

theorem noteSearch_of_idle (h : (s.pool d).searchRecord = none ∨ (s.deck d).search = none ∨ (s.mark d).searchReference = none)
    (matched : Option Nat) : s.noteSearch d n c p matched = s := by
  unfold State.noteSearch
  split
  · rename_i hf hl hr
    rw [hf, hl, hr] at h
    simp at h
  · rfl

/-- A mark offered to the noting of a search is noted where it fits and is nearer (R44). -/
theorem noteSearch_of_search {frame : Nat} {legs : SearchLegs} {ref : Int} {matched : Option Nat}
    (hf : (s.pool d).searchRecord = some frame) (hl : (s.deck d).search = some legs)
    (hr : (s.mark d).searchReference = some ref) {offered : Prop}
    (ho : offered ↔ ((∃ r, s.record n frame = some r ∧ r.cls = c) ∧ legs.low ≤ p ∧ (p : Int) ≤ legs.high ∧
      (matched = none ∨ matched = some frame)) ∧
      ∀ q, (s.mark d).searchCandidate = some q → ((p : Int) - ref).natAbs < ((q : Int) - ref).natAbs) :
    (offered → s.noteSearch d n c p matched = s.setMark d { s.mark d with searchCandidate := some p }) ∧
    (¬ offered → s.noteSearch d n c p matched = s) := by
  rw [ho]
  simp only [State.noteSearch, hf, hl, hr]
  cases hc : (s.mark d).searchCandidate with
  | none => exact ⟨fun h => if_pos (by simpa [Option.any_eq_true, and_assoc] using h),
      fun h => if_neg (by simpa [Option.any_eq_true, and_assoc] using h)⟩
  | some q => exact ⟨fun h => if_pos (by simpa [Option.any_eq_true, and_assoc] using h),
      fun h => if_neg (by simpa [Option.any_eq_true, and_assoc] using h)⟩

theorem sameDeck_noteSearch (s : State) (d : DeckId) (n : Slot) (c : MarkClass) (p : Nat) (matched : Option Nat) :
    SameDeck d s (s.noteSearch d n c p matched) := by
  by_cases h : (s.pool d).searchRecord = none ∨ (s.deck d).search = none ∨ (s.mark d).searchReference = none
  · rw [noteSearch_of_idle h]
    exact ⟨rfl, rfl⟩
  · push Not at h
    obtain ⟨hf, hl, hr⟩ := h
    obtain ⟨frame, hf⟩ := Option.ne_none_iff_exists'.mp hf
    obtain ⟨legs, hl⟩ := Option.ne_none_iff_exists'.mp hl
    obtain ⟨ref, hr⟩ := Option.ne_none_iff_exists'.mp hr
    have hcases := noteSearch_of_search (n := n) (c := c) (p := p) (matched := matched) hf hl hr Iff.rfl
    by_cases ho : ((∃ r, s.record n frame = some r ∧ r.cls = c) ∧ legs.low ≤ p ∧ (p : Int) ≤ legs.high ∧
        (matched = none ∨ matched = some frame)) ∧
        ∀ q, (s.mark d).searchCandidate = some q → ((p : Int) - ref).natAbs < ((q : Int) - ref).natAbs
    · rw [hcases.1 ho]
      exact ⟨rfl, rfl⟩
    · rw [hcases.2 ho]
      exact ⟨rfl, rfl⟩

/-! ## A closing edge -/

/-- A mark ended by a closing edge and counted by its class (R28 to R30). -/
def markClosed (s : State) (d : DeckId) (c : WidthClass) : State :=
  s.setMark d (Mark.countClass { s.mark d with accepted := some false, candidate := false, inProgress := none } c)

/-- The position of an ended mark (R29). -/
def markPosition (s : State) (d : DeckId) (x : MarkInProgress) : Nat :=
  match x.direction with
  | .forward => x.opening
  | .backward => (s.deck d).counter

/-- Where an ended mark goes, the crossing set brought up to date, and the report to the scheduler (R31, R41). -/
def delivered (d : DeckId) (x : State × MarkReport) : State := (x.1.updateCrossing d).markReported d x.2

theorem closingEdge_without_mark (hp : s.power d = true) (ha : (s.mark d).accepted ≠ some false)
    (hx : (s.mark d).inProgress = none) : markEdge d false s = s.setMark d { s.mark d with
      accepted := some false, candidate := false, inProgress := none } := by
  rw [markEdge_of_edge hp ha, State.acceptLevel, if_neg (by decide), State.closeMark]
  simp only [State.mark_setMark_self, hx]

theorem closingEdge_of_mark {x : MarkInProgress} (hp : s.power d = true) (ha : (s.mark d).accepted ≠ some false)
    (hx : (s.mark d).inProgress = some x) : markEdge d false s = delivered d
      ((markClosed s d (classify s.params x.travel)).deliverMark d x.direction (classify s.params x.travel)
        (markPosition s d x)) := by
  rw [markEdge_of_edge hp ha, State.acceptLevel, if_neg (by decide), State.closeMark]
  simp only [State.mark_setMark_self, hx]
  rw [State.setMark_setMark]
  rfl

theorem delivered_of_none {t : State} (h : t.updateCrossing d = t) : delivered d (t, .none) = t := h

theorem delivered_of_entry {t : State} {report : MarkReport} (h : SameDeck d s t) (hn : s.entryOf d = some n)
    (hm : (s.deck d).state.matching = true) : delivered d (t, report) = (crossedAs t d n).markReported d report := by
  rw [delivered, updateCrossing_eq (h.1.trans hn) (by rw [h.2]; exact hm)]

theorem deliverMark_unmatched_class (hn : s.entryOf d = some n) (hm : (s.deck d).state.matching = true) {k : WidthClass}
    (hk : k = .noise ∨ k = .fault) (dir : Direction) (p : Nat) : s.deliverMark d dir k p = (s, .none) := by
  cases hs : (s.deck d).state <;> simp only [hs, DeckState.matching, Bool.false_eq_true] at hm <;>
    rcases hk with rfl | rfl <;> simp only [State.deliverMark, hs, hn]

theorem deliverMark_of_mark (hn : s.entryOf d = some n) (hm : (s.deck d).state.matching = true) (dir : Direction) (p : Nat) :
    s.deliverMark d dir (.mark c) p = s.matchMark d n c p := by
  cases hs : (s.deck d).state <;> simp only [hs, DeckState.matching, Bool.false_eq_true] at hm <;>
    simp only [State.deliverMark, hs, hn]

theorem deliverMark_without_entry (h : (s.deck d).state = .rewinding ∨ ((s.deck d).state = .ready ∧ s.entryOf d = none))
    (dir : Direction) (k : WidthClass) (p : Nat) : s.deliverMark d dir k p = (s, .none) := by
  rcases h with h | ⟨h, hn⟩
  · simp only [State.deliverMark, h]
  · simp only [State.deliverMark, h, hn]

/-- A mark within the window of its nearest record (R34, R44). -/
theorem matchMark_of_near (hr : nearest p (s.chain n) = some r) (hw : inWindow s r p = true) :
    s.matchMark d n c p =
      (if (s.deck d).state = .searching then
        ((matchNoted s d r.frame).matchRecord d n r c p).1.noteSearch d n c
          (if ((matchNoted s d r.frame).matchRecord d n r c p).2 = 0 then p
            else addPosition p ((matchNoted s d r.frame).matchRecord d n r c p).2) (some r.frame)
        else ((matchNoted s d r.frame).matchRecord d n r c p).1, .none) := by
  have hfilter : (nearest p (s.chain n)).filter (fun r => r.near s.params.window p) = some r := by
    rw [hr, Option.filter_some, near_eq_inWindow, hw]
    rfl
  simp only [State.matchMark, hfilter, setPool_noteMatch]
  rfl

theorem matchMark_of_far (h : ∀ r, nearest p (s.chain n) = some r → inWindow s r p = false) : s.matchMark d n c p =
    if (s.deck d).state = .searching then ((s.unmatched d n c p).1.noteSearch d n c p none, (s.unmatched d n c p).2)
    else s.unmatched d n c p := by
  have hfilter : (nearest p (s.chain n)).filter (fun r => r.near s.params.window p) = none := by
    cases hr : nearest p (s.chain n) with
    | none => rfl
    | some r =>
      rw [Option.filter_some, near_eq_inWindow, h r hr]
      rfl
  have hstate : ((s.unmatched d n c p).1.deck d).state = (s.deck d).state := (sameDeck_unmatched s d n c p).2
  simp only [State.matchMark, hfilter]

/-- A mark matched is offered to the noting at its place after the correction it made (R44; log 12). -/
theorem noted_position (s : State) (d : DeckId) (n : Slot) (hr : r.position ≤ 2097151) :
    (if (s.matchRecord d n r c p).2 = 0 then p else addPosition p (s.matchRecord d n r c p).2) =
      if c = r.cls ∧ r.condition = .verified then r.position else p := by
  by_cases h : c = r.cls ∧ r.condition = .verified
  · rw [matchRecord_of_verified h.1 h.2, if_pos h]
    split
    · omega
    · unfold addPosition
      dsimp only
      rw [if_pos (by rw [show Config.maxPosition = 2097151 from rfl]; omega)]
      omega
  · have hzero : (s.matchRecord d n r c p).2 = 0 := by
      by_cases hc : c = r.cls
      · cases hcond : r.condition with
        | damaged => rw [matchRecord_of_damaged hc hcond]
        | verified => exact absurd ⟨hc, hcond⟩ h
        | seen | declared =>
          rw [matchRecord_of_unverified hc (by simp [hcond])]
          split <;> rfl
      · rw [matchRecord_of_other_class hc]
    rw [if_pos hzero, if_neg h]

/-! ## The report to the scheduler -/


section
variable {t : TicketNo} {frame pos : Nat}

theorem recordReported_of_inactive (h : (s.sched d).active = none) : s.recordReported d frame pos = s := by
  simp only [State.recordReported, h]

theorem recordReported_of_elsewhere (h : (s.sched d).active = some t) (hx : (s.ticket t).state ≠ .indexing) :
    s.recordReported d frame pos = s := by
  simp only [State.recordReported, h, if_neg hx]

/-- The current frame of an INDEX ticket follows the records (R151). -/
def frameNoted (s : State) (t : TicketNo) (frame : Nat) : State := { s with
  tickets := s.tickets.set t { s.ticket t with
    current := if (s.ticket t).kind = some .index then some frame else (s.ticket t).current } }

theorem frameNoted_eq (s : State) (t : TicketNo) (frame : Nat) : frameNoted s t frame =
    if (s.ticket t).kind = some .index then s.modTicket t fun x => { x with current := some frame } else s := by
  unfold frameNoted
  split
  · rfl
  · exact congrArg (fun ts => { s with tickets := ts }) (Vector.set_getElem_self ..)

/-- The target of the stage reached: a run in progress closes (R151, step 2). -/
def targetNoted (s : State) (d : DeckId) : State := { s with
  scheds := s.scheds.set d { s.sched d with
    targetReached := true, step := if (s.sched d).step = some .run then some .closing else (s.sched d).step } }

theorem sched_targetNoted (s : State) (d : DeckId) : (targetNoted s d).sched d = { s.sched d with
    targetReached := true, step := if (s.sched d).step = some .run then some .closing else (s.sched d).step } :=
  Pair.get_set_self _ _ _

theorem recordReported_of_indexing (h : (s.sched d).active = some t) (hx : (s.ticket t).state = .indexing) :
    s.recordReported d frame pos =
      if (s.sched d).indexTarget = some frame then
        let v := targetNoted (frameNoted s t frame) d
        if (v.sched d).step = some .closing ∧ ((v.callTrack d frame pos).sched d).step = some .closing then
          (v.callTrack d frame pos).stopRun d else v.callTrack d frame pos
      else (frameNoted s t frame).callTrack d frame pos := by
  simp only [State.recordReported, h, hx, if_true, ← frameNoted_eq]
  rfl

theorem poolExhausted_of_indexing (h : (s.sched d).active = some t) (hx : (s.ticket t).state = .indexing)
    (hc : (s.ticket t).cancelPending = false) : s.poolExhausted d = (s.finalize t .poolFull).stopRun d := by
  simp only [State.poolExhausted, h, hx, hc, and_self, if_true]

theorem poolExhausted_of_other (h : (s.sched d).active = some t)
    (hx : (s.ticket t).state ≠ .indexing ∨ (s.ticket t).cancelPending = true) : s.poolExhausted d = s.stopRun d := by
  have hnot : ¬ ((s.ticket t).state = .indexing ∧ (s.ticket t).cancelPending = false) := by
    rintro ⟨h1, h2⟩
    exact hx.elim (fun h => h h1) fun h => absurd (h.symm.trans h2) (by decide)
  simp only [State.poolExhausted, h, if_neg hnot]

end

end

/-- Settles O48: `nearest_cut`; a closing edge by `closingEdge_of_mark` and where the mark is delivered; the noting of a search; and
the reports by the ticket's stage. -/
theorem marksClassifiedAndCounted : Obligations.MarksClassifiedAndCounted := by
  refine ⟨⟨fun p w h12 h23 => ?classes, fun p chain => ⟨nearest_eq_none_iff, fun r hr => nearest_cut hr⟩⟩,
    fun s d hrun hp ha => ?bare, fun s d n x hrun hm hn ha hx => ?entry, fun s d n c p matched => ?noting,
    fun s d frame pos => ?report, fun s d hs => ⟨fun hm => (stopRun_eq hs).trans (if_neg hm), fun hm =>
        (stopRun_eq hs).trans (if_pos hm)⟩⟩
  case classes =>
    unfold classify
    refine ⟨?_, ?_, fun h => ?_, fun h => ?_, fun h => ?_⟩ <;> split_ifs <;> simp <;> omega
  case bare =>
    intro m p put closed
    have closes {t : State} (h : markEdge d false s = t) : exec (.markClosingEdge d) s = .next t := next_live_eq hrun h
    refine ⟨fun hx => closes (closingEdge_without_mark hp ha hx), fun x hx hs => ?_⟩
    have counted (k : WidthClass) (hk : classify s.params x.travel = k) : markEdge d false s = markClosed s d k := by
      rw [closingEdge_of_mark hp ha hx, hk, deliverMark_without_entry (s := markClosed s d k) hs, delivered_of_none]
      rcases hs with hs | ⟨-, hn⟩
      · exact updateCrossing_of_not_matching (s := markClosed s d k) (by
          rw [show ((markClosed s d k).deck d).state = .rewinding from hs]
          rfl)
      · exact updateCrossing_of_no_entry (by exact hn)
    refine ⟨fun h => closes (counted _ (classify_noise h)), fun h1 h2 => ?_,
      fun h h1 h2 h3 => closes (counted _ (classify_fault h h1 h2 h3))⟩
    obtain ⟨c, hc⟩ := classify_mark h1 h2
    exact closes (counted _ hc)
  case entry =>
    intro m put does searches p
    have closes {t : State} (h : markEdge d false s = t) : does t := next_live_eq hrun h
    have closing := closingEdge_of_mark (power_of_matching hm) ha hx
    have unclassed {k : WidthClass} (hk : classify s.params x.travel = k) (h : k = .noise ∨ k = .fault) :
        markEdge d false s = crossedAs (markClosed s d k) d n := by
      rw [closing, hk, deliverMark_unmatched_class (s := markClosed s d k) hn hm h,
        delivered_of_entry (s := s) (t := markClosed s d k) (n := n) ⟨rfl, rfl⟩ hn hm]
      rfl
    refine ⟨fun hk => closes (unclassed hk (.inl rfl)), fun hk => closes (unclassed hk (.inr rfl)), fun c hk => ?_⟩
    intro u
    have marked : markEdge d false s = delivered d (u.matchMark d n c p) := by
      rw [closing, hk, deliverMark_of_mark (s := markClosed s d (.mark c)) hn hm]
      rfl
    refine ⟨fun r hr hw => ?_, fun hfar => ?_⟩
    · intro v
      have hv : SameDeck d s v := SameDeck.trans (t := matchNoted u d r.frame) ⟨rfl, rfl⟩ (sameDeck_matchRecord ..)
      have matched := marked.trans (congrArg (delivered d) (matchMark_of_near (s := u) (d := d) (c := c) hr hw))
      refine ⟨fun hs => closes ?_, fun hs hpos => closes ?_⟩
      · rw [if_neg (show ¬ (u.deck d).state = .searching from hs)] at matched
        exact matched.trans (delivered_of_entry (s := s) (n := n) hv hn hm)
      · rw [if_pos (show (u.deck d).state = .searching from hs), noted_position (matchNoted u d r.frame) d n hpos] at matched
        exact matched.trans (delivered_of_entry (s := s) (n := n) (hv.trans (sameDeck_noteSearch ..)) hn hm)
    · intro v w
      have hv : SameDeck d s v.1 := SameDeck.trans (t := u) ⟨rfl, rfl⟩ (sameDeck_unmatched ..)
      have far := marked.trans (congrArg (delivered d) (matchMark_of_far (s := u) (d := d) (c := c) hfar))
      refine ⟨fun hs => closes ?_, fun hs hnone => closes ?_, fun hs hfull => closes ?_, fun frame pos hs hnew => closes ?_⟩
      · rw [if_pos (show (u.deck d).state = .searching from hs), unmatched_none_of_not_indexing (s := u) (by
          rw [show (u.deck d).state = .searching from hs]
          decide)] at far
        exact far.trans (delivered_of_entry (s := s) (n := n) (hv.trans (sameDeck_noteSearch ..)) hn hm)
      all_goals
        rw [if_neg (show ¬ (u.deck d).state = .searching from hs)] at far
        refine far.trans ((delivered_of_entry (s := s) (t := v.1) (report := v.2) (n := n) hv hn hm).trans ?_)
      · rw [hnone]
        rfl
      · rw [hfull]
        rfl
      · rw [hnew]
        rfl
  case noting =>
    refine ⟨fun h => noteSearch_of_no_record h matched, fun frame legs ref hf hl hr => ?_⟩
    intro fits nearer
    obtain ⟨hnoted, hkept⟩ := noteSearch_of_search (n := n) (c := c) (p := p) (matched := matched) (offered := fits ∧ nearer)
      hf hl hr Iff.rfl
    exact ⟨fun h1 h2 => hnoted ⟨h1, h2⟩, fun h => hkept fun ⟨h1, h2⟩ => h.elim (· h1) (· h2)⟩
  case report =>
    intro c reported
    refine ⟨recordReported_of_inactive, fun t ht => ?_⟩
    intro x u v w closes
    have hstep : (v.sched d).step = some .closing ↔ c.step = some .run ∨ c.step = some .closing := by
      rw [show v.sched d = _ from Pair.get_set_self _ _ _]
      dsimp only
      split
      · rename_i h
        exact ⟨fun _ => .inl h, fun _ => rfl⟩
      · rename_i h
        exact ⟨.inr, fun hh => hh.resolve_left h⟩
    have indexing (hx : x.state = .indexing) : reported = if c.indexTarget = some frame then
        if (v.sched d).step = some .closing ∧ (w.sched d).step = some .closing then w.stopRun d else w
        else u.callTrack d frame pos := recordReported_of_indexing ht hx
    refine ⟨recordReported_of_elsewhere ht, fun hx hne => (indexing hx).trans (if_neg hne), fun hx he => ?_,
      poolExhausted_of_indexing ht, poolExhausted_of_other ht⟩
    have reaches := (indexing hx).trans (if_pos he)
    exact ⟨fun ⟨h1, h2⟩ => reaches.trans (if_pos ⟨hstep.mpr h1, h2⟩),
      fun h => reaches.trans (if_neg fun ⟨h1, h2⟩ => h ⟨hstep.mp h1, h2⟩)⟩

end Sys2Proof.Machine
end


section
/-! PROOFS. The arbiter: the table of R109, a job's end, the request flags, and how a decision is carried out (O53). -/

namespace Sys2Proof.Machine

section Table
variable {o : Opa} {limited : Option DeckId} {x g : DeckId}

theorem decide_at_own_gate (hp : o.path = .atGate x) (hx : o.requests.get x = true) (hw : o.wanted ≠ some x.other)
    (hl : limited ≠ some x) : o.decide limited = .grant x := by
  simp only [Opa.decide, hp, if_pos (And.intro hx (And.intro hw hl))]

theorem decide_for_other_gate (hp : o.path = .atGate x) (ho : o.requests.get x.other = true)
    (h : ¬ o.requests.get x = true ∨ limited = some x ∨ o.wanted = some x.other) : o.decide limited = .want x.other := by
  have hno : ¬ (o.requests.get x = true ∧ o.wanted ≠ some x.other ∧ limited ≠ some x) := by
    rintro ⟨hx, hw, hl⟩
    rcases h with h | h | h
    · exact h hx
    · exact hl h
    · exact hw h
  simp only [Opa.decide, hp, if_neg hno, if_pos ho]

theorem decide_without_request (hp : o.path = .atGate x) (hx : ¬ o.requests.get x = true)
    (ho : ¬ o.requests.get x.other = true) : o.decide limited = .clear := by
  simp only [Opa.decide, hp, if_neg (fun h : o.requests.get x = true ∧ _ => hx h.1), if_neg ho, if_neg hx]

theorem decide_while_moving (hp : o.path = .moving x) : o.decide limited = .keep := by simp only [Opa.decide, hp]

theorem decide_in_fault (hp : o.path = .fault g) (hw : o.wanted = none) (hf : o.faultFirst = some x)
    (hx : o.requests.get x = true) : o.decide limited = .want x := by simp only [Opa.decide, hp, hw, hf, if_pos hx]

theorem decide_in_fault_with_move (hp : o.path = .fault g) (hw : o.wanted = some x) : o.decide limited = .keep := by
  simp only [Opa.decide, hp, hw]

end Table

/-! ## A decision carried out -/

/-- The arbiter replaced. -/
def State.setOpa (s : State) (o : Opa) : State := { s with opa := o }

/-- What a grant makes of a state with arbiter `o` (R102, R109). -/
def grantedAs (s : State) (o : Opa) (x : DeckId) : State :=
  let c := s.sched x.other
  let u := s.setOpa { o with holder := some x, jobCount := 0, closing := false, job := false, wanted := none }
  if c.track.any (fun tr => !tr.running) then
    { u with
      scheds := s.scheds.set x.other { c with track := none }
      fseq := { s.fseq with skippedTrack := s.fseq.skippedTrack + 1 } }
  else u

theorem grant_setOpa (s : State) (o : Opa) (x : DeckId) : (s.setOpa o).grant x = grantedAs s o x := by
  have hs : (s.setOpa { o with holder := some x, jobCount := 0, closing := false, job := false, wanted := none }).sched
      x.other = s.sched x.other := rfl
  unfold State.grant grantedAs
  cases ht : (s.sched x.other).track with
  | none => simp only [State.setOpa] at hs ⊢; simp [hs, ht]
  | some tr =>
    simp only [State.setOpa] at hs ⊢
    cases hr : tr.running <;> simp [hs, ht, hr, State.setSched]

theorem grantedAs_without_track {s : State} {o : Opa} {x : DeckId}
    (h : (s.sched x.other).track.any (fun tr => !tr.running) = false) : grantedAs s o x =
      s.setOpa { o with holder := some x, jobCount := 0, closing := false, job := false, wanted := none } :=
  if_neg (by simp [h])

theorem grantedAs_with_track {s : State} {o : Opa} {x : DeckId}
    (h : (s.sched x.other).track.any (fun tr => !tr.running) = true) : grantedAs s o x =
      { s.setOpa { o with holder := some x, jobCount := 0, closing := false, job := false, wanted := none } with
        scheds := s.scheds.set x.other { s.sched x.other with track := none }
        fseq := { s.fseq with skippedTrack := s.fseq.skippedTrack + 1 } } :=
  if_pos h

theorem wanted_grantedAs (s : State) (o : Opa) (x : DeckId) : (grantedAs s o x).opa.wanted = none := by
  cases h : (s.sched x.other).track.any (fun tr => !tr.running) with
  | true => rw [grantedAs_with_track h]; rfl
  | false => rw [grantedAs_without_track h]; rfl

/-- The arbiter with a move toward gate `g` begun, and ended there (R107). -/
def Opa.movingTo (o : Opa) (g : DeckId) : Opa :=
  { o with path := .moving g, wanted := none, faultFirst := none, moveTimer := some ⟨4000, 0⟩ }

def Opa.setAt (o : Opa) (g : DeckId) : Opa := { o with path := .atGate g, wanted := none, faultFirst := none, moveTimer := none }

section Carried
variable {s : State} {n : Nat} {limited : Option DeckId} {x g : DeckId}

theorem arbitrate_of_holder (h : s.opa.holder ≠ none) : State.arbitrate (n + 1) limited s = s :=
  if_pos (Option.isSome_iff_ne_none.mpr h)

theorem arbitrate_of_free (h : s.opa.holder = none) : State.arbitrate (n + 1) limited s =
    match (s.apply (s.opa.decide limited)).opa.wanted with
    | some g =>
      if (s.apply (s.opa.decide limited)).moveMayBegin then
        if ((s.apply (s.opa.decide limited)).beginMove g).pins.limits.get g then
          State.arbitrate n none (((s.apply (s.opa.decide limited)).beginMove g).endMove g)
        else (s.apply (s.opa.decide limited)).beginMove g
      else s.apply (s.opa.decide limited)
    | none => s.apply (s.opa.decide limited) :=
  if_neg (by simp [h] : ¬ s.opa.holder.isSome = true)

theorem arbitrate_of_unwanted {u : State} (h : s.opa.holder = none) (hu : s.apply (s.opa.decide limited) = u)
    (hw : u.opa.wanted = none) : State.arbitrate (n + 1) limited s = u := by
  rw [arbitrate_of_free h, hu, hw]

theorem arbitrate_of_grant (h : s.opa.holder = none) (hd : s.opa.decide limited = .grant x) :
    State.arbitrate (n + 1) limited s = grantedAs s s.opa x :=
  arbitrate_of_unwanted h (by rw [hd]; exact grant_setOpa s s.opa x) (wanted_grantedAs _ _ _)

theorem arbitrate_of_clear (h : s.opa.holder = none) (hd : s.opa.decide limited = .clear) :
    State.arbitrate (n + 1) limited s = s.setOpa { s.opa with wanted := none } :=
  arbitrate_of_unwanted h (by rw [hd]; rfl) rfl

theorem arbitrate_of_keep (h : s.opa.holder = none) (hd : s.opa.decide limited = .keep) (hw : s.opa.wanted = none) :
    State.arbitrate (n + 1) limited s = s :=
  arbitrate_of_unwanted h (by rw [hd]; rfl) hw

theorem setOpa_self {o : Opa} (h : o = s.opa) : s.setOpa o = s := by rw [h]; rfl

/-- A move toward gate `g` is wanted: by this decision, or since before. -/
def Wants (s : State) (limited : Option DeckId) (g : DeckId) : Prop :=
  s.opa.decide limited = .want g ∨ (s.opa.decide limited = .keep ∧ s.opa.wanted = some g)

theorem arbitrate_of_wants (h : s.opa.holder = none) (hd : Wants s limited g) : State.arbitrate (n + 1) limited s =
    if (s.setOpa { s.opa with wanted := some g }).moveMayBegin then
      if s.pins.limits.get g then State.arbitrate n none (s.setOpa (s.opa.setAt g)) else s.setOpa (s.opa.movingTo g)
    else s.setOpa { s.opa with wanted := some g } := by
  have happly : s.apply (s.opa.decide limited) = s.setOpa { s.opa with wanted := some g } := by
    rcases hd with hd | ⟨hd, hw⟩
    · rw [hd]; rfl
    · rw [hd, setOpa_self (by rw [← hw])]; rfl
  rw [arbitrate_of_free h, happly]
  rfl

theorem moveMayBegin_iff (h : s.opa.holder = none) (g : DeckId) :
    (s.setOpa { s.opa with wanted := some g }).moveMayBegin = true ↔ s.hlp.order = none ∧ s.pins.hold = false := by
  have hs : (s.setOpa { s.opa with wanted := some g }).opa.holder = none := h
  simp only [State.moveMayBegin, hs]
  simp [State.setOpa]

theorem arbitrate_of_held_back (h : s.opa.holder = none) (hd : Wants s limited g)
    (hfree : ¬ (s.hlp.order = none ∧ s.pins.hold = false)) :
    State.arbitrate (n + 1) limited s = s.setOpa { s.opa with wanted := some g } := by
  rw [arbitrate_of_wants h hd, if_neg (mt (moveMayBegin_iff h g).mp hfree)]

theorem arbitrate_of_move (h : s.opa.holder = none) (hd : Wants s limited g)
    (hfree : s.hlp.order = none ∧ s.pins.hold = false) (hm : ¬ s.pins.limits.get g = true) :
    State.arbitrate (n + 1) limited s = s.setOpa (s.opa.movingTo g) := by
  rw [arbitrate_of_wants h hd, if_pos ((moveMayBegin_iff h g).mpr hfree), if_neg hm]

theorem arbitrate_of_made (h : s.opa.holder = none) (hd : Wants s limited g)
    (hfree : s.hlp.order = none ∧ s.pins.hold = false) (hm : s.pins.limits.get g = true) :
    State.arbitrate (n + 1) limited s = State.arbitrate n none (s.setOpa (s.opa.setAt g)) := by
  rw [arbitrate_of_wants h hd, if_pos ((moveMayBegin_iff h g).mpr hfree), if_pos hm]

/-! A path just set at gate `g`, with the tenure free. -/

theorem arbitrate_setAt_of_own (h : s.opa.holder = none) (hr : s.opa.requests.get g = true) :
    State.arbitrate (n + 1) none (s.setOpa (s.opa.setAt g)) = grantedAs s (s.opa.setAt g) g :=
  arbitrate_of_grant (s := s.setOpa (s.opa.setAt g)) h
    (decide_at_own_gate (o := s.opa.setAt g) rfl hr (Option.some_ne_none _).symm (Option.some_ne_none _).symm)

theorem arbitrate_setAt_of_none (h : s.opa.holder = none) (hr : s.opa.requests.get g = false)
    (ho : s.opa.requests.get g.other = false) :
    State.arbitrate (n + 1) none (s.setOpa (s.opa.setAt g)) = s.setOpa (s.opa.setAt g) :=
  arbitrate_of_clear (s := s.setOpa (s.opa.setAt g)) h
    (decide_without_request (o := s.opa.setAt g) rfl (Bool.eq_false_iff.mp hr) (Bool.eq_false_iff.mp ho))

theorem wants_other_setAt (hr : s.opa.requests.get g = false) (ho : s.opa.requests.get g.other = true) :
    Wants (s.setOpa (s.opa.setAt g)) none g.other :=
  .inl (decide_for_other_gate (o := s.opa.setAt g) rfl ho (.inl (Bool.eq_false_iff.mp hr)))

theorem arbitrate_setAt_of_other (h : s.opa.holder = none) (hr : s.opa.requests.get g = false)
    (ho : s.opa.requests.get g.other = true) (hfree : s.hlp.order = none ∧ s.pins.hold = false)
    (hm : ¬ s.pins.limits.get g.other = true) :
    State.arbitrate (n + 1) none (s.setOpa (s.opa.setAt g)) = s.setOpa (s.opa.movingTo g.other) :=
  arbitrate_of_move (s := s.setOpa (s.opa.setAt g)) h (wants_other_setAt hr ho) hfree hm

theorem arbitrate_setAt_of_other_made (h : s.opa.holder = none) (hr : s.opa.requests.get g = false)
    (ho : s.opa.requests.get g.other = true) (hfree : s.hlp.order = none ∧ s.pins.hold = false)
    (hm : s.pins.limits.get g.other = true) :
    State.arbitrate (n + 2) none (s.setOpa (s.opa.setAt g)) = grantedAs s (s.opa.setAt g.other) g.other :=
  (arbitrate_of_made (s := s.setOpa (s.opa.setAt g)) h (wants_other_setAt hr ho) hfree hm).trans
    (arbitrate_setAt_of_own h ho)

end Carried

/-! ## Jobs, requests and closing -/

section Tenure
variable {s : State} {d : DeckId}

theorem decideTenure_released (h : s.opa.closing = true ∨ ¬ s.opa.requests.get d = true) :
    s.decideTenure d = s.releaseTenure none := by
  unfold State.decideTenure
  by_cases hc : s.opa.closing = true
  · rw [if_pos hc]
  · rw [if_neg hc, if_neg (h.resolve_left hc)]

theorem decideTenure_kept (hc : s.opa.closing = false) (hr : s.opa.requests.get d = true)
    (h : ¬ s.opa.requests.get d.other = true ∨ s.opa.jobCount < s.params.tenureLimit) : s.decideTenure d = s := by
  have hno : ¬ (s.opa.requests.get d.other = true ∧ s.opa.jobCount ≥ s.params.tenureLimit) := by
    rintro ⟨ho, hn⟩
    rcases h with h | h
    · exact h ho
    · exact absurd hn (Nat.not_le.mpr h)
  rw [State.decideTenure, if_neg (by simp [hc]), if_pos hr, if_neg hno]

theorem decideTenure_limited (hc : s.opa.closing = false) (hr : s.opa.requests.get d = true)
    (ho : s.opa.requests.get d.other = true) (hn : s.params.tenureLimit ≤ s.opa.jobCount) :
    s.decideTenure d = s.releaseTenure (some d) := by
  rw [State.decideTenure, if_neg (by simp [hc]), if_pos hr, if_pos ⟨ho, hn⟩]

theorem jobEnd_of_job (hh : s.opa.holder = some d) (hj : s.opa.job = true) :
    s.jobEnd d = (s.setOpa { s.opa with job := false, jobCount := min 32 (s.opa.jobCount + 1) }).decideTenure d :=
  if_pos ⟨hh, hj⟩

theorem raise_of_lowered (h : ¬ s.opa.requests.get d = true) : s.raise d =
    (s.setOpa { s.opa with requests := s.opa.requests.set d true, faultFirst := s.opa.noteRaise d }).arbitrateNow none :=
  if_neg h

theorem withdraw_in_job (h : s.opa.requests.get d = true) (hh : s.opa.holder = some d) (hj : s.opa.job = true) :
    s.withdraw d = s.setOpa (s.opa.lower d) := by
  have hh' : (s.opa.lower d).holder = some d := hh
  have hj' : (s.opa.lower d).job = true := hj
  simp only [State.withdraw, if_pos h, if_pos hh', if_pos hj', State.setOpa]

theorem withdraw_between_jobs (h : s.opa.requests.get d = true) (hh : s.opa.holder = some d) (hj : s.opa.job = false) :
    s.withdraw d = (s.setOpa (s.opa.lower d)).releaseTenure none := by
  have hh' : (s.opa.lower d).holder = some d := hh
  have hj' : ¬ (s.opa.lower d).job = true := by rw [show (s.opa.lower d).job = s.opa.job from rfl, hj]; exact Bool.false_ne_true
  have hr : ¬ (s.opa.lower d).requests.get d = true := by simp [Opa.lower]
  simp only [State.withdraw, if_pos h, if_pos hh', if_neg hj']
  exact decideTenure_released (s := s.setOpa (s.opa.lower d)) (.inr hr)

theorem withdraw_without_tenure (h : s.opa.requests.get d = true) (hh : s.opa.holder ≠ some d) :
    s.withdraw d = (s.setOpa ((s.opa.lower d).dropWanted d)).arbitrateNow none := by
  have hh' : ¬ (s.opa.lower d).holder = some d := hh
  simp only [State.withdraw, if_pos h, if_neg hh', State.setOpa]

/-- The move still wanted after deck `d` has withdrawn (R108). -/
def Opa.keptClaim (o : Opa) (d : DeckId) : Option DeckId :=
  match o.path with
  | .moving _ => o.wanted
  | .atGate _ | .fault _ => if o.wanted = some d then none else o.wanted

theorem dropWanted_of_moving {o : Opa} {g : DeckId} (hp : o.path = .moving g) (d : DeckId) : o.dropWanted d = o := by
  simp only [Opa.dropWanted, hp]

theorem dropWanted_of_not_moving {o : Opa} (hp : ∀ g, o.path ≠ .moving g) (d : DeckId) :
    o.dropWanted d = { o with wanted := if o.wanted = some d then none else o.wanted } := by
  have hif : o.dropWanted d = if o.wanted = some d then { o with wanted := none } else o := by
    cases hpath : o.path with
    | moving g => exact absurd hpath (hp g)
    | atGate g => simp only [Opa.dropWanted, hpath]
    | fault g => simp only [Opa.dropWanted, hpath]
  rw [hif]
  by_cases h : o.wanted = some d
  · simp only [if_pos h]
  · simp only [if_neg h]

theorem dropWanted_lower (o : Opa) (d : DeckId) : (o.lower d).dropWanted d = { o.lower d with wanted := o.keptClaim d } := by
  have hlower : ∀ p, o.path = p → (o.lower d).path = p := fun _ h => h
  cases hp : o.path with
  | moving g => rw [dropWanted_of_moving (hlower _ hp)]; simp only [Opa.keptClaim, hp]; rfl
  | atGate g =>
    rw [dropWanted_of_not_moving (fun g' h => by rw [hlower _ hp] at h; cases h)]; simp only [Opa.keptClaim, hp]; rfl
  | fault g =>
    rw [dropWanted_of_not_moving (fun g' h => by rw [hlower _ hp] at h; cases h)]; simp only [Opa.keptClaim, hp]; rfl

theorem closeTenure_in_job (hh : s.opa.holder = some d) (hj : s.opa.job = true) :
    s.closeTenure d = s.setOpa { s.opa with closing := true } := by
  simp only [State.closeTenure, if_pos hh, if_pos hj, State.setOpa]

theorem closeTenure_between_jobs (hh : s.opa.holder = some d) (hj : s.opa.job = false) :
    s.closeTenure d = s.releaseTenure none := by
  have hj' : ¬ s.opa.job = true := Bool.eq_false_iff.mp hj
  simp only [State.closeTenure, if_pos hh, if_neg hj']
  exact decideTenure_released (s := s.setOpa { s.opa with closing := true }) (.inl rfl)

end Tenure

/-- Settles O53: the table row by row, the end of a job and the withdrawals through the decision of R111, and the carrying out
by at most two moves that end at once. -/
theorem arbitrationAndTenureDecided : Obligations.ArbitrationAndTenureDecided := by
  unfold Obligations.ArbitrationAndTenureDecided
  refine ⟨?table, ?job, ?flags, ?carried⟩
  case table =>
    intro o limited x mine others
    exact ⟨fun hp => ⟨decide_at_own_gate hp, decide_for_other_gate hp, decide_without_request hp⟩, decide_while_moving,
      fun _ => decide_in_fault, fun _ _ => decide_in_fault_with_move⟩
  case job =>
    intro s d hh hj n u free mine others
    have hend : s.jobEnd d = u.decideTenure d := jobEnd_of_job hh hj
    refine ⟨fun h => ?_, fun hc hm h => ?_, fun hc hm ho hn => ?_⟩
    · exact hend.trans (decideTenure_released (s := u) h)
    · exact hend.trans (decideTenure_kept (s := u) hc hm h)
    · exact hend.trans (decideTenure_limited (s := u) hc hm ho hn)
  case flags =>
    intro s d o asks put first lowered claim released
    refine ⟨fun h => if_pos h, fun h => raise_of_lowered h, fun h => if_neg h, withdraw_in_job,
        withdraw_between_jobs, fun h hh => ?_,
      closeTenure_of_not_holder, closeTenure_in_job, closeTenure_between_jobs⟩
    rw [withdraw_without_tenure h hh, dropWanted_lower]
    rfl
  case carried =>
    intro s limited o does put granted moving set free made
    refine ⟨arbitrate_of_holder, fun x => arbitrate_of_grant, arbitrate_of_clear, arbitrate_of_keep, fun g hh hd =>
      ⟨arbitrate_of_held_back hh hd, arbitrate_of_move hh hd, fun hf hm hr => ?own, fun hf hm hr ho => ?none,
        fun hf hm hr ho hmo => ?other, fun hf hm hr ho hmo => ?made⟩⟩
    case own => exact (arbitrate_of_made hh hd hf hm).trans (arbitrate_setAt_of_own hh hr)
    case none => exact (arbitrate_of_made hh hd hf hm).trans (arbitrate_setAt_of_none hh hr ho)
    case other => exact (arbitrate_of_made hh hd hf hm).trans (arbitrate_setAt_of_other hh hr ho hf hmo)
    case made => exact (arbitrate_of_made hh hd hf hm).trans (arbitrate_setAt_of_other_made hh hr ho hf hmo)

end Sys2Proof.Machine
end


section
/-! PROOFS. The ends of a move of the path: the limit input, and the move that times out (O52). -/

namespace Sys2Proof.Machine

section
variable {s : State} {d g : DeckId} {t : TicketNo} {o : TicketOutcome}

theorem deck_leftIdle (s : State) (e : Option DeckId) (d : DeckId) : (leftIdle s e).deck d = s.deck d := by
  cases e <;> rfl

theorem deck_uncount (s : State) (k : Slot) (d : DeckId) : (s.uncount k).deck d = s.deck d := by
  obtain ⟨_, _, _, h⟩ := uncount_shape s k
  rw [h]
  rfl

theorem deck_finalize (s : State) (t : TicketNo) (o : TicketOutcome) (d : DeckId) : (s.finalize t o).deck d = s.deck d := by
  cases hlive : (s.ticket t).state.isLive with
  | false => rw [finalize_of_not_live hlive]
  | true =>
    cases hk : (s.ticket t).slot with
    | none => rw [finalize_of_no_slot hlive hk, deck_leftIdle]; rfl
    | some k => rw [finalize_of_slot hlive hk, deck_leftIdle, deck_uncount]; rfl

/-! ## The limit input -/

theorem limitMade_of_elsewhere (h : s.opa.path ≠ .moving g ∨ s.opa.moveTimer = none) : s.limitMade g = s := by
  refine if_neg ?_
  rintro ⟨hp, ht⟩
  rcases h with h | h
  · exact h hp
  · rw [h] at ht; cases ht

theorem limitMade_of_move {tm : Timer} (hp : s.opa.path = .moving g) (ht : s.opa.moveTimer = some tm) :
    s.limitMade g = (s.setOpa { s.opa with path := .atGate g, moveTimer := none }).arbitrateNow none :=
  if_pos ⟨hp, by rw [ht]; rfl⟩

/-- A move that ends at a gate where no deck requests leaves the tenure free. -/
theorem limitMade_without_request {tm : Timer} (hp : s.opa.path = .moving g) (ht : s.opa.moveTimer = some tm)
    (hh : s.opa.holder = none) (hr : s.opa.requests = ⟨false, false⟩) :
    s.limitMade g = s.setOpa { s.opa with path := .atGate g, moveTimer := none, wanted := none } := by
  have hlow : ∀ e, ¬ s.opa.requests.get e = true := by intro e; rw [hr]; cases e <;> exact Bool.false_ne_true
  rw [limitMade_of_move hp ht]
  exact arbitrate_of_clear (s := s.setOpa { s.opa with path := .atGate g, moveTimer := none }) hh
    (decide_without_request (o := { s.opa with path := .atGate g, moveTimer := none }) rfl (hlow g) (hlow g.other))

theorem limitMade_with_request {tm : Timer} (hp : s.opa.path = .moving g) (ht : s.opa.moveTimer = some tm)
    (hh : s.opa.holder = none) (hr : s.opa.requests.get g = true) (hw : s.opa.wanted = none) :
    s.limitMade g = grantedAs s { s.opa with path := .atGate g, moveTimer := none } g := by
  rw [limitMade_of_move hp ht]
  refine arbitrate_of_grant (s := s.setOpa { s.opa with path := .atGate g, moveTimer := none }) hh
    (decide_at_own_gate (o := { s.opa with path := .atGate g, moveTimer := none }) rfl hr ?_ (Option.some_ne_none _).symm)
  rw [show ({ s.opa with path := .atGate g, moveTimer := none } : Opa).wanted = s.opa.wanted from rfl, hw]
  exact (Option.some_ne_none _).symm

theorem track_any_of_all {c : Sched} (h : c.track.all (·.running) = true) : c.track.any (fun tr => !tr.running) = false := by
  cases hc : c.track with
  | none => rfl
  | some tr => rw [hc] at h; exact (Bool.not_eq_false' ..).mpr h

/-! ## A move that times out -/

/-- The request flag that the scheduler keeps of a deck lowered. -/
def requestDropped (s : State) (d : DeckId) : State :=
  { s with scheds := s.scheds.set d { s.sched d with request := false } }

theorem sched_requestDropped (s : State) (d : DeckId) :
    (requestDropped s d).sched d = { s.sched d with request := false } := Pair.get_set_self ..

theorem pathFaulted_of_inactive (h : (s.sched d).active = none) : s.pathFaulted d = requestDropped s d := by
  have hd : (requestDropped s d).sched d = { s.sched d with request := false } := sched_requestDropped s d
  change (match ((requestDropped s d).sched d).active with
    | none => requestDropped s d
    | some t => _) = _
  simp only [hd, h]

theorem pathFaulted_of_active (h : (s.sched d).active = some t) : s.pathFaulted d =
    if (s.sched d).track.isSome then (requestDropped s d).skipTrack d
    else match (s.deck d).state with
      | .shuttling | .searching => (((requestDropped s d).finalize t .pathFault).stop d).1
      | _ => (requestDropped s d).finalize t .pathFault := by
  have hd : (s.modSched d fun c => { c with request := false }) = requestDropped s d := rfl
  have hdeck : (requestDropped s d).deck d = s.deck d := rfl
  simp only [State.pathFaulted, hd, sched_requestDropped, h, deck_finalize, hdeck] <;> rfl

theorem stoppedWhereMoving_of_no_motion
    (h : (s.deck d).state ≠ .shuttling ∧ (s.deck d).state ≠ .indexing ∧ (s.deck d).state ≠ .searching) :
    stoppedWhereMoving s d = s := by
  obtain ⟨h1, h2, h3⟩ := h
  unfold stoppedWhereMoving
  split
  · exact absurd ‹_› h1
  · exact absurd ‹_› h2
  · exact absurd ‹_› h3
  · rfl

/-- The failure with PATH_FAULT of an active ticket, and the stop of its shuttle or search (R165). -/
theorem pathFaulted_without_track (h : (s.sched d).active = some t) (ht : (s.sched d).track = none) : s.pathFaulted d =
    if (s.deck d).state = .indexing then (requestDropped s d).finalize t .pathFault
    else stoppedWhereMoving ((requestDropped s d).finalize t .pathFault) d := by
  have hdeck : ((requestDropped s d).finalize t .pathFault).deck d = s.deck d := deck_finalize ..
  rw [pathFaulted_of_active h, ht]
  cases hs : (s.deck d).state with
  | shuttling | searching => exact congrArg Prod.fst (stop_eq _ _)
  | indexing => rfl
  | empty | seated | threading | identifying | ready | rewinding | halted =>
    have hno : stoppedWhereMoving ((requestDropped s d).finalize t .pathFault) d = (requestDropped s d).finalize t .pathFault := by
      refine stoppedWhereMoving_of_no_motion ?_
      rw [hdeck, hs]
      decide
    exact hno.symm

theorem pathFaulted_with_track {tr : Track} (h : (s.sched d).active = some t) (ht : (s.sched d).track = some tr) :
    s.pathFaulted d = { s with
      scheds := s.scheds.set d { s.sched d with request := false, track := none }
      fseq := { s.fseq with skippedTrack := s.fseq.skippedTrack + 1 } } := by
  rw [pathFaulted_of_active h, ht]
  simp only [Option.isSome_some, if_true, State.skipTrack, State.modSched, sched_requestDropped]
  simp only [requestDropped, State.setSched, Pair.set_set]

/-- The arbiter after a move that timed out (R107, R112). -/
def Opa.faulted (o : Opa) (g : DeckId) : Opa :=
  { o with path := .fault g, moveTimer := none, requests := ⟨false, false⟩, faultFirst := none }

theorem enterFault_of_move {tm : Timer} (hp : s.opa.path = .moving g) (ht : s.opa.moveTimer = some tm) :
    s.enterFault = (s.setOpa (s.opa.faulted g), s.opa.requests) := by
  simp only [State.enterFault, hp, ht]
  rfl

theorem pathTimesOut_of_move {tm : Timer} (hp : s.opa.path = .moving g) (ht : s.opa.moveTimer = some tm) :
    pathTimesOut s = (let u : State :=
        if s.opa.requests.a then (s.setOpa (s.opa.faulted g)).pathFaulted .a else s.setOpa (s.opa.faulted g)
      if s.opa.requests.b then u.pathFaulted .b else u).settle := by
  simp only [pathTimesOut, enterFault_of_move hp ht]

end

/-- Settles O52: the limit input by what the arbiter decides at the gate reached, the timeout deck by deck. -/
theorem pathMovesEnd : Obligations.PathMovesEnd := by
  unfold Obligations.PathMovesEnd
  intro s g hrun limits
  refine ⟨next_live_eq hrun rfl, fun h => next_live_eq hrun ?elsewhere, fun tm hp ht hh =>
    ⟨fun hidle => next_live_eq hrun ?idle, ?granted⟩, ?timeout⟩
  case elsewhere => exact congrArg State.settle (limitMade_of_elsewhere (s := limits true) h)
  case idle =>
    have hlow : s.opa.requests = ⟨false, false⟩ := (schedIdle_iff.mp hidle).2.1
    refine (congrArg State.settle (limitMade_without_request (s := limits true) hp ht hh hlow)).trans
      (settle_of_idle (schedIdle_congr hidle rfl rfl rfl))
  case granted =>
    intro hr hw granted
    have hgranted : granted = (limits true).setOpa { s.opa with
        path := .atGate g, moveTimer := none, holder := some g, jobCount := 0, closing := false, job := false, wanted := none } := by
      rw [← hw]; rfl
    have hmade := limitMade_with_request (s := limits true) hp ht hh hr hw
    refine ⟨fun hall => next_live_eq hrun (congrArg State.settle (hmade.trans ?_)),
      fun hany => next_live_eq hrun (congrArg State.settle (hmade.trans ?_))⟩
    · rw [hgranted]
      exact grantedAs_without_track (s := limits true) (track_any_of_all hall)
    · rw [hgranted]
      exact grantedAs_with_track (s := limits true) hany
  case timeout =>
    intro tm hp ht faulted fails
    have hfails : ∀ (u : State) (d : DeckId), fails u d = if s.opa.requests.get d then u.pathFaulted d else u := by
      intro u d
      change (if s.opa.requests.get d then _ else u) = _
      refine if_congr Iff.rfl ?_ rfl
      cases ha : (u.sched d).active with
      | none => rw [pathFaulted_of_inactive ha]; simp only [requestDropped, ha]
      | some t =>
        cases hx : (u.sched d).track with
        | none => rw [pathFaulted_without_track ha hx]; simp only [requestDropped, ha, hx]
        | some tr => rw [pathFaulted_with_track ha hx]; simp only [ha, hx]
    have hends : exec .pathMoveTimeout s = .next (fails (fails faulted .a) .b).settle := by
      refine next_live_eq hrun ((pathTimesOut_of_move hp ht).trans ?_)
      rw [hfails, hfails]
      rfl
    refine ⟨fun hidle => ?_, hends⟩
    have hlow : ∀ d, ¬ s.opa.requests.get d = true := by
      intro d; rw [(schedIdle_iff.mp hidle).2.1]; cases d <;> exact Bool.false_ne_true
    rw [hends, hfails, hfails, if_neg (hlow .b), if_neg (hlow .a)]
    exact congrArg _ (settle_of_idle (schedIdle_congr hidle rfl (schedIdle_iff.mp hidle).2.1.symm rfl))

end Sys2Proof.Machine
end


section
/-! PROOFS. The lines HOLD and READY (O56). -/

namespace Sys2Proof.Machine

/-! ## What the end of a rewind keeps -/

/-- The lines, the arbiter, the head link port and the deck other than `d` are as before. -/
structure KeepsOther (d : DeckId) (s t : State) : Prop where
  pins : t.pins = s.pins
  opa : t.opa = s.opa
  hlp : t.hlp = s.hlp
  deck : t.deck d.other = s.deck d.other

section
variable {s t u : State} {d : DeckId}

theorem KeepsOther.trans (h : KeepsOther d s t) (h' : KeepsOther d t u) : KeepsOther d s u :=
  ⟨h'.pins.trans h.pins, h'.opa.trans h.opa, h'.hlp.trans h.hlp, h'.deck.trans h.deck⟩

theorem KeepsOther.setDeck (s : State) (d : DeckId) (x : Deck) : KeepsOther d s (s.setDeck d x) :=
  ⟨rfl, rfl, rfl, Pair.get_set_other ..⟩

theorem KeepsOther.powerOff (s : State) (d : DeckId) : KeepsOther d s (s.powerOff d) := ⟨rfl, rfl, rfl, Pair.get_set_other ..⟩

theorem KeepsOther.uncount (s : State) (d : DeckId) (k : Slot) : KeepsOther d s (s.uncount k) := by
  obtain ⟨_, _, _, h⟩ := uncount_shape s k
  rw [h]
  exact ⟨rfl, rfl, rfl, rfl⟩

theorem KeepsOther.leftIdle (s : State) (d : DeckId) (e : Option DeckId) : KeepsOther d s (leftIdle s e) := by
  cases e <;> exact ⟨rfl, rfl, rfl, rfl⟩

theorem KeepsOther.finalize (s : State) (d : DeckId) (t : TicketNo) (o : TicketOutcome) : KeepsOther d s (s.finalize t o) := by
  have hended : KeepsOther d s (ticketEnded s t o) := ⟨rfl, rfl, rfl, rfl⟩
  cases hlive : (s.ticket t).state.isLive with
  | false => rw [finalize_of_not_live hlive]; exact ⟨rfl, rfl, rfl, rfl⟩
  | true =>
    cases hk : (s.ticket t).slot with
    | none => rw [finalize_of_no_slot hlive hk]; exact hended.trans (.leftIdle _ _ _)
    | some k => rw [finalize_of_slot hlive hk]; exact (hended.trans (.uncount _ _ _)).trans (.leftIdle _ _ _)

theorem KeepsOther.finalizeAll (d : DeckId) (o : TicketOutcome) (ts : List TicketNo) (s : State) :
    KeepsOther d s (ts.foldl (fun s t => s.finalize t o) s) := by
  induction ts generalizing s with
  | nil => exact ⟨rfl, rfl, rfl, rfl⟩
  | cons t ts ih => exact (KeepsOther.finalize s d t o).trans (ih _)

theorem KeepsOther.releaseEntry (s : State) (d : DeckId) (k : Slot) (removal : Bool) :
    KeepsOther d s (s.releaseEntry k d removal) := by
  have hdropped : KeepsOther d s (s.setPool d (s.pool d).drop) := ⟨rfl, rfl, rfl, rfl⟩
  unfold State.releaseEntry
  dsimp only
  split
  · exact hdropped.trans ⟨rfl, rfl, rfl, rfl⟩
  · refine hdropped.trans ?_
    unfold State.releaseTransient
    dsimp only
    split
    · exact (KeepsOther.finalizeAll d _ _ _).trans ⟨rfl, rfl, rfl, rfl⟩
    · exact (KeepsOther.finalizeAll d _ _ _).trans ⟨rfl, rfl, rfl, rfl⟩

theorem KeepsOther.releaseDeck (hw : ∀ w, s.fseq.sweep = some w → w.deck ≠ d) : KeepsOther d s (s.releaseDeck d) := by
  cases hk : s.entryOf d with
  | none => rw [releaseDeck_of_no_entry hk]; exact ⟨rfl, rfl, rfl, rfl⟩
  | some k =>
    simp only [State.releaseDeck, hk, abortSweep_of_unused hw]
    exact .releaseEntry ..

theorem KeepsOther.rewindEnd (hw : ∀ w, s.fseq.sweep = some w → w.deck ≠ d) : KeepsOther d s (s.rewindEnd d) := by
  unfold State.rewindEnd
  split
  · exact (((KeepsOther.setDeck s d _).trans (.powerOff _ _)).trans (.releaseDeck (by exact hw))).trans (.setDeck _ _ _)
  · exact .setDeck ..
  · exact ⟨rfl, rfl, rfl, rfl⟩

end

/-! ## The release of HOLD -/

/-- The line HOLD at a level. -/
def holdAt (s : State) (b : Bool) : State := { s with pins := { s.pins with hold := b } }

/-- The arbiter has nothing to decide: tenure is held, or the path is set with nothing requested and no move wanted. -/
def Opa.Still (o : Opa) : Prop :=
  o.holder ≠ none ∨ (o.requests = ⟨false, false⟩ ∧ o.wanted = none ∧ ∃ g, o.path = .atGate g)

section
variable {s u : State} {d g : DeckId}

theorem arbitrateNow_of_still (h : s.opa.Still) : s.arbitrateNow none = s := by
  by_cases hh : s.opa.holder = none
  · obtain ⟨hr, hw, x, hp⟩ := h.resolve_left (absurd hh)
    have hlow : ∀ e, ¬ s.opa.requests.get e = true := by intro e; rw [hr]; cases e <;> exact Bool.false_ne_true
    have hclear : s.arbitrateNow none = s.setOpa { s.opa with wanted := none } :=
      arbitrate_of_clear hh (decide_without_request hp (hlow x) (hlow x.other))
    rw [hclear]
    exact setOpa_self (by rw [← hw])
  · exact arbitrate_of_holder hh

theorem endDeferral_of_not_deferred (h : (s.deck d).motion ≠ .deferred) : s.endDeferral d = s := if_neg h

/-- Of two decks only deck `d` has a deferred motion. -/
theorem endDeferral_both (hd : (s.deck d).motion = .deferred) (ho : (s.deck d.other).motion ≠ .deferred)
    (hkeep : (s.motionBegins d).deck d.other = s.deck d.other) : (s.endDeferral .a).endDeferral .b = s.motionBegins d := by
  have hbegins : s.endDeferral d = s.motionBegins d := if_pos hd
  cases d with
  | a => rw [hbegins]; exact endDeferral_of_not_deferred (by rw [show DeckId.b = DeckId.a.other from rfl, hkeep]; exact ho)
  | b => rw [endDeferral_of_not_deferred (show (s.deck .a).motion ≠ .deferred from ho), hbegins]

theorem holdReleased_of_none (hrun : running s = true) (h : ∀ d, (s.deck d).motion ≠ .deferred)
    (hu : (holdAt s false).arbitrateNow none = u) : exec .holdReleased s = .next u.settle := by
  refine next_live_eq (s := holdAt s false) hrun ?_
  rw [endDeferral_of_not_deferred (s := holdAt s false) (h .a), endDeferral_of_not_deferred (s := holdAt s false) (h .b), hu]

theorem holdReleased_of_deferred (hrun : running s = true) (hstill : s.opa.Still) (hd : (s.deck d).motion = .deferred)
    (ho : (s.deck d.other).motion ≠ .deferred) (hbegin : (holdAt s false).motionBegins d = u)
    (hkeep : KeepsOther d (holdAt s false) u) : exec .holdReleased s = .next u.settle := by
  refine next_live_eq (s := holdAt s false) hrun ?_
  subst hbegin
  rw [endDeferral_both (s := holdAt s false) hd ho hkeep.deck, arbitrateNow_of_still (by rw [hkeep.opa]; exact hstill)]

/-- A deferred motion that begins with a change of its deck alone. -/
theorem holdReleased_of_run (hrun : running s = true) (hstill : s.opa.Still) (hd : (s.deck d).motion = .deferred)
    (ho : (s.deck d.other).motion ≠ .deferred) {k : Deck}
    (hbegin : (holdAt s false).motionBegins d = (holdAt s false).setDeck d k) :
    exec .holdReleased s = .next ((holdAt s false).setDeck d k).settle ∧
      (schedIdle s = true → exec .holdReleased s = .next ((holdAt s false).setDeck d k)) := by
  have h := holdReleased_of_deferred hrun hstill hd ho hbegin (.setDeck ..)
  refine ⟨h, fun hidle => h.trans (congrArg _ (settle_of_idle ?_))⟩
  exact schedIdle_congr hidle rfl rfl rfl

/-- A deferred rewind with no film in the gate ends as the clearing of the film-in-gate sensor ends it (R20). -/
theorem holdReleased_of_cleared_rewind (hrun : running s = true) (hstill : s.opa.Still) (hd : (s.deck d).motion = .deferred)
    (ho : (s.deck d.other).motion ≠ .deferred) (hs : (s.deck d).state = .rewinding) (hf : (s.sensors d).filmInGate = false)
    (hw : ∀ w, s.fseq.sweep = some w → w.deck ≠ d) :
    ∃ v, exec (.filmInGateCleared d) ((holdAt s false).setDeck d { s.deck d with motion := .moving }) = .next v ∧
      exec .holdReleased s = .next v.settle := by
  have hdeck : ((holdAt s false).setDeck d { s.deck d with motion := .moving }).deck d =
      { s.deck d with motion := .moving } := Pair.get_set_self ..
  refine ⟨((holdAt s false).setDeck d { s.deck d with motion := .moving }).rewindEnd d, ?_, ?_⟩
  · rw [exec_filmInGateCleared_of_clear (by exact hrun) (by exact hf), gateCleared_of_rewinding (by rw [hdeck])
      (by rw [hdeck]; exact hs)]
  · exact holdReleased_of_deferred hrun hstill hd ho (motionBegins_rewinding_clear hs hf)
      ((KeepsOther.setDeck _ _ _).trans (.rewindEnd (by exact hw)))

/-- A move wanted since before, which a set gate, a move of a reset or FAULT keeps. -/
theorem wants_of_wanted (hw : s.opa.wanted = some g)
    (hp : (s.opa.path = .atGate g.other ∧ s.opa.requests.get g = true) ∨ (∃ x, s.opa.path = .moving x) ∨
      ∃ x, s.opa.path = .fault x) : Wants s none g := by
  rcases hp with ⟨hp, hr⟩ | ⟨x, hp⟩ | ⟨x, hp⟩
  · refine .inl ?_
    have hother : g.other.other = g := by cases g <;> rfl
    have hd := decide_for_other_gate (limited := none) hp (by rw [hother]; exact hr) (.inr (.inr (by rw [hother]; exact hw)))
    rwa [hother] at hd
  · exact .inr ⟨decide_while_moving hp, hw⟩
  · exact .inr ⟨decide_in_fault_with_move hp hw, hw⟩

theorem holdAsserted_of_standing (h : s.pins.hold = true) : exec .holdAsserted s = .next s :=
  congrArg _ (if_pos h)

theorem holdAsserted_of_released (hrun : running s = true) (h : s.pins.hold = false) : exec .holdAsserted s =
    .next (if (s.deck s.opa.path.selected).motion = .moving then
      { holdAt s true with hlp := { s.hlp with holdConflict := s.hlp.holdConflict + 1 } } else holdAt s true) :=
  (congrArg Host.Outcome.next (if_neg (Bool.eq_false_iff.mp h))).trans (next_live_eq (s := holdAt s true) hrun rfl)

theorem readyFalls_of_free (hrun : running s = true) (ho : s.hlp.order = none) (hw : s.fseq.sweep = none) :
    exec .readyFalls s = .next (State.settle { s with pins := { s.pins with ready := false } }) := by
  refine next_live_eq (s := { s with pins := { s.pins with ready := false } }) hrun ?_
  simp only [State.endAbsent, ho, State.readyLost, hw]

end

/-- Settles O56: a release of HOLD begins the deferred motion and then arbitrates, which leaves a still arbiter alone and
begins a wanted move. -/
theorem holdAndReadyTaken : Obligations.HoldAndReadyTaken := by
  unfold Obligations.HoldAndReadyTaken
  intro s hrun hold released still
  refine ⟨holdAsserted_of_standing, fun hh hm => ?_, fun hh hm => ?_, fun hno hstill => ?none, fun d hstill hd ho => ?motion,
    fun g hidle hno hh hp hw horder hlim => ?reset, fun g hno hh hw hp => ?move, rfl, readyFalls_of_free hrun⟩
  · rw [holdAsserted_of_released hrun hh, if_pos hm]; rfl
  · rw [holdAsserted_of_released hrun hh, if_neg hm]; rfl
  case none =>
    have h : released (hold false).settle := holdReleased_of_none hrun hno (arbitrateNow_of_still hstill)
    exact ⟨h, fun hidle => h.trans (congrArg _ (settle_of_idle (schedIdle_congr hidle rfl rfl rfl)))⟩
  case motion =>
    intro k film moves begins
    refine ⟨fun hs => holdReleased_of_run hrun hstill hd ho (motionBegins_run hs),
      fun hs hf => holdReleased_of_run hrun hstill hd ho (motionBegins_threading_film hs hf),
      fun hs hf => holdReleased_of_run hrun hstill hd ho (motionBegins_threading_clear hs hf),
      fun hs hf => holdReleased_of_run hrun hstill hd ho (motionBegins_rewinding_film hs hf),
      fun hs hf hw => holdReleased_of_cleared_rewind hrun hstill hd ho hs hf ?_⟩
    intro w hsweep
    rw [hsweep] at hw
    exact bne_iff_ne.mp hw
  case reset =>
    have hmove : (holdAt s false).arbitrateNow none = (holdAt s false).setOpa (s.opa.movingTo g) :=
      arbitrate_of_move (s := holdAt s false) hh (wants_of_wanted hw (.inr (.inl ⟨g, hp⟩))) ⟨horder, rfl⟩
        (Bool.eq_false_iff.mp hlim)
    have hsettle : ((holdAt s false).setOpa (s.opa.movingTo g)).settle = (holdAt s false).setOpa (s.opa.movingTo g) :=
      settle_of_idle (schedIdle_congr hidle rfl rfl rfl)
    have hopa : s.opa.movingTo g = { s.opa with wanted := none, faultFirst := none, moveTimer := some ⟨4000, 0⟩ } := by
      rw [Opa.movingTo, ← hp]
    refine (holdReleased_of_none hrun hno hmove).trans (congrArg _ (hsettle.trans ?_))
    rw [hopa]
    rfl
  case move =>
    intro begun granted waiting
    have hwants : Wants (holdAt s false) none g := wants_of_wanted hw (hp.imp_right .inr)
    have hgrant (horder : s.hlp.order = none) (hlim : s.pins.limits.get g = true) (hr : s.opa.requests.get g = true) :
        (holdAt s false).arbitrateNow none = grantedAs (holdAt s false) (s.opa.setAt g) g :=
      (arbitrate_of_made (s := holdAt s false) hh hwants ⟨horder, rfl⟩ hlim).trans
        (arbitrate_setAt_of_own (s := holdAt s false) hh hr)
    refine ⟨fun horder => holdReleased_of_none hrun hno ?_, fun horder hlim => holdReleased_of_none hrun hno ?_,
      fun horder hlim hr => ⟨fun hwait => holdReleased_of_none hrun hno ?_, fun hwait => holdReleased_of_none hrun hno ?_⟩⟩
    · exact (arbitrate_of_held_back (s := holdAt s false) hh hwants (fun h => horder h.1)).trans (setOpa_self (by rw [← hw]; rfl))
    · exact arbitrate_of_move (s := holdAt s false) hh hwants ⟨horder, rfl⟩ (Bool.eq_false_iff.mp hlim)
    · exact (hgrant horder hlim hr).trans (grantedAs_without_track hwait)
    · exact (hgrant horder hlim hr).trans (grantedAs_with_track hwait)

end Sys2Proof.Machine
end


section
/-! PROOFS. The steps of a sweep, its orders and aborts, and the beginnings of sweeps and captures (O50). -/

namespace Sys2Proof.Machine

/-! ## What the end of a job and a final transition leave -/

/-- Only the arbiter, what the scheduler holds for the decks, and the skipped-track counter differ. -/
def ArbiterOnly (s t : State) : Prop :=
  ∃ o sc n, t = { s with opa := o, scheds := sc, fseq := { s.fseq with skippedTrack := n } }

section
variable {s t u : State} {d : DeckId}

theorem ArbiterOnly.refl (s : State) : ArbiterOnly s s := ⟨_, _, _, rfl⟩

theorem ArbiterOnly.trans (h : ArbiterOnly s t) (h' : ArbiterOnly t u) : ArbiterOnly s u := by
  obtain ⟨_, _, _, rfl⟩ := h
  obtain ⟨o, sc, n, rfl⟩ := h'
  exact ⟨o, sc, n, rfl⟩

theorem ArbiterOnly.setOpa (s : State) (o : Opa) : ArbiterOnly s (s.setOpa o) := ⟨_, _, _, rfl⟩

theorem ArbiterOnly.grantedAs (s : State) (o : Opa) (x : DeckId) : ArbiterOnly s (grantedAs s o x) := by
  cases h : (s.sched x.other).track.any (fun tr => !tr.running) with
  | true => rw [grantedAs_with_track h]; exact ⟨_, _, _, rfl⟩
  | false => rw [grantedAs_without_track h]; exact .setOpa ..

theorem ArbiterOnly.apply (s : State) (x : Decision) : ArbiterOnly s (s.apply x) := by
  cases x with
  | grant d =>
    have h := ArbiterOnly.grantedAs s s.opa d
    rw [← grant_setOpa] at h
    exact h
  | want | clear => exact .setOpa ..
  | keep => exact .refl s

theorem ArbiterOnly.arbitrate (n : Nat) (limited : Option DeckId) (s : State) : ArbiterOnly s (State.arbitrate n limited s) := by
  induction n generalizing limited s with
  | zero => exact .refl s
  | succ n ih =>
    have happly := ArbiterOnly.apply s (s.opa.decide limited)
    by_cases hh : s.opa.holder = none
    · rw [arbitrate_of_free hh]
      split
      · split
        · split
          · exact happly.trans (ArbiterOnly.trans ⟨_, _, _, rfl⟩ (ih none _))
          · exact happly.trans ⟨_, _, _, rfl⟩
        · exact happly
      · exact happly
    · rw [arbitrate_of_holder hh]
      exact .refl s

theorem ArbiterOnly.releaseTenure (s : State) (limited : Option DeckId) : ArbiterOnly s (s.releaseTenure limited) :=
  (ArbiterOnly.setOpa s { s.opa with holder := none, closing := false, job := false }).trans (.arbitrate 4 limited _)

theorem ArbiterOnly.decideTenure (s : State) (d : DeckId) : ArbiterOnly s (s.decideTenure d) := by
  unfold State.decideTenure
  split
  · exact .releaseTenure ..
  · split
    · split
      · exact .releaseTenure ..
      · exact .refl s
    · exact .releaseTenure ..

theorem ArbiterOnly.jobEnd (s : State) (d : DeckId) : ArbiterOnly s (s.jobEnd d) := by
  unfold State.jobEnd
  split
  · exact (ArbiterOnly.setOpa s _).trans (.decideTenure _ d)
  · exact .refl s

theorem ArbiterOnly.sweep (h : ArbiterOnly s t) : t.fseq.sweep = s.fseq.sweep := by obtain ⟨_, _, _, rfl⟩ := h; rfl

theorem fseq_finalize (s : State) (t : TicketNo) (o : TicketOutcome) : (s.finalize t o).fseq = s.fseq := by
  have hidle (u : State) (e : Option DeckId) : (leftIdle u e).fseq = u.fseq := by cases e <;> rfl
  cases hlive : (s.ticket t).state.isLive with
  | false => rw [finalize_of_not_live hlive]
  | true =>
    cases hk : (s.ticket t).slot with
    | none => rw [finalize_of_no_slot hlive hk, hidle]; rfl
    | some k =>
      obtain ⟨_, _, _, h⟩ := uncount_shape (ticketEnded s t o) k
      rw [finalize_of_slot hlive hk, hidle, h]
      rfl

theorem KeepsStages.active (h : KeepsStages s t) (d : DeckId) : (t.sched d).active = (s.sched d).active := by
  rw [(h.stage d).1]

theorem KeepsStages.step (h : KeepsStages s t) (d : DeckId) : (t.sched d).step = (s.sched d).step := by
  rw [(h.stage d).1]

theorem KeepsStages.held (h : KeepsStages s t) (d : DeckId) : (t.sched d).held = (s.sched d).held := by
  rw [(h.stage d).1]

theorem KeepsStages.ticket (h : KeepsStages s t) (n : TicketNo) : t.ticket n = s.ticket n := by
  simp only [State.ticket, h.tickets]

end

/-! ## The end that a stage gives its ticket -/

section
variable {s : State} {d : DeckId} {t : TicketNo} {o : TicketOutcome}

theorem endTicket_of_halted (h : (s.sched d).held = some .halted) : s.endTicket d t o = s.finalize t .halted := by
  simp only [State.endTicket, h]

theorem endTicket_of_removed (h : (s.sched d).held = some .removed) : s.endTicket d t o = s.finalize t .removed := by
  simp only [State.endTicket, h]

theorem endTicket_of_clear (h : (s.sched d).held = none) (hc : (s.ticket t).cancelPending = false) :
    s.endTicket d t o = s.finalize t o := by
  simp only [State.endTicket, h]
  exact if_neg (Bool.eq_false_iff.mp hc)

end

/-! ## The steps of the plan -/

section
variable {p : Plan} {n : Nat}

theorem enabledSteps_eq (p : Plan) : p.enabledSteps =
    ((p.steps.toList.zipIdx.filter fun x => x.1.enabled).map (·.2)) := rfl

theorem enabledSteps_sorted (p : Plan) : List.Pairwise (· < ·) p.enabledSteps := by
  refine List.Pairwise.map _ (fun _ _ h => h) (List.Pairwise.filter _ ?_)
  have hrange : (p.steps.toList.zipIdx.map (·.2)).Pairwise (· < ·) := by
    rw [List.zipIdx_map_snd]
    exact List.pairwise_lt_range'
  exact List.pairwise_map.mp hrange

theorem mem_enabledSteps : n ∈ p.enabledSteps ↔ ∃ st, p.steps.toList[n]? = some st ∧ st.enabled = true := by
  simp only [enabledSteps_eq, List.mem_map, List.mem_filter, Prod.exists, List.mem_zipIdx_iff_getElem?, exists_eq_right]

/-- The lowest step with a property is the one found first. -/
theorem find?_of_lowest {l : List Nat} {q : Nat → Bool} (hl : List.Pairwise (· < ·) l) (hn : n ∈ l) (hq : q n = true)
    (hmin : ∀ m ∈ l, q m = true → n ≤ m) : l.find? q = some n := by
  obtain ⟨before, after, rfl⟩ := List.append_of_mem hn
  refine List.find?_eq_some_iff_append.mpr ⟨hq, before, after, rfl, fun m hm => ?_⟩
  have hlt : m < n := (List.pairwise_append.mp hl).2.2 m hm n (List.mem_cons_self ..)
  by_contra hqm
  exact absurd (hmin m (List.mem_append_left _ hm) (by simpa using hqm)) (Nat.not_le.mpr hlt)

theorem nextStep_of_lowest {step : Nat} (hn : n ∈ p.enabledSteps) (hlt : step < n)
    (hmin : ∀ m, m ∈ p.enabledSteps ∧ step < m → n ≤ m) : p.nextStep step = some n :=
  find?_of_lowest (enabledSteps_sorted p) hn (decide_eq_true hlt) fun m hm h => hmin m ⟨hm, of_decide_eq_true h⟩

theorem nextStep_eq_none {step : Nat} (h : ∀ m, ¬ (m ∈ p.enabledSteps ∧ step < m)) : p.nextStep step = none :=
  List.find?_eq_none.mpr fun m hm hlt => h m ⟨hm, of_decide_eq_true hlt⟩

theorem headD_of_lowest {l : List Nat} (hn : n ∈ l) (hl : List.Pairwise (· < ·) l) (hmin : ∀ m ∈ l, n ≤ m) : l.headD 0 = n := by
  cases l with
  | nil => cases hn
  | cons x rest =>
    rcases List.mem_cons.mp hn with h | h
    · exact h.symm
    · exact absurd (hmin x (List.mem_cons_self ..)) (Nat.not_le.mpr ((List.pairwise_cons.mp hl).1 n h))

end

/-! ## The running sweep -/

section
variable {s : State} {d : DeckId} {w : Sweep} {t : TicketNo} {pos n : Nat}

theorem stepArrived_of_pause (h : s.fseq.plan.pause ≠ 0) (w : Sweep) (pos : Nat) : s.stepArrived w pos =
    (s.setSweep (some { w with phase := .settle pos (some ⟨s.fseq.plan.pause * 4, 0⟩) }), none) := if_neg h

theorem stepArrived_of_no_pause (h : s.fseq.plan.pause = 0) (w : Sweep) (pos : Nat) :
    s.stepArrived w pos = s.pauseEnded w pos := if_pos h

theorem lensArrival_of_sweep (hrun : running s = true) (hw : s.fseq.sweep = some w) (hp : w.phase = .lens) {q : Nat}
    {tgt : LensTarget} (hl : s.lens w.deck = .moving q tgt) (hh : tgt.holder = .sequencer) :
    exec (.lensArrival w.deck) s =
      .next (State.sweepReport? ((s.setLens w.deck (.idle tgt.pos)).stepArrived w tgt.pos)).settle := by
  have hw' : (s.setLens w.deck (.idle tgt.pos)).fseq.sweep = some w := hw
  refine next_live_eq hrun ?_
  simp only [lensReaches, hl, lensArrives, State.lensMoved, hh, State.fseqLens, hw', hp, and_self, if_true]

/-- The state in which an order has been handed over (R114, R115). -/
def orderSent (s : State) (r : OrderRequest) : State := { s with hlp := { s.hlp with
  order := some ⟨s.hlp.nextNumber, r, s.hlp.sending.isEmpty, none⟩
  nextNumber := s.hlp.nextNumber + 1
  sending := s.hlp.sending ++ [orderFrame s.hlp.nextNumber r] } }

theorem handOver_sent {r : OrderRequest} (hh : s.opa.holder = some r.deck) (ho : s.hlp.order = none)
    (hr : s.pins.ready = true) : s.handOver r = (orderSent s r, .sent) := by
  simp [State.handOver, hh, ho, hr, orderSent]

theorem handOver_absent {r : OrderRequest} (hh : s.opa.holder = some r.deck) (ho : s.hlp.order = none)
    (hr : s.pins.ready = false) : s.handOver r = (s, .absent) := by
  simp [State.handOver, hh, ho, hr]

theorem settlePauseEnd_of_settle {timer : Timer} (hrun : running s = true) (hw : s.fseq.sweep = some w)
    (hp : w.phase = .settle pos (some timer)) :
    exec .settlePauseEnd s = .next (State.sweepReport? (s.pauseEnded w pos)).settle := by
  refine next_live_eq hrun ?_
  simp only [settlePauseEnds, hw, hp]

theorem pauseEnded_sent (hh : s.opa.holder = some w.deck) (ho : s.hlp.order = none) (hr : s.pins.ready = true) :
    s.pauseEnded w pos = ((orderSent s ⟨w.deck, .test, pos, w.slot, w.frame, w.tag⟩).setSweep
      (some { w with phase := .order pos }), none) := by
  simp only [State.pauseEnded, handOver_sent (r := ⟨w.deck, .test, pos, w.slot, w.frame, w.tag⟩) hh ho hr]

theorem testEnded_of_aborting {cause : AbortCause} (hw : s.fseq.sweep = some w) (hp : w.phase = .aborting cause)
    (e : OrderEnd) : s.testEnded e = s.endAbort w cause := by simp only [State.testEnded, hw, hp]

theorem testEnded_of_refused (hw : s.fseq.sweep = some w) (hp : w.phase = .order pos) :
    s.testEnded .refused = s.endAbort w .cameraRefused := by simp only [State.testEnded, hw, hp]

theorem testEnded_of_timeout (hw : s.fseq.sweep = some w) (hp : w.phase = .order pos) :
    s.testEnded .timeout = s.endAbort w .cameraTimeout := by simp only [State.testEnded, hw, hp]

theorem testEnded_of_absent (hw : s.fseq.sweep = some w) (hp : w.phase = .order pos) :
    s.testEnded .absent = s.endAbort w .cameraAbsent := by simp only [State.testEnded, hw, hp]

/-- The sweep with the figure of its current step taken (R94). -/
def Sweep.measured (w : Sweep) (pos : Nat) (value : BitVec 32) : Sweep :=
  { w with figures := w.figures ++ [⟨w.step, pos, value.toNat % 65536⟩] }

theorem figure_toNat (value : BitVec 32) : (value.extractLsb' 0 16).toNat = value.toNat % 65536 := by simp

theorem testEnded_of_next (hw : s.fseq.sweep = some w) (hp : w.phase = .order pos) {value : BitVec 32}
    (hn : s.fseq.plan.nextStep w.step = some n) : s.testEnded (.taken value) = s.beginStep (w.measured pos value) n := by
  simp only [State.testEnded, hw, hp, hn, figure_toNat]
  rfl

theorem testEnded_of_last (hw : s.fseq.sweep = some w) (hp : w.phase = .order pos) {value : BitVec 32}
    (hn : s.fseq.plan.nextStep w.step = none) :
    s.testEnded (.taken value) = (s.setSweep (some (w.measured pos value))).passEnded (w.measured pos value) := by
  simp only [State.testEnded, hw, hp, hn, figure_toNat, Sweep.measured]

theorem abortSweep_of_aborting {first : AbortCause} (hw : s.fseq.sweep = some w) (hp : w.phase = .aborting first)
    (cause : AbortCause) : s.abortSweep w.deck cause = (s, none) := by
  simp only [State.abortSweep, hw, hp, if_true]

/-- The abort of a ticket's own sweep by the camera ends the ticket with the cause's outcome (R98, R160). -/
theorem endAbort_reported (ht : (s.sched w.deck).active = some t) (htr : w.track = false)
    (hstep : (s.sched w.deck).step = some .sweep) (hh : (s.sched w.deck).held = none)
    (hc : (s.ticket t).cancelPending = false) (cause : AbortCause) :
    State.sweepReport? (s.endAbort w cause) = ((s.setSweep none).jobEnd w.deck).finalize t cause.outcome := by
  have hkeep : KeepsStages s ((s.setSweep none).jobEnd w.deck) := (KeepsStages.jobEnd _ _).after rfl rfl
  have hactive := (hkeep.active w.deck).trans ht
  have hstep' := (hkeep.step w.deck).trans hstep
  have hends : ((s.setSweep none).jobEnd w.deck).endTicket w.deck t cause.outcome =
      ((s.setSweep none).jobEnd w.deck).finalize t cause.outcome :=
    endTicket_of_clear ((hkeep.held _).trans hh) (by rw [hkeep.ticket]; exact hc)
  simp only [State.sweepReport?, State.endAbort, State.sweepReported, hactive, htr, hstep', if_true, State.sweepFinished, hends]
  rfl

theorem endOrder_of_test {o : Order} (h : o.request.kind = .test) (e : OrderEnd) :
    s.endOrder o e = State.sweepReport? (s.clearOrder.testEnded e) := by simp only [State.endOrder, h]

theorem readyLost_of_no_sweep (h : s.fseq.sweep = none) : s.readyLost = s := by simp only [State.readyLost, h]

theorem exec_readyFalls (hrun : running s = true) : exec .readyFalls s =
    .next (State.endAbsent { s with pins := { s.pins with ready := false } }).readyLost.settle :=
  next_live_eq (s := { s with pins := { s.pins with ready := false } }) hrun rfl

theorem exec_headTimeout {o : Order} (hrun : running s = true) (ho : s.hlp.order = some o) (ht : o.timeout.isSome = true) :
    exec .headTimeout s = .next (s.endOrder o .timeout).settle := by
  refine next_live_eq hrun ?_
  simp only [headTimesOut, ho]
  exact if_pos ht

/-- A good report that names the order in flight (R116, R117). -/
theorem exec_headReport {o : Order} {outcome : Byte} {value : BitVec 32} (hrun : running s = true) (hhunt : s.hlp.receiver = .hunt)
    (ho : s.hlp.order = some o) (hs : o.started = true) (hout : outcome = 1 ∨ outcome = 2) :
    exec (.headReport o.number outcome value (bodyCrc (o.number :: outcome :: bytes32 value))) s =
      .next (State.endOrder { s with hlp := { s.hlp with receiver := .hunt, gapTimer := none } } o
        (if decide (outcome = 1) then .taken value else .refused)).settle := by
  refine next_live_eq hrun ((reportReceived_good hhunt rfl hout).trans ?_)
  exact takeReport_of_order (s := { s with hlp := { s.hlp with receiver := .hunt, gapTimer := none } })
    (r := ⟨o.number, decide (outcome = 1), value⟩) ho hs rfl

/-! ## FOCUSING -/

/-- Ticket `t` in FOCUSING at deck `d`, in a step (R158). -/
def focusingSet (s : State) (d : DeckId) (t : TicketNo) (step : Step) : State := { s with
  tickets := s.tickets.set t { s.ticket t with state := .focusing }
  scheds := s.scheds.set d { s.sched d with step := some step } }

/-- The lens target of a ticket in FOCUSING, or none where a sweep is called for (R100, R158). -/
def focusChoice (s : State) (t : TicketNo) (k : Slot) (frame : Nat) : Option Nat :=
  if (s.ticket t).kind = some .focus then none else s.focusTarget k frame

theorem enterFocusing_of_sweep {k : Slot} {frame : Nat} (hk : (s.ticket t).slot = some k)
    (hf : (s.ticket t).current = some frame) (h : focusChoice s t k frame = none) :
    s.enterFocusing d t = focusingSet s d t .sweepWait := by
  have hc : (if (s.ticket t).kind = some .focus then none else (s.stage t .focusing).focusTarget k frame) = none := h
  simp only [State.enterFocusing, hk, hf, hc]
  rfl

theorem enterFocusing_of_move {k : Slot} {frame p : Nat} (hk : (s.ticket t).slot = some k)
    (hf : (s.ticket t).current = some frame) (h : focusChoice s t k frame = some p) :
    s.enterFocusing d t = (focusingSet s d t .lensWait).schedMove d p := by
  have hc : (if (s.ticket t).kind = some .focus then none else (s.stage t .focusing).focusTarget k frame) = some p := h
  simp only [State.enterFocusing, hk, hf, hc]
  rfl

theorem focusTarget_of_off (h : s.params.policy = .off) (k : Slot) (frame : Nat) :
    s.focusTarget k frame = some ((s.entry k).lastSetpoint.getD 2048) := by
  simp only [State.focusTarget, h]
  rfl

theorem focusTarget_of_record {k : Slot} {frame : Nat} {r : FrameRecord} (h : s.params.policy ≠ .off)
    (hr : s.record k frame = some r) : s.focusTarget k frame = r.setpoint := by
  unfold State.focusTarget
  cases hp : s.params.policy with
  | off => exact absurd hp h
  | onDemand => simp only [hr, Option.bind_some]
  | track => simp only [hr, Option.bind_some]

/-- A lens arrival taken at once in LENS_WAIT opens EXPOSING (R158, R161). -/
theorem schedMove_exposing {p q : Nat} (ht : (s.sched d).active = some t)
    (h : ((focusingSet s d t .lensWait).lensMove d p .scheduler).2 = some q) :
    (focusingSet s d t .lensWait).schedMove d p = { ((focusingSet s d t .lensWait).lensMove d p .scheduler).1 with
      tickets := s.tickets.set t { s.ticket t with state := .exposing }
      scheds := s.scheds.set d { s.sched d with step := some .captureWait, capturePos := some q } } := by
  have hs : ((focusingSet s d t .lensWait).lensMove d p .scheduler).1.sched d =
      { s.sched d with step := some .lensWait } := Pair.get_set_self ..
  have hx : ((focusingSet s d t .lensWait).lensMove d p .scheduler).1.ticket t = { s.ticket t with state := .focusing } :=
    Vector.getElem_set_self ..
  have harrives : (focusingSet s d t .lensWait).schedMove d p =
      ((focusingSet s d t .lensWait).lensMove d p .scheduler).1.enterExposing d t q := by
    simp only [State.schedMove, h, State.schedLens, hs, ht]
  rw [harrives, State.enterExposing, State.stage, State.modTicket, hx, State.modSched]
  simp only [State.sched_setTicket, hs]
  simp only [State.setTicket, State.setSched, State.lensMove, State.setLens, focusingSet, Vector.set_set, Pair.set_set]

/-! ## The beginnings of sweeps and captures -/

theorem beginSweep_of_not_holder (h : s.opa.holder ≠ some d) : s.beginSweep d = none := by
  unfold State.beginSweep
  split
  · exact if_neg h
  · rfl

section
variable {k : Slot} (ht : (s.sched d).active = some t) (hk : s.entryOf d = some k)
include ht hk

theorem beginSweep_of_holder (hstep : (s.sched d).step = some .sweepWait) (hh : s.opa.holder = some d) : s.beginSweep d =
    if s.pins.ready then
      match s.sweepAnswer d k with
      | .taken => some (State.sweepReport? ((s.modSched d fun c => { c with step := some .sweep }).startSweep
          d k ((s.ticket t).current.getD 0) (decide ((s.ticket t).kind = some .focus)) false))
      | .busy | .notHeld => none
    else some (s.finalize t .cameraAbsent) := by
  simp only [State.beginSweep, ht, hstep, hk, if_pos hh] <;> rfl

end

theorem sweepAnswer_taken {k : Slot} (hw : s.fseq.sweep = none) (hh : s.opa.holder = some d) (hr : (s.deck d).state = .ready)
    (hk : s.entryOf d = some k) : s.sweepAnswer d k = .taken := by
  simp [State.sweepAnswer, hw, hh, hr, hk]

theorem sweepAnswer_refused {k : Slot} (h : s.fseq.sweep ≠ none ∨ (s.deck d).state ≠ .ready) :
    s.sweepAnswer d k = .busy ∨ s.sweepAnswer d k = .notHeld := by
  unfold State.sweepAnswer
  split
  · exact .inl rfl
  · rename_i hbusy
    refine .inr (if_neg ?_)
    rintro ⟨_, hr, _⟩
    rcases h with h | h
    · exact hbusy (Option.isSome_iff_ne_none.mpr h)
    · exact h hr

section
variable {k : Slot} {frame : Nat} (ht : (s.sched d).active = some t) (hstep : (s.sched d).step = some .captureWait)
  (hpos : (s.sched d).capturePos = some pos) (hk : (s.ticket t).slot = some k) (hf : (s.ticket t).current = some frame)
include ht hstep hpos hk hf

theorem beginCapture_of_barred (h : s.opa.holder ≠ some d ∨ s.hlp.order ≠ none) : s.beginCapture d = none := by
  have hno : ¬ (s.opa.holder = some d ∧ s.hlp.order.isNone = true) := by
    rintro ⟨hh, ho⟩
    rcases h with h | h
    · exact h hh
    · exact h (Option.isNone_iff_eq_none.mp ho)
  simp only [State.beginCapture, ht, hstep, hpos, hk, hf, if_neg hno]

theorem beginCapture_of_handOver (hh : s.opa.holder = some d) (ho : s.hlp.order = none) {x : State × HandOver}
    (hx : s.handOver ⟨d, .capture, pos, k, frame, (s.entry k).tag⟩ = x) : s.beginCapture d =
    match x.2 with
    | .sent => some ((x.1.modSched d fun c => { c with step := some .capture }).jobBegin d)
    | .absent => some ((x.1.jobBegin d).captureEnded d .absent)
    | .unsent => none := by
  subst hx
  simp only [State.beginCapture, ht, hstep, hpos, hk, hf]
  exact if_pos ⟨hh, by rw [ho]; rfl⟩

end

theorem jobBegin_of_holder (h : s.opa.holder = some d) : s.jobBegin d = s.setOpa { s.opa with job := true } := if_pos h

theorem captureEnded_of_absent (ht : (s.sched d).active = some t) :
    s.captureEnded d .absent = (s.jobEnd d).endTicket d t .cameraAbsent := by simp only [State.captureEnded, ht]

/-! ## The first and the further steps -/

theorem sweepCentre_eq (s : State) (k : Slot) (frame : Nat) : s.sweepCentre k frame =
    match s.record k frame with
    | some r => r.setpoint.getD ((s.entry k).lastSetpoint.getD 2048)
    | none => (s.entry k).lastSetpoint.getD 2048 := by
  unfold State.sweepCentre
  cases hr : s.record k frame with
  | none => rfl
  | some r => cases hp : r.setpoint <;> simp only [Option.bind_some, hp] <;> rfl

theorem startSweep_of_ready {k : Slot} {frame : Nat} {forFocus track : Bool} (hh : s.opa.holder = some d)
    (hr : s.pins.ready = true) : s.startSweep d k frame forFocus track =
      State.beginStep (s.setOpa { s.opa with job := true })
        ⟨d, k, frame, (s.entry k).tag, forFocus, track, s.sweepCentre k frame, 1, 0, .lens, []⟩
        (s.fseq.plan.enabledSteps.headD 0) := by
  rw [State.startSweep, jobBegin_of_holder hh]
  exact if_pos hr

theorem beginStep_eq {st : PlanStep} (hst : s.fseq.plan.steps.toList[n]? = some st) {m : State × Option Nat}
    (hm : (s.setSweep (some { w with step := n, phase := .lens })).lensMove w.deck ((w.centre : Int) + st.offset)
      .sequencer = m) : s.beginStep w n =
    match m.2 with
    | some pos => m.1.stepArrived { w with step := n, phase := .lens } pos
    | none => (m.1, none) := by
  have hoff : s.fseq.plan.offset n = st.offset := by simp only [Plan.offset, hst, Option.map_some, Option.getD_some]
  subst hm
  rw [State.beginStep, hoff] <;> rfl

end

end Sys2Proof.Machine
end


section
/-! PROOFS. A sweep's ways through its steps, as the statement O50 names them. -/

namespace Sys2Proof.Machine

section
variable {s : State} {w : Sweep} {o : Order} {t : TicketNo} {pos : Nat}

/-- A TEST order of a ticket's own sweep that fails ends the sweep and the ticket (R94, R98, R160). -/
theorem testFailure_reported {e : OrderEnd} {cause : AbortCause} (hkind : o.request.kind = .test)
    (hends : s.clearOrder.testEnded e = s.clearOrder.endAbort w cause) (ht : (s.sched w.deck).active = some t)
    (htr : w.track = false) (hstep : (s.sched w.deck).step = some .sweep) (hh : (s.sched w.deck).held = none)
    (hc : (s.ticket t).cancelPending = false) :
    s.endOrder o e = ((s.clearOrder.setSweep none).jobEnd w.deck).finalize t cause.outcome := by
  rw [endOrder_of_test hkind, hends]
  exact endAbort_reported (s := s.clearOrder) ht htr hstep hh hc cause

theorem sweep_finalize_jobEnd (s : State) (d : DeckId) (t : TicketNo) (c : TicketOutcome) :
    ((s.jobEnd d).finalize t c).fseq.sweep = s.fseq.sweep := by
  rw [fseq_finalize]
  exact (ArbiterOnly.jobEnd s d).sweep

end

/-- Settles O50: each step of the sweep by the lemma on its handler, the orders' failures by `testFailure_reported`. -/
theorem sweepStepOrdered : Obligations.SweepStepOrdered := by
  unfold Obligations.SweepStepOrdered
  refine ⟨fun s w hrun hw => ?steps, fun s w hw => ?aborts,
    fun s w o t pos value hrun hw hp htr ho hs hkind ht hstep hh hc => ?failures,
    fun s d t k frame r hk hf hr => ?focusing, fun s d t k frame ht hk hf => ?begins,
    fun s d k frame n forFocus track hh hr hn hmin => ?start, fun s w n st hst => ?step⟩
  case steps =>
    intro sweep
    refine ⟨fun q tgt hp hl hholder hpause => ?_, fun pos timer hp hh ho hr => ?_⟩
    · rw [lensArrival_of_sweep hrun hw hp hl hholder, stepArrived_of_pause (by exact hpause)]
      rfl
    · intro request
      rw [settlePauseEnd_of_settle hrun hw hp, pauseEnded_sent hh ho hr]
      rfl
  case aborts =>
    intro aborts
    refine ⟨fun d cause hd => abortSweep_of_unused (fun v hv => ?_) cause, fun cause hp => abortSweep_at_once hw rfl hp cause,
      fun pos cause hp => abortSweep_in_order hw rfl hp cause,
      fun first cause hp => ⟨abortSweep_of_aborting hw hp cause, testEnded_of_aborting hw hp⟩,
      fun pos hp => ⟨testEnded_of_refused hw hp, testEnded_of_timeout hw hp, testEnded_of_absent hw hp, fun value => ?_⟩⟩
    · rw [hw] at hv
      cases hv
      exact Ne.symm hd
    · intro w' later
      exact ⟨fun n hn hmin => testEnded_of_next hw hp (nextStep_of_lowest hn.1 hn.2 hmin),
        fun hno => testEnded_of_last hw hp (nextStep_eq_none hno)⟩
  case failures =>
    intro ended
    refine ⟨fun hhunt => ?_, fun htimeout => ?_, ?_⟩
    · rw [exec_headReport hrun hhunt ho hs (.inr rfl), if_neg (by decide)]
      rw [testFailure_reported (s := { s with hlp := { s.hlp with receiver := .hunt, gapTimer := none } }) hkind
        (testEnded_of_refused hw hp) ht htr hstep hh hc]
      rfl
    · rw [exec_headTimeout hrun ho htimeout,
        testFailure_reported hkind (testEnded_of_timeout (by exact hw) hp) ht htr hstep hh hc]
      rfl
    · rw [exec_readyFalls hrun, endAbsent_of_started (by exact ho) hs rfl,
        testFailure_reported (s := { s with pins := { s.pins with ready := false } }) hkind
          (testEnded_of_absent hw hp) ht htr hstep hh hc, readyLost_of_no_sweep (sweep_finalize_jobEnd _ _ _ _)]
      rfl
  case focusing =>
    intro x c put sweeps moves
    have hsweeps : focusChoice s t k frame = none → sweeps := enterFocusing_of_sweep hk hf
    have hmoves : ∀ p, focusChoice s t k frame = some p → moves p := by
      intro p hp
      refine ⟨fun hm => ?_, fun q hm hactive => ?_⟩
      · exact (enterFocusing_of_move hk hf hp).trans (schedMove_underway hm)
      · exact (enterFocusing_of_move hk hf hp).trans (schedMove_exposing hactive hm)
    refine ⟨fun hkind => hsweeps (if_pos hkind), fun hkind hoff => hmoves _ ((if_neg hkind).trans (focusTarget_of_off hoff ..)),
      fun hkind hpolicy => ?_⟩
    have hchoice : focusChoice s t k frame = r.setpoint := (if_neg hkind).trans (focusTarget_of_record hpolicy hr)
    exact ⟨fun hp => hsweeps (hchoice.trans hp), fun p hp => hmoves p (hchoice.trans hp)⟩
  case begins =>
    intro c x working
    refine ⟨fun hstep => ⟨beginSweep_of_not_holder, fun hh hr => ?_, fun hh hr hbar => ?_, fun hh hr hw hready => ?_⟩,
      fun pos hstep hpos hslot => ?captures⟩
    · exact (beginSweep_of_holder ht hk hstep hh).trans (if_neg (Bool.eq_false_iff.mp hr))
    · rw [beginSweep_of_holder ht hk hstep hh, if_pos hr]
      rcases sweepAnswer_refused (k := k) hbar with h | h <;> rw [h]
    · rw [beginSweep_of_holder ht hk hstep hh, if_pos hr, sweepAnswer_taken hw hh hready hk, hf]
      rfl
    case captures =>
      intro request ended
      refine ⟨beginCapture_of_barred ht hstep hpos hslot hf, fun hh ho hr => ?_, fun hh ho hr => ?_⟩
      · rw [beginCapture_of_handOver ht hstep hpos hslot hf hh ho (handOver_sent hh ho hr)]
        exact congrArg some (jobBegin_of_holder (s := (orderSent s request).modSched d fun c =>
            { c with step := some .capture }) hh)
      · have hkeep : KeepsStages s ended := (KeepsStages.jobEnd _ _).after rfl rfl
        have hends : s.beginCapture d = some (ended.endTicket d t .cameraAbsent) := by
          rw [beginCapture_of_handOver ht hstep hpos hslot hf hh ho (handOver_absent hh ho hr)]
          simp only [jobBegin_of_holder hh]
          exact congrArg some (captureEnded_of_absent (s := working) ht)
        refine ⟨fun h => ?_, fun h => ?_, fun h hc => ?_, fun h hc => ?_⟩
        · rw [hends, endTicket_of_halted ((hkeep.held d).trans h)]
        · rw [hends, endTicket_of_removed ((hkeep.held d).trans h)]
        · rw [hends, endTicket_of_cancel ((hkeep.held d).trans h) (by rw [hkeep.ticket]; exact hc)]
        · rw [hends, endTicket_of_clear ((hkeep.held d).trans h) (by rw [hkeep.ticket]; exact hc)]
  case start =>
    intro last centre
    have hcentre : s.sweepCentre k frame = centre := sweepCentre_eq s k frame
    rw [startSweep_of_ready hh hr, headD_of_lowest hn (enabledSteps_sorted _) hmin, hcentre]
    rfl
  case step =>
    intro w' sweep m
    refine ⟨fun hm => ?_, fun pos hm => ⟨fun hpause => ?_, fun hpause => ?_⟩⟩
    · rw [beginStep_eq (m := m) hst rfl, hm]
    · rw [beginStep_eq (m := m) hst rfl, hm]
      exact stepArrived_of_pause (s := m.1) hpause _ pos
    · rw [beginStep_eq (m := m) hst rfl, hm]
      exact stepArrived_of_no_pause (s := m.1) hpause _ pos

end Sys2Proof.Machine
end


section
/-! PROOFS. The end of a pass, the sweep write, the completion of a sweep, and track sweeps (O51). -/

namespace Sys2Proof.Machine

/-! ## The best step -/

theorem bestFigure_cons (f : Figure) (rest : List Figure) : bestFigure (f :: rest) =
    match bestFigure rest with
    | none => some f
    | some g => if g.figure > f.figure then some g else some f := rfl

theorem bestFigure_eq_none_iff {fs : List Figure} : bestFigure fs = none ↔ fs = [] := by
  cases fs with
  | nil => exact ⟨fun _ => rfl, fun _ => rfl⟩
  | cons f rest =>
    refine ⟨fun h => ?_, fun h => nomatch h⟩
    rw [bestFigure_cons] at h
    split at h
    · cases h
    · split at h <;> cases h

/-- The best step is the first of those with the highest figure (R95). -/
theorem bestFigure_cut {fs : List Figure} {f : Figure} (h : bestFigure fs = some f) :
    ∃ before after, fs = before ++ f :: after ∧ (∀ g ∈ before, g.figure < f.figure) ∧ ∀ g ∈ after, g.figure ≤ f.figure := by
  induction fs generalizing f with
  | nil => cases h
  | cons x rest ih =>
    cases hr : bestFigure rest with
    | none =>
      have hx : f = x := by rw [bestFigure_cons, hr] at h; exact (Option.some.inj h).symm
      have hrest : rest = [] := bestFigure_eq_none_iff.mp hr
      exact ⟨[], [], by rw [hx, hrest]; rfl, List.forall_mem_nil _, List.forall_mem_nil _⟩
    | some g =>
      obtain ⟨before, after, hcut, hbefore, hafter⟩ := ih hr
      simp only [bestFigure_cons, hr] at h
      by_cases hg : g.figure > x.figure
      · rw [if_pos hg] at h
        cases h
        refine ⟨x :: before, after, by rw [hcut]; rfl, fun y hy => ?_, hafter⟩
        rcases List.mem_cons.mp hy with rfl | hy
        · exact hg
        · exact hbefore y hy
      · rw [if_neg hg] at h
        cases h
        refine ⟨[], rest, rfl, List.forall_mem_nil _, fun y hy => ?_⟩
        have hle : y.figure ≤ g.figure := by
          rw [hcut] at hy
          rcases List.mem_append.mp hy with hy | hy
          · exact Nat.le_of_lt (hbefore y hy)
          · rcases List.mem_cons.mp hy with rfl | hy
            · exact Nat.le_refl _
            · exact hafter y hy
        exact Nat.le_trans hle (Nat.not_lt.mp hg)

/-! ## The end of a pass -/

section
variable {l : List Nat} {n : Nat}

theorem headD_iff_lowest (hl : List.Pairwise (· < ·) l) (hne : l ≠ []) : n = l.headD 0 ↔ n ∈ l ∧ ∀ m ∈ l, n ≤ m := by
  refine ⟨?_, fun ⟨hn, hmin⟩ => (headD_of_lowest hn hl hmin).symm⟩
  rintro rfl
  cases l with
  | nil => exact absurd rfl hne
  | cons x rest =>
    refine ⟨List.mem_cons_self .., fun m hm => ?_⟩
    rcases List.mem_cons.mp hm with rfl | hm
    · exact Nat.le_refl _
    · exact Nat.le_of_lt ((List.pairwise_cons.mp hl).1 m hm)

theorem getLast?_iff_highest (hl : List.Pairwise (· < ·) l) : some n = l.getLast? ↔ n ∈ l ∧ ∀ m ∈ l, m ≤ n := by
  rcases List.eq_nil_or_concat l with rfl | ⟨front, x, rfl⟩
  · simp
  · have hlast : (front.concat x).getLast? = some x := by simp
    rw [hlast, Option.some.injEq]
    simp only [List.concat_eq_append] at hl ⊢
    have hlow : ∀ m ∈ front, m < x := fun m hm => (List.pairwise_append.mp hl).2.2 m hm x (List.mem_cons_self ..)
    constructor
    · rintro rfl
      refine ⟨by simp, fun m hm => ?_⟩
      rcases List.mem_append.mp hm with hm | hm
      · exact Nat.le_of_lt (hlow m hm)
      · exact Nat.le_of_eq (List.mem_singleton.mp hm)
    · rintro ⟨hn, hmax⟩
      rcases List.mem_append.mp hn with hn | hn
      · exact absurd (hmax x (by simp)) (Nat.not_le.mpr (hlow n hn))
      · exact List.mem_singleton.mp hn

end

section
variable {s : State} {d : DeckId} {w : Sweep} {t : TicketNo} {best : Figure}

/-- A best step at either end of the plan (R95). -/
def Plan.AtEnd (p : Plan) (n : Nat) : Prop :=
  n ∈ p.enabledSteps ∧ ((∀ m ∈ p.enabledSteps, n ≤ m) ∨ ∀ m ∈ p.enabledSteps, m ≤ n)

theorem Plan.atEnd_iff {p : Plan} {n : Nat} (hlen : 2 ≤ p.enabledSteps.length) :
    p.AtEnd n ↔ n = p.enabledSteps.headD 0 ∨ some n = p.enabledSteps.getLast? := by
  have hne : p.enabledSteps ≠ [] := by rintro h; rw [h] at hlen; exact absurd hlen (by decide)
  rw [headD_iff_lowest (enabledSteps_sorted p) hne, getLast?_iff_highest (enabledSteps_sorted p), Plan.AtEnd, and_or_left]

/-- A second pass follows (R95). -/
def Extended (s : State) (w : Sweep) (best : Figure) : Prop :=
  s.fseq.plan.extension = true ∧ w.pass = 1 ∧ 2 ≤ s.fseq.plan.enabledSteps.length ∧ s.fseq.plan.AtEnd best.step

theorem extended_iff : Extended s w best ↔ s.fseq.plan.extension = true ∧ w.pass = 1 ∧
    s.fseq.plan.enabledSteps.length ≥ 2 ∧
      (best.step = s.fseq.plan.enabledSteps.headD 0 ∨ some best.step = s.fseq.plan.enabledSteps.getLast?) := by
  unfold Extended
  refine and_congr_right fun _ => and_congr_right fun _ => and_congr_right fun hlen => Plan.atEnd_iff hlen

theorem passEnded_of_extended (hb : bestFigure w.figures = some best) (h : Extended s w best) : s.passEnded w =
    s.beginStep { w with pass := 2, centre := best.pos, figures := [] } (s.fseq.plan.enabledSteps.headD 0) := by
  simp only [State.passEnded, hb]
  exact if_pos (extended_iff.mp h)

theorem passEnded_of_not_extended (hb : bestFigure w.figures = some best) (h : ¬ Extended s w best) :
    s.passEnded w = s.completeSweep w best := by
  simp only [State.passEnded, hb]
  exact if_neg (mt extended_iff.mpr h)

/-! ## The sweep write and the completion -/

theorem record_sweepWrite (r : FrameRecord) (setpoint figure : Nat) (forFocus : Bool) :
    r.sweepWrite setpoint figure forFocus =
      if r.withdrawn = true ∨ (r.source = some .host ∧ forFocus = false) then r
      else { r with setpoint := some setpoint, source := some .sweep, figure := some figure } := by
  unfold FrameRecord.sweepWrite
  by_cases h1 : r.withdrawn = true
  · rw [if_pos h1, if_pos (.inl h1)]
  · by_cases h2 : r.source = some .host ∧ forFocus = false
    · rw [if_neg h1, if_pos h2, if_pos (.inr h2)]
    · rw [if_neg h1, if_neg h2, if_neg (not_or.mpr ⟨h1, h2⟩)]

theorem sweepWrite_eq (s : State) (w : Sweep) (setpoint figure : Nat) : s.sweepWrite w setpoint figure = { s with
    chains := s.chains.set w.slot ((s.chain w.slot).map fun r =>
      if r.frame = w.frame then r.sweepWrite setpoint figure w.forFocus else r)
    entries := s.entries.set w.slot { s.entry w.slot with lastSetpoint := some setpoint } } := rfl

/-- The sequencer's result of a completed sweep (R97). -/
def completedResult (w : Sweep) (best : Figure) (o : SweepOutcome) (p : Option Nat) : SweepResult :=
  ⟨w.deck, w.slot, w.frame, w.centre, w.pass, w.figures, best.step, o, p⟩

/-- The state with the result of a sweep set (R97). -/
def resultSet (s : State) (x : SweepResult) : State := { s with fseq := { s.fseq with result := some x } }

/-- The end of a completion: the lens command, and the sequencer idle (R97). -/
def completionEnded (s : State) (w : Sweep) (o : SweepOutcome) (target : Nat) : State × Option SweepReport :=
  (((s.lensMove w.deck target .scheduler).1.setSweep none).jobEnd w.deck,
    some ⟨w.deck, w.track, .completed o (s.lensMove w.deck target .scheduler).2⟩)

theorem completeSweep_of_good (h : s.params.floor ≤ best.figure) : s.completeSweep w best =
    completionEnded ((resultSet s (completedResult w best .good (some best.pos))).sweepWrite w best.pos best.figure)
      w .good best.pos := by
  have hg : decide (best.figure ≥ s.params.floor) = true := decide_eq_true h
  simp only [State.completeSweep, hg, if_true]
  rfl

theorem completeSweep_of_soft (h : ¬ s.params.floor ≤ best.figure) : s.completeSweep w best =
    completionEnded (resultSet s (completedResult w best .soft none)) w .soft w.centre := by
  have hg : decide (best.figure ≥ s.params.floor) = false := decide_eq_false h
  simp only [State.completeSweep, hg]
  rfl

/-- What a completion leaves of the state before its lens command. -/
theorem completionEnded_fields (s : State) (w : Sweep) (o : SweepOutcome) (target : Nat) :
    let x := completionEnded s w o target
    x.1.fseq.sweep = none ∧ x.1.fseq.plan = s.fseq.plan ∧ x.1.fseq.result = s.fseq.result ∧ x.1.chains = s.chains ∧
      x.1.entries = s.entries ∧ x.1.lens w.deck = (s.lensMove w.deck target .scheduler).1.lens w.deck ∧
      ∃ a, x.2 = some ⟨w.deck, w.track, .completed o a⟩ := by
  obtain ⟨_, _, _, h⟩ := ArbiterOnly.jobEnd ((s.lensMove w.deck target .scheduler).1.setSweep none) w.deck
  simp only [completionEnded, h]
  exact ⟨rfl, rfl, rfl, rfl, rfl, rfl, _, rfl⟩

/-! ## Track sweeps -/

theorem callTrack_of_not_due {frame pos : Nat}
    (h : ¬ (s.params.policy = .track ∧ (frame = 1 ∨ frame % s.params.trackInterval = 0))) :
    s.callTrack d frame pos = s := if_neg h

theorem trackBarred_iff : (s.opa.holder = some d.other ∨ s.fseq.sweep.isSome = true ∨ (s.sched d).track.isSome = true) ↔
    (s.opa.holder = some d.other ∨ s.fseq.sweep ≠ none ∨ (s.sched d).track ≠ none) := by
  simp only [Option.isSome_iff_ne_none]

theorem callTrack_of_barred {frame pos : Nat}
    (h : s.params.policy = .track ∧ (frame = 1 ∨ frame % s.params.trackInterval = 0))
    (hbar : s.opa.holder = some d.other ∨ s.fseq.sweep ≠ none ∨ (s.sched d).track ≠ none) : s.callTrack d frame pos =
      { s with fseq := { s.fseq with skippedTrack := s.fseq.skippedTrack + 1 } } :=
  (if_pos h).trans (if_pos (trackBarred_iff.mpr hbar))

theorem stopRun_of_not_deferred (h : (s.deck d).motion ≠ .deferred) : s.stopRun d = stoppedWhereMoving s d := by
  rw [State.stopRun, stop_eq]
  cases hs : (s.deck d).state <;> simp [h]

theorem callTrack_of_taken {frame pos : Nat}
    (h : s.params.policy = .track ∧ (frame = 1 ∨ frame % s.params.trackInterval = 0))
    (hbar : ¬ (s.opa.holder = some d.other ∨ s.fseq.sweep ≠ none ∨ (s.sched d).track ≠ none))
    (hm : (s.deck d).motion ≠ .deferred) : s.callTrack d frame pos = stoppedWhereMoving (s.modSched d fun c =>
      { c with track := some ⟨frame, pos, false, false⟩, step := some .track }) d :=
  (if_pos h).trans ((if_neg (mt trackBarred_iff.mp hbar)).trans (stopRun_of_not_deferred hm))

/-- A pending track sweep begins (R102, R153). -/
def TrackBegins (s : State) (d : DeckId) (t : TicketNo) (tr : Track) : Prop :=
  tr.running = false ∧ tr.arrived = true ∧ s.opa.holder = some d ∧ (s.deck d).state = .ready ∧
    (s.ticket t).cancelPending = false

section
variable {k : Slot} {tr : Track} (ht : (s.sched d).active = some t) (hk : s.entryOf d = some k)
  (htr : (s.sched d).track = some tr)
include ht hk htr

theorem beginTrack_of_waiting (h : ¬ TrackBegins s d t tr) : s.beginTrack d = none := by
  simp only [State.beginTrack, ht, hk, htr]
  exact if_neg h

theorem beginTrack_of_absent (h : TrackBegins s d t tr) (hr : s.pins.ready = false) :
    s.beginTrack d = some (s.skipTrack d) := by
  simp only [State.beginTrack, ht, hk, htr]
  exact (if_pos h).trans (if_neg (Bool.eq_false_iff.mp hr))

theorem beginTrack_of_ready (h : TrackBegins s d t tr) (hr : s.pins.ready = true) (hw : s.fseq.sweep = none) :
    s.beginTrack d = some (State.sweepReport? ((s.modSched d fun c => { c with
      track := some { tr with running := true } }).startSweep d k tr.frame false true)) := by
  obtain ⟨hrun, harr, hh, hready, hc⟩ := h
  simp only [State.beginTrack, ht, hk, htr, hrun, harr, hh, hready, hc, hr, and_self, if_true, sweepAnswer_taken hw hh hready hk]

omit hk in
theorem sweepReported_of_track (hrun : tr.running = true) (e : SweepEnd) :
    s.sweepReported ⟨d, true, e⟩ = s.trackEnded d t e := by
  have hany : (s.sched d).track.any (·.running) = true := by rw [htr]; exact hrun
  simp only [State.sweepReported, ht, if_true, if_pos hany]

end

theorem trackEnded_of_ending (h : (s.sched d).held.isSome = true ∨ (s.ticket t).cancelPending = true) (e : SweepEnd) :
    s.trackEnded d t e = s.endTicket d t .cancelled := if_pos h

/-- The track sweep of a deck ended without an end of its ticket. -/
def trackDropped (s : State) (d : DeckId) : State := s.modSched d fun c => { c with track := none }

theorem trackEnded_of_going_on (hh : (s.sched d).held = none) (hc : (s.ticket t).cancelPending = false) (e : SweepEnd) :
    s.trackEnded d t e = match e with
      | .completed _ _ => trackDropped s d
      | .aborted cause => if cause.camera then s.skipTrack d else trackDropped s d := by
  have hno : ¬ ((s.sched d).held.isSome = true ∨ (s.ticket t).cancelPending = true) := by simp [hh, hc]
  exact if_neg hno

end

/-- Settles O51: the best step and the plan as lists, the end of a pass by `passEnded_of_extended`, a completion by the fields
it leaves, and each turn of a track sweep by its lemma. -/
theorem sweepWriteAndCompletion : Obligations.SweepWriteAndCompletion := by
  unfold Obligations.SweepWriteAndCompletion
  refine ⟨⟨fun fs => ⟨bestFigure_eq_none_iff, fun f => bestFigure_cut⟩,
    fun p => ⟨enabledSteps_sorted p, fun n => mem_enabledSteps⟩, fun s w best hb => ?pass,
    fun s w setpoint figure => ?write⟩, fun s w best => ?completion, fun s d frame pos => ?call,
        fun s d t k tr ht hk htr => ?track⟩
  case pass =>
    intro steps atEnd extended
    refine ⟨fun n hn hmin hext => ?_, fun hext => passEnded_of_not_extended hb hext⟩
    rw [passEnded_of_extended hb hext, headD_of_lowest hn (enabledSteps_sorted _) hmin]
  case write =>
    intro write
    have hwrite : (fun r : FrameRecord => r.sweepWrite setpoint figure w.forFocus) = write :=
      funext fun r => record_sweepWrite r setpoint figure w.forFocus
    rw [sweepWrite_eq, ← hwrite]
  case completion =>
    intro x good result
    by_cases hg : s.params.floor ≤ best.figure
    · have hx : x = _ := completeSweep_of_good hg
      obtain ⟨hsweep, hplan, hresult, hchains, hentries, hlens, hreport⟩ := completionEnded_fields
        ((resultSet s (completedResult w best .good (some best.pos))).sweepWrite w best.pos best.figure) w .good best.pos
      rw [hx]
      exact ⟨hsweep, hplan, fun _ => ⟨hresult, hchains, hentries, hlens, hreport⟩, absurd hg⟩
    · have hx : x = _ := completeSweep_of_soft hg
      obtain ⟨hsweep, hplan, hresult, hchains, hentries, hlens, hreport⟩ := completionEnded_fields
        (resultSet s (completedResult w best .soft none)) w .soft w.centre
      rw [hx]
      exact ⟨hsweep, hplan, fun h => absurd h hg, fun _ => ⟨hresult, hchains, hentries, hlens, hreport⟩⟩
  case call =>
    intro c due barred
    exact ⟨callTrack_of_not_due, callTrack_of_barred, callTrack_of_taken⟩
  case track =>
    intro c ends begins
    have hzero : trackDropped s d = ends 0 := by
      change _ = ({ s with
        scheds := s.scheds.set d { c with track := none }, fseq := { s.fseq with skippedTrack := s.fseq.skippedTrack + 0 } } : State)
      rw [show s.fseq.skippedTrack + 0 = s.fseq.skippedTrack from BitVec.add_zero _]
      rfl
    refine ⟨beginTrack_of_waiting ht hk htr, beginTrack_of_absent ht hk htr, beginTrack_of_ready ht hk htr, fun hrun => ?_⟩
    intro reported
    have hrep : ∀ e, reported e = s.trackEnded d t e := sweepReported_of_track ht htr hrun
    refine ⟨fun e h => ?_, fun e h => ?_, fun e h hc => ?_, fun h hc => ⟨fun o a => ?_, fun cause hcause => ?_,
        fun cause hcause => ?_⟩⟩
    · rw [hrep, trackEnded_of_ending (.inl (by rw [h]; rfl)), endTicket_of_halted h]
    · rw [hrep, trackEnded_of_ending (.inl (by rw [h]; rfl)), endTicket_of_removed h]
    · rw [hrep, trackEnded_of_ending (.inr hc), endTicket_of_cancel h hc]
    · rw [hrep, trackEnded_of_going_on h hc]
      exact hzero
    · have hcamera : cause.camera = true := by
        simp only [List.mem_cons, List.not_mem_nil, or_false] at hcause
        rcases hcause with rfl | rfl | rfl <;> rfl
      rw [hrep, trackEnded_of_going_on h hc]
      exact if_pos hcamera
    · have hcamera : cause.camera = false := by
        simp only [List.mem_cons, List.not_mem_nil, or_false] at hcause
        rcases hcause with rfl | rfl | rfl | rfl <;> rfl
      rw [hrep, trackEnded_of_going_on h hc]
      exact (if_neg (Bool.eq_false_iff.mp hcamera)).trans hzero

end Sys2Proof.Machine
end


section
/-! PROOFS. The end of the CAPTURE order of a ticket, and the frame boundary of a range (O55). -/

namespace Sys2Proof.Machine

section
variable {s : State} {d : DeckId} {t : TicketNo} {o : Order}

/-! ## The end of the order -/

theorem endOrder_of_capture (h : o.request.kind = .capture) (e : OrderEnd) :
    s.endOrder o e = s.clearOrder.captureEnded o.request.deck e := by simp only [State.endOrder, h]

theorem countCapture_eq (x : Ticket) (id : BitVec 32) (soft : Bool) : x.countCapture id soft = { x with
    captured := min 16384 (x.captured + 1), lastId := some id
    firstId := if x.firstId.isSome then x.firstId else some id
    soft := if soft then min 16384 (x.soft + 1) else x.soft } := by
  have hfirst : (x.firstId.orElse fun _ => some id) = if x.firstId.isSome then x.firstId else some id := by
    cases x.firstId <;> rfl
  rw [Ticket.countCapture, hfirst]
  rfl

theorem captureEnded_of_refused (ht : (s.sched d).active = some t) :
    s.captureEnded d .refused = (s.jobEnd d).endTicket d t .cameraRefused := by simp only [State.captureEnded, ht]

theorem captureEnded_of_timeout (ht : (s.sched d).active = some t) :
    s.captureEnded d .timeout = (s.jobEnd d).endTicket d t .cameraTimeout := by simp only [State.captureEnded, ht]

/-- The state with the capture of ticket `t` counted (R127, R162 step 1). -/
def captureCounted (s : State) (d : DeckId) (t : TicketNo) (id : BitVec 32) : State :=
  s.modTicket t fun x => x.countCapture id (s.sched d).softFrame

theorem captureEnded_of_taken (ht : (s.sched d).active = some t) (id : BitVec 32) :
    s.captureEnded d (.taken id) =
      let u := (captureCounted s d t id).jobEnd d
      if (u.sched d).held.isNone = true ∧ (u.ticket t).cancelPending = false ∧ (u.ticket t).kind = some .range then
        u.frameBoundary d t
      else u.endTicket d t .completed := by
  simp only [State.captureEnded, ht]
  rfl

theorem captureEnded_at_boundary (ht : (s.sched d).active = some t) {id : BitVec 32} {u : State}
    (hu : (captureCounted s d t id).jobEnd d = u) (hh : (u.sched d).held = none) (hc : (u.ticket t).cancelPending = false)
    (hr : (u.ticket t).kind = some .range) : s.captureEnded d (.taken id) = u.frameBoundary d t := by
  subst hu
  exact (captureEnded_of_taken ht id).trans (if_pos ⟨by rw [hh]; rfl, hc, hr⟩)

theorem captureEnded_off_boundary (ht : (s.sched d).active = some t) {id : BitVec 32} {u : State}
    (hu : (captureCounted s d t id).jobEnd d = u)
    (h : (u.sched d).held ≠ none ∨ (u.ticket t).cancelPending = true ∨ (u.ticket t).kind ≠ some .range) :
    s.captureEnded d (.taken id) = u.endTicket d t .completed := by
  subst hu
  refine (captureEnded_of_taken ht id).trans (if_neg ?_)
  rintro ⟨hh, hc, hr⟩
  rcases h with h | h | h
  · exact h (Option.isNone_iff_eq_none.mp hh)
  · exact absurd (h.symm.trans hc) (by decide)
  · exact h hr

/-! ## The frame boundary -/

/-- Frame `m` of a range up to `last` is passed over as withdrawn (R163). -/
def Skipped (s : State) (k : Slot) (last m : Nat) : Prop := m ≤ last ∧ ∃ r, s.record k m = some r ∧ r.withdrawn = true

theorem skipped_iff {k : Slot} {last m : Nat} :
    (m ≤ last ∧ (s.record k m).any (·.withdrawn) = true) ↔ Skipped s k last m := by
  simp only [Skipped, Option.any_eq_true]

theorem nextFrame_of_skipped {k : Slot} {last fuel m : Nat} (h : Skipped s k last m) : s.nextFrame k last (fuel + 1) m =
    ((s.nextFrame k last fuel (m + 1)).1, (s.nextFrame k last fuel (m + 1)).2 + 1) := if_pos (skipped_iff.mpr h)

theorem nextFrame_of_kept {k : Slot} {last m : Nat} (h : ¬ Skipped s k last m) (fuel : Nat) :
    s.nextFrame k last fuel m = (m, 0) := by
  cases fuel with
  | zero => rfl
  | succ fuel => exact if_neg (mt skipped_iff.mp h)

/-- The next frame of a range is the first that is not passed over (R163). -/
theorem nextFrame_eq {k : Slot} {last fuel m n : Nat} (hle : m ≤ n) (hfuel : n - m ≤ fuel)
    (hskip : ∀ i, m ≤ i → i < n → Skipped s k last i) (hn : ¬ Skipped s k last n) :
    s.nextFrame k last fuel m = (n, n - m) := by
  induction fuel generalizing m with
  | zero =>
    have hm : m = n := by omega
    subst hm
    rw [nextFrame_of_kept hn, Nat.sub_self]
  | succ fuel ih =>
    rcases Nat.eq_or_lt_of_le hle with rfl | hlt
    · rw [nextFrame_of_kept hn, Nat.sub_self]
    · rw [nextFrame_of_skipped (hskip m (Nat.le_refl m) hlt),
        ih hlt (by omega) fun i hi => hskip i (Nat.le_of_succ_le hi)]
      exact Prod.ext rfl (by change n - (m + 1) + 1 = n - m; omega)

theorem nextFrame_congr {u : State} (h : ∀ k m, u.record k m = s.record k m) (k : Slot) (last fuel m : Nat) :
    u.nextFrame k last fuel m = s.nextFrame k last fuel m := by
  induction fuel generalizing m with
  | zero => rfl
  | succ fuel ih => simp only [State.nextFrame, ih, h]

/-- Ticket `t` at frame `n` of its range, with `j` frames passed over (R163). -/
def boundarySet (s : State) (d : DeckId) (t : TicketNo) (n j : Nat) : State := { s with
  tickets := s.tickets.set t { s.ticket t with current := some n, skipped := min 16384 ((s.ticket t).skipped + j) }
  scheds := s.scheds.set d { s.sched d with softFrame := false, capturePos := none } }

section
variable {k : Slot} {frame last n j : Nat} (hk : (s.ticket t).slot = some k) (hf : (s.ticket t).current = some frame)
  (hl : (s.ticket t).last = some last) (hn : s.nextFrame k last (last + 1 - frame) (frame + 1) = (n, j))
include hk hf hl hn

theorem frameBoundary_eq : s.frameBoundary d t = if n > last then (boundarySet s d t n j).finalize t .completed else
    ((boundarySet s d t n j).modTicket t fun x => { x with state := .queued, pathWait := false }).modSched d Sched.idle := by
  have hn' : (s.modSched d fun c => { c with softFrame := false, capturePos := none }).nextFrame k last (last + 1 - frame)
      (frame + 1) = (n, j) := by
    rw [← hn]
    exact nextFrame_congr (s := s)
      (u := s.modSched d fun c => { c with softFrame := false, capturePos := none }) (fun _ _ => rfl) k last _ _
  simp only [State.frameBoundary, hk, hf, hl, hn']
  rfl

theorem frameBoundary_past (h : last < n) : s.frameBoundary d t = (boundarySet s d t n j).finalize t .completed :=
  (frameBoundary_eq hk hf hl hn).trans (if_pos h)

theorem frameBoundary_within (h : n ≤ last) : s.frameBoundary d t = { s with
    tickets := s.tickets.set t { s.ticket t with
      current := some n, skipped := min 16384 ((s.ticket t).skipped + j), state := .queued, pathWait := false }
    scheds := s.scheds.set d (s.sched d).idle } := by
  have hx : (boundarySet s d t n j).ticket t =
      { s.ticket t with current := some n, skipped := min 16384 ((s.ticket t).skipped + j) } := Vector.getElem_set_self ..
  have hc : (boundarySet s d t n j).sched d = { s.sched d with softFrame := false, capturePos := none } := Pair.get_set_self ..
  rw [frameBoundary_eq hk hf hl hn, if_neg (Nat.not_lt.mpr h), State.modTicket, hx, State.modSched]
  simp only [State.sched_setTicket, hc]
  simp only [State.setTicket, State.setSched, boundarySet, Vector.set_set, Pair.set_set, Sched.idle]

end

theorem ArbiterOnly.record {u : State} (h : ArbiterOnly s u) (k : Slot) (n : Nat) : u.record k n = s.record k n := by
  obtain ⟨_, _, _, rfl⟩ := h
  rfl

/-! ## The ways the order ends -/

section
variable (hrun : running s = true) (ho : s.hlp.order = some o) (hkind : o.request.kind = .capture)
  (hdeck : o.request.deck = d) (hs : o.started = true) (ht : (s.sched d).active = some t)
include hrun ho hkind hdeck

include hs in
theorem captureTaken_reported (hhunt : s.hlp.receiver = .hunt) (value : BitVec 32) {u : State}
    (hu : (State.clearOrder { s with hlp := { s.hlp with receiver := .hunt, gapTimer := none } }).captureEnded d (.taken value) = u) :
    exec (.headReport o.number 1 value (bodyCrc (o.number :: 1 :: bytes32 value))) s = .next u.settle := by
  rw [exec_headReport hrun hhunt ho hs (.inl rfl), if_pos (by decide), endOrder_of_capture hkind, hdeck, hu]

include hs ht in
theorem captureRefused_reported (hhunt : s.hlp.receiver = .hunt) (value : BitVec 32) {r : TicketOutcome}
    (hr : ∀ u, KeepsStages s u → u.endTicket d t .cameraRefused = u.finalize t r) :
    exec (.headReport o.number 2 value (bodyCrc (o.number :: 2 :: bytes32 value))) s = .next (((State.clearOrder
      { s with hlp := { s.hlp with receiver := .hunt, gapTimer := none } }).jobEnd d).finalize t r).settle := by
  rw [exec_headReport hrun hhunt ho hs (.inr rfl), if_neg (by decide), endOrder_of_capture hkind, hdeck,
    captureEnded_of_refused (by exact ht),
    hr (State.jobEnd (State.clearOrder { s with hlp := { s.hlp with receiver := .hunt, gapTimer := none } }) d)
      ((KeepsStages.jobEnd _ d).after rfl rfl)]

include ht in
theorem captureTimeout_taken (htimeout : o.timeout.isSome = true) {r : TicketOutcome}
    (hr : ∀ u, KeepsStages s u → u.endTicket d t .cameraTimeout = u.finalize t r) :
    exec .headTimeout s = .next ((s.clearOrder.jobEnd d).finalize t r).settle := by
  rw [exec_headTimeout hrun ho htimeout, endOrder_of_capture hkind, hdeck, captureEnded_of_timeout (by exact ht),
    hr (s.clearOrder.jobEnd d) ((KeepsStages.jobEnd _ d).after rfl rfl)]

include hs ht in
theorem captureAbsent_taken (hw : s.fseq.sweep = none) {r : TicketOutcome}
    (hr : ∀ u, KeepsStages s u → u.endTicket d t .cameraAbsent = u.finalize t r) :
    exec .readyFalls s = .next ((((State.clearOrder { s with pins := { s.pins with ready := false } }).jobEnd d).finalize
      t r).settle) := by
  rw [exec_readyFalls hrun, endAbsent_of_started (by exact ho) hs rfl, endOrder_of_capture hkind, hdeck,
    captureEnded_of_absent (by exact ht),
    hr (State.jobEnd (State.clearOrder { s with pins := { s.pins with ready := false } }) d)
      ((KeepsStages.jobEnd _ d).after rfl rfl),
    readyLost_of_no_sweep ((sweep_finalize_jobEnd (State.clearOrder { s with pins := { s.pins with ready := false } })
      d t r).trans hw)]

end

end

/-- Settles O55: every end of the order comes to `endTicket`, whose outcome follows the held failure and the pending cancel,
but for a TAKEN report of a RANGE, which comes to `frameBoundary`. -/
theorem captureEndsFetch : Obligations.CaptureEndsFetch := by
  unfold Obligations.CaptureEndsFetch
  intro s o d t value hrun ho hkind hdeck hs ht x c ended heard x' counted crc taken failures all
  have hset : captureCounted heard d t value = { heard with tickets := s.tickets.set t x' } :=
    congrArg (fun y => ({ heard with tickets := s.tickets.set t y } : State)) (countCapture_eq x value c.softFrame)
  have hcounted : (captureCounted heard d t value).jobEnd d = counted := by rw [hset]
  have hkeep : KeepsStages { heard with tickets := s.tickets.set t x' } counted := KeepsStages.jobEnd _ d
  have hheld : (counted.sched d).held = c.held := hkeep.held d
  have hticket : counted.ticket t = x' := (hkeep.ticket t).trans (Vector.getElem_set_self ..)
  have htaken : ∀ u, heard.captureEnded d (.taken value) = u → taken u := fun u hu hhunt =>
    captureTaken_reported hrun ho hkind hdeck hs hhunt value hu
  have hfail : ∀ r1 r2 r3, (∀ u, KeepsStages s u → u.endTicket d t .cameraRefused = u.finalize t r1) →
      (∀ u, KeepsStages s u → u.endTicket d t .cameraTimeout = u.finalize t r2) →
      (∀ u, KeepsStages s u → u.endTicket d t .cameraAbsent = u.finalize t r3) → failures r1 r2 r3 := fun r1 r2 r3 h1 h2 h3 =>
    ⟨fun hhunt => captureRefused_reported hrun ho hkind hdeck hs ht hhunt value h1,
      fun htimeout => captureTimeout_taken hrun ho hkind hdeck ht htimeout h2,
      fun hw => captureAbsent_taken hrun ho hkind hdeck hs ht hw h3⟩
  have hoff : (counted.sched d).held ≠ none ∨ (counted.ticket t).cancelPending = true ∨
      (counted.ticket t).kind ≠ some .range →
      heard.captureEnded d (.taken value) = counted.endTicket d t .completed :=
    captureEnded_off_boundary (s := heard) ht hcounted
  have hall : ∀ r, (∀ (u : State) (cause : TicketOutcome),
      (u.sched d).held = c.held → (u.ticket t).cancelPending = x.cancelPending →
      u.endTicket d t cause = u.finalize t r) → c.held ≠ none ∨ x.cancelPending = true → all r := by
    intro r hr hno
    have hstage : ∀ cause u, KeepsStages s u → u.endTicket d t cause = u.finalize t r := fun cause u hu =>
      hr u cause (hu.held d) (by rw [hu.ticket])
    refine ⟨htaken _ ((hoff ?_).trans (hr counted _ hheld (by rw [hticket]))), hfail r r r (hstage _) (hstage _) (hstage _)⟩
    rw [hheld, hticket]
    exact hno.imp_right .inl
  refine ⟨fun h => hall _ (fun u cause hu _ => endTicket_of_halted (hu.trans h)) (.inl (by rw [h]; exact Option.some_ne_none _)),
    fun h => hall _ (fun u cause hu _ => endTicket_of_removed (hu.trans h)) (.inl (by rw [h]; exact Option.some_ne_none _)),
    fun h hc => hall _ (fun u cause hu hp => endTicket_of_cancel (hu.trans h) (hp.trans hc)) (.inr hc), fun h hc => ?clear⟩
  case clear =>
    have hclear : ∀ cause u, KeepsStages s u → u.endTicket d t cause = u.finalize t cause := fun cause u hu =>
      endTicket_of_clear ((hu.held d).trans h) (by rw [hu.ticket]; exact hc)
    refine ⟨hfail _ _ _ (hclear _) (hclear _) (hclear _), fun hfetch => htaken _ ((hoff (.inr (.inr ?_))).trans
      (endTicket_of_clear (hheld.trans h) (by rw [hticket]; exact hc))), fun k frame last n hrange hk hf hl => ?range⟩
    · rw [hticket]
      exact fun hr => absurd (hfetch.symm.trans hr) (by decide)
    case range =>
      intro skips hlt hskip hn y at' c'
      have hrecord : ∀ m, counted.record k m = s.record k m := fun m => (ArbiterOnly.jobEnd _ d).record k m
      have hiff : ∀ m, Skipped counted k last m ↔ skips m := fun m => by rw [Skipped, hrecord]
      have hnext : counted.nextFrame k last (last + 1 - frame) (frame + 1) = (n, n - frame - 1) := by
        rw [nextFrame_eq (n := n) hlt ?_ (fun m hm hmn => (hiff m).mpr (hskip m hm hmn)) (mt (hiff n).mp hn), Nat.sub_sub]
        by_cases hone : n = frame + 1
        · omega
        · obtain ⟨hle, _⟩ := hskip (n - 1) (by omega) (by omega)
          omega
      have hslot : (counted.ticket t).slot = some k := by rw [hticket]; exact hk
      have hcur : (counted.ticket t).current = some frame := by rw [hticket]; exact hf
      have hlast : (counted.ticket t).last = some last := by rw [hticket]; exact hl
      have hbound : heard.captureEnded d (.taken value) = counted.frameBoundary d t :=
        captureEnded_at_boundary (s := heard) ht hcounted (hheld.trans h) (by rw [hticket]; exact hc)
            (by rw [hticket]; exact hrange)
      have htickets : ∀ z, counted.tickets.set t z = s.tickets.set t z := fun z => by
        rw [hkeep.tickets]
        exact Vector.set_set ..
      refine ⟨fun hpast => htaken _ (hbound.trans ?_), fun hwithin => htaken _ (hbound.trans ?_)⟩
      · rw [frameBoundary_past hslot hcur hlast hnext hpast, boundarySet, htickets, hticket]
      · rw [frameBoundary_within hslot hcur hlast hnext hwithin, htickets, hticket]
        rfl

end Sys2Proof.Machine
end


section
/-! PROOFS. Fields of answer data (R186), and the frames that READ FRAMES and FIND FRAME answer (O15). -/

namespace Sys2Proof.Machine

/-! ## Numbers spelled by bytes -/

/-- The number that bytes spell, most significant first. -/
def spelled (l : List Byte) : Nat := l.foldl (fun v b => 256 * v + b.toNat) 0

/-- The number that the `n` bytes from offset `i` spell. -/
def field (l : List Byte) (i n : Nat) : Nat := spelled ((l.drop i).take n)

theorem spelled_byte (b : Byte) : spelled [b] = b.toNat := by
  simp only [spelled, List.foldl_cons, List.foldl_nil]
  omega

theorem num8_toNat (n : Nat) : (num8 n).toNat = n % 2 ^ 8 := BitVec.toNat_ofNat ..

theorem spelled_num8 (n : Nat) : spelled [num8 n] = n % 2 ^ 8 := (spelled_byte _).trans (num8_toNat n)

theorem spelled_num8_of_lt {n : Nat} (h : n < 256) : spelled [num8 n] = n := (spelled_num8 n).trans (Nat.mod_eq_of_lt h)

theorem spelled_bytes16 (h : Half) : spelled (bytes16 h) = h.toNat := by
  have hlt := h.isLt
  simp only [spelled, bytes16, List.foldl_cons, List.foldl_nil, BitVec.extractLsb'_toNat, Nat.shiftRight_eq_div_pow]
  omega

theorem spelled_bytes24 (h : BitVec 24) : spelled (bytes24 h) = h.toNat := by
  have hlt := h.isLt
  simp only [spelled, bytes24, List.foldl_cons, List.foldl_nil, BitVec.extractLsb'_toNat, Nat.shiftRight_eq_div_pow]
  omega

theorem spelled_bytes32 (h : BitVec 32) : spelled (bytes32 h) = h.toNat := by
  have hlt := h.isLt
  simp only [spelled, bytes32, List.foldl_cons, List.foldl_nil, BitVec.extractLsb'_toNat, Nat.shiftRight_eq_div_pow]
  omega

theorem spelled_num16 (n : Nat) : spelled (num16 n) = n % 2 ^ 16 := (spelled_bytes16 _).trans (BitVec.toNat_ofNat ..)

theorem spelled_num24 (n : Nat) : spelled (num24 n) = n % 2 ^ 24 := (spelled_bytes24 _).trans (BitVec.toNat_ofNat ..)

theorem spelled_num64 (n : Nat) : spelled (num64 n) = n % 2 ^ 64 := by
  simp only [spelled, num64, List.foldl_cons, List.foldl_nil, num8_toNat]
  omega

theorem flag_eq (b : Bool) : flag b = if b then 1 else 0 := by cases b <;> rfl

theorem flag_le (b : Bool) : flag b ≤ 1 := by cases b <;> decide

/-! ## Items of equal length -/

theorem field_drop (l : List Byte) (i j n : Nat) : field l (i + j) n = field (l.drop i) j n := by
  rw [field, field, List.drop_drop]

/-- The item at a place of a list whose items are sent with `c` bytes each. -/
theorem drop_flatMap_of_length {α : Type} {f : α → List Byte} {c : Nat} (hf : ∀ x, (f x).length = c) {l : List α} {i : Nat}
    {x : α} (hx : l[i]? = some x) (tail : List Byte) : ∃ rest, (l.flatMap f ++ tail).drop (c * i) = f x ++ rest := by
  induction l generalizing i with
  | nil => simp at hx
  | cons y l ih =>
    cases i with
    | zero =>
      cases hx
      exact ⟨l.flatMap f ++ tail, by simp⟩
    | succ i =>
      obtain ⟨rest, hrest⟩ := ih hx
      refine ⟨rest, ?_⟩
      have hfirst : (f y ++ (l.flatMap f ++ tail)).drop c = l.flatMap f ++ tail := by rw [← hf y, List.drop_left]
      rw [List.flatMap_cons, List.append_assoc, Nat.mul_succ, Nat.add_comm, ← List.drop_drop, hfirst, hrest]

theorem length_flatMap_of_length {α : Type} {f : α → List Byte} {c : Nat} (hf : ∀ x, (f x).length = c) (l : List α) :
    (l.flatMap f).length = c * l.length := by
  induction l with
  | nil => rfl
  | cons x l ih => rw [List.flatMap_cons, List.length_append, hf, ih, List.length_cons, Nat.mul_succ, Nat.add_comm]

/-! ## Records -/

section
variable {r : FrameRecord}

theorem source_code_eq (x : SetpointSource) : x.code = [SetpointSource.declared, .sweep, .host].idxOf x := by cases x <;> rfl

theorem class_code_eq (c : MarkClass) : c.code = [MarkClass.minor, .major, .sectionMark].idxOf c := by cases c <;> rfl

theorem condition_code_eq (c : Condition) : c.code = [Condition.declared, .seen, .verified, .damaged].idxOf c := by
  cases c <;> rfl

theorem positionWord_eq (r : FrameRecord) : positionWord r = 2 ^ 23 * (if r.withdrawn then 1 else 0) +
    2 ^ 21 * ((r.source.map fun x => [SetpointSource.declared, .sweep, .host].idxOf x).getD 0) + r.position := by
  simp only [positionWord, flag_eq, source_code_eq]

theorem recordWord_eq (r : FrameRecord) : recordWord r = 2 ^ 49 * r.sectionNo + 2 ^ 34 * r.groupNo + 2 ^ 19 * r.indexNo +
    2 ^ 7 * r.setpoint.getD 0 + 2 ^ 5 * [MarkClass.minor, .major, .sectionMark].idxOf r.cls +
    2 ^ 3 * [Condition.declared, .seen, .verified, .damaged].idxOf r.condition + 2 * r.missCount +
    (if r.setpoint.isSome then 1 else 0) := by
  simp only [recordWord, flag_eq, class_code_eq, condition_code_eq]

end

/-- The fields of the record at place `i` of READ FRAMES (10.7). -/
theorem framesData_record {k : Slot} {f i : Nat} {records : List FrameRecord} {r : FrameRecord} (h : records[i]? = some r) :
    let data := framesData k f records
    let o := 4 + 15 * i
    field data o 3 = positionWord r % 2 ^ 24 ∧ field data (o + 3) 8 = recordWord r % 2 ^ 64 ∧
      field data (o + 11) 2 = r.figure.getD 0 % 2 ^ 16 ∧ field data (o + 13) 2 = r.note % 2 ^ 16 := by
  obtain ⟨rest, hrest⟩ := drop_flatMap_of_length (f := recordData) (c := 15) (fun _ => rfl) h []
  have hdrop : (framesData k f records).drop (4 + 15 * i) = recordData r ++ rest := by
    rw [← List.drop_drop, ← hrest, List.append_nil]
    rfl
  have hfield : ∀ j n, field (framesData k f records) (4 + 15 * i + j) n = field (recordData r ++ rest) j n := fun j n => by
    rw [field_drop, hdrop]
  exact ⟨(hfield 0 3).trans (spelled_num24 _), (hfield 3 8).trans (spelled_num64 _), (hfield 11 2).trans (spelled_num16 _),
    (hfield 13 2).trans (spelled_num16 _)⟩

theorem framesData_length (k : Slot) (f : Nat) (records : List FrameRecord) :
    (framesData k f records).length = 4 + 15 * records.length := by
  have h := length_flatMap_of_length (f := recordData) (c := 15) (fun _ => rfl) records
  simp only [framesData, num16, bytes16, List.cons_append, List.nil_append, List.length_cons, h]
  omega

/-! ## FIND FRAME -/

section
variable {s : State} {slot : Byte} {k : Slot} {sec group i : Half}

/-- The record found by its hierarchy numbers (R79). -/
def namedRecord (s : State) (k : Slot) (sec group i : Half) : Option FrameRecord :=
  (s.chain k).find? fun r => r.sectionNo == sec.toNat && r.groupNo == group.toNat && r.indexNo == i.toNat

theorem findFrame_of_found (hk : slot.toNat = k.val) (hfree : (s.entry k).state ≠ .free)
    (hok : (hierarchyOk sec && hierarchyOk group && hierarchyOk i) = true) {r : FrameRecord}
    (hr : namedRecord s k sec group i = some r) : s.findFrame slot sec group i = s.answer (num16 r.frame) := by
  rw [namedRecord] at hr
  simp only [State.findFrame, slotOf_of_toNat_eq hk, hok, Bool.true_eq_false, if_false, if_neg hfree, hr]

theorem findFrame_of_not_found (hk : slot.toNat = k.val) (hfree : (s.entry k).state ≠ .free)
    (hok : (hierarchyOk sec && hierarchyOk group && hierarchyOk i) = true) (hr : namedRecord s k sec group i = none) :
    s.findFrame slot sec group i = s.refuse .notFound := by
  rw [namedRecord] at hr
  simp only [State.findFrame, slotOf_of_toNat_eq hk, hok, Bool.true_eq_false, if_false, if_neg hfree, hr]

/-- The record that the hierarchy numbers name is found (R79). -/
theorem find?_of_unique {l : List FrameRecord} {p : FrameRecord → Bool} {r : FrameRecord} (hr : r ∈ l) (hp : p r = true)
    (huniq : ∀ q ∈ l, p q = true → q = r) : l.find? p = some r := by
  cases hfind : l.find? p with
  | none => exact absurd hp (List.find?_eq_none.mp hfind r hr)
  | some q => rw [huniq q (List.mem_of_find?_eq_some hfind) (List.find?_some hfind)]

end

/-- Settles O15: the records of READ FRAMES by `framesData_record`, FIND FRAME by the one record that the numbers name. -/
theorem recordReadsAnswered : Obligations.RecordReadsAnswered := by
  unfold Obligations.RecordReadsAnswered
  intro s slot k hidle hk hfree
  refine ⟨fun frame count hc1 hc2 hf1 hf2 => ?read, fun sec group i hs1 hs2 hg1 hg2 hi1 hi2 => ?find⟩
  case read =>
    intro at' yes records
    have hreply : carryOut (.readFrames slot frame count) s = ⟨s, .ok, framesData k frame.toNat records⟩ := by
      rw [carryOut, State.readFrames, frameRequest_of_frame hk (decide_eq_true ⟨hc1, hc2⟩) hfree hf1 hf2]
      rfl
    have hlen : records.length ≤ 16 := Nat.le_trans (List.length_take_le ..) hc2
    refine ⟨_, receiveRequest_of_carryOut (.readFrames slot frame count) hidle rfl rfl hreply, framesData_length ..,
        ?_, ?_, ?_, ?_⟩
    · exact spelled_num8_of_lt (Nat.lt_trans k.isLt (by decide))
    · exact (spelled_num16 frame.toNat).trans (Nat.mod_eq_of_lt frame.isLt)
    · exact spelled_num8_of_lt (Nat.lt_of_le_of_lt hlen (by decide))
    · intro i r hr o source
      obtain ⟨hpos, hword, hfigure, hnote⟩ := framesData_record (k := k) (f := frame.toNat) hr
      rw [positionWord_eq] at hpos
      rw [recordWord_eq] at hword
      exact ⟨hpos, hword, hfigure, hnote⟩
  case find =>
    intro fits
    have hok : (hierarchyOk sec && hierarchyOk group && hierarchyOk i) = true :=
      hierarchyOk_all_iff.mpr ⟨⟨hs1, hs2⟩, ⟨hg1, hg2⟩, hi1, hi2⟩
    have hfits : ∀ r : FrameRecord,
        (r.sectionNo == sec.toNat && r.groupNo == group.toNat && r.indexNo == i.toNat) = true ↔ fits r := fun r => by
      simp only [Bool.and_eq_true, beq_iff_eq, and_assoc, fits]
    refine ⟨fun r hr hfit huniq => ?_, fun hno => ?_⟩
    · refine receiveRequest_of_carryOut (.findFrame slot sec group i) hidle rfl rfl
        (findFrame_of_found hk hfree hok (find?_of_unique hr ((hfits r).mpr hfit) fun q hq hp => huniq q hq ((hfits q).mp hp)))
    · refine receiveRequest_of_carryOut (.findFrame slot sec group i) hidle rfl rfl
        (findFrame_of_not_found hk hfree hok (List.find?_eq_none.mpr fun r hr hp => hno r hr ((hfits r).mp hp)))

end Sys2Proof.Machine
end


section
/-! PROOFS. The answers of the requests that only read, field by field, and of EVENTS (O14). -/

namespace Sys2Proof.Machine

/-! ## Codes and flags -/

/-- A flag as the number it is sent as. -/
def asBit (b : Bool) : Nat := if b then 1 else 0

theorem flag_eq_asBit (b : Bool) : flag b = asBit b := flag_eq b

theorem asBit_le (b : Bool) : asBit b ≤ 1 := by cases b <;> decide

theorem bitAt_zero_toNat (b : Bool) : (bitAt 0 b).toNat = asBit b := by cases b <;> rfl

theorem deckCode_le (d : DeckId) : deckCode d ≤ 1 := by cases d <;> decide

theorem deckCode_map_le (x : Option DeckId) : (x.map deckCode).getD 0 ≤ 1 := by
  cases x with
  | none => exact Nat.zero_le 1
  | some d => exact deckCode_le d

theorem deckState_code_eq (x : DeckState) : spelled [num8 x.code] =
    [DeckState.empty, .seated, .threading, .identifying, .ready, .shuttling, .indexing, .searching, .rewinding,
      .halted].idxOf x := by cases x <;> rfl

theorem entryState_code_eq (x : EntryState) : x.code = [EntryState.free, .listed, .mounted].idxOf x := by cases x <;> rfl

theorem entryState_code_le (x : EntryState) : x.code ≤ 2 := by cases x <;> decide

theorem width_code_eq (x : Option Width) : (x.map (·.code)).getD 0 = asBit (x == some .mm35) := by
  rcases x with _ | w
  · rfl
  · cases w <;> rfl

theorem ticketState_code_eq (x : TicketState) : spelled [num8 x.code] =
    [TicketState.free, .awaitRoll, .queued, .indexing, .moving, .searching, .focusing, .exposing, .done, .failed,
      .cancelled].idxOf x := by cases x <;> rfl

theorem ticketKind_code_eq (x : TicketKind) : x.code = [TicketKind.fetch, .range, .locate, .focus, .index].idxOf x := by
  cases x <;> rfl

theorem ticketOutcome_code_eq (x : Option TicketOutcome) : spelled [num8 ((x.map (·.code)).getD 0)] =
    (x.map fun o => [TicketOutcome.completed, .cancelled, .removed, .halted, .unlisted, .lost, .notFound, .poolFull,
      .cameraTimeout, .cameraAbsent, .cameraRefused, .pathFault].idxOf o).getD 0 := by
  rcases x with _ | o
  · rfl
  · cases o <;> rfl

theorem companion_haltCause (x : Option HaltCause) : spelled [companion (x.map (·.code))] = (x.map fun c =>
    128 + [HaltCause.tensionHigh, .tensionLow, .driveFault, .runout, .noLeader].idxOf c).getD 0 := by
  rcases x with _ | c
  · rfl
  · cases c <;> rfl

theorem companion_mountOutcome (x : Option MountOutcome) : spelled [companion (x.map (·.code))] = (x.map fun c =>
    128 + [MountOutcome.known, .newRoll, .transient, .duplicateTag, .widthMismatch, .catalogueFull, .resumed].idxOf c).getD
      0 := by
  rcases x with _ | c
  · rfl
  · cases c <;> rfl

theorem policy_code_eq (x : Policy) : spelled [num8 x.code] = [Policy.off, .onDemand, .track].idxOf x := by cases x <;> rfl

theorem sweepOutcome_code_eq (x : SweepOutcome) : x.code = asBit (x == .soft) := by cases x <;> rfl

theorem path_code_eq (p : PathState) : spelled [num8 p.code] = match p with
    | .atGate g => deckCode g
    | .moving g => 2 + deckCode g
    | .fault _ => 4 := by
  cases p with
  | atGate g => cases g <;> rfl
  | moving g => cases g <;> rfl
  | fault g => rfl

theorem holder_code_eq (x : Option DeckId) : spelled [num8 ((x.map fun d => deckCode d + 1).getD 0)] = match x with
    | none => 0
    | some d => 1 + deckCode d := by
  rcases x with _ | d
  · rfl
  · cases d <;> rfl

/-- What STATUS shows of a lens (10.5). -/
def lensShown (l : Lens) : Nat × Option Nat :=
  match l with
  | .unhomed => (0, none)
  | .homing _ _ => (1, none)
  | .idle p => (2, some p)
  | .moving p _ => (3, some p)

theorem lensShown_eq (l : Lens) : lensShown l = (l.code, l.position?) := by cases l <;> rfl

theorem lens_code_le (l : Lens) : l.code ≤ 3 := by cases l <;> simp [Lens.code]

theorem lens_byte_eq (l : Lens) : spelled [num8 (l.code + 2 ^ 7 * flag l.position?.isSome)] =
    (lensShown l).1 + 2 ^ 7 * asBit (lensShown l).2.isSome := by
  have hcode := lens_code_le l
  have hflag := flag_le l.position?.isSome
  rw [spelled_num8_of_lt (by omega), lensShown_eq, flag_eq_asBit]

/-! ## STATUS, EVENTS and the parameters -/

/-- The fields of deck `d` in STATUS (10.5). -/
theorem statusData_deck (s : State) (d : DeckId) :
    let data := statusData s
    let o := 13 * deckCode d
    let k := s.deck d
    field data o 1 = [DeckState.empty, .seated, .threading, .identifying, .ready, .shuttling, .indexing, .searching,
      .rewinding, .halted].idxOf k.state ∧
    field data (o + 1) 3 = (2 ^ 23 * asBit k.anchored + k.counter) % 2 ^ 24 ∧
    field data (o + 4) 1 = (lensShown (s.lens d)).1 + 2 ^ 7 * asBit (lensShown (s.lens d)).2.isSome ∧
    field data (o + 5) 2 = (lensShown (s.lens d)).2.getD 0 % 2 ^ 16 ∧
    field data (o + 7) 2 = (s.mark d).classified.toNat ∧ field data (o + 9) 2 = (s.mark d).noise.toNat ∧
    field data (o + 11) 2 = (s.mark d).fault.toNat := by
  obtain ⟨rest, hrest⟩ : ∃ rest, (statusData s).drop (13 * deckCode d) = statusDeck s d ++ rest := by
    cases d <;> exact ⟨_, rfl⟩
  have hfield : ∀ j n, field (statusData s) (13 * deckCode d + j) n = field (statusDeck s d ++ rest) j n := fun j n => by
    rw [field_drop, hrest]
  refine ⟨(hfield 0 1).trans (deckState_code_eq _), (hfield 1 3).trans ((spelled_num24 _).trans (by rw [flag_eq_asBit])),
    (hfield 4 1).trans (lens_byte_eq _), (hfield 5 2).trans ((spelled_num16 _).trans (by rw [lensShown_eq])),
    (hfield 7 2).trans (spelled_bytes16 _), (hfield 9 2).trans (spelled_bytes16 _), (hfield 11 2).trans (spelled_bytes16 _)⟩

/-- The twelve bytes of STATUS that name no deck (10.5). -/
theorem statusData_shared (s : State) :
    let data := statusData s
    field data 26 1 = (match s.opa.path with
      | .atGate g => deckCode g
      | .moving g => 2 + deckCode g
      | .fault _ => 4) ∧
    field data 27 1 = (match s.opa.holder with
      | none => 0
      | some d => 1 + deckCode d) ∧
    field data 28 2 = s.freeCount % 2 ^ 16 ∧ field data 30 2 = s.fseq.skippedTrack.toNat ∧
    field data 32 2 = s.hlp.stale.toNat ∧ field data 34 2 = s.hlp.bad.toNat ∧ field data 36 2 = s.hlp.holdConflict.toNat := by
  have hfield : ∀ j n, field (statusData s) (26 + j) n =
      field ([num8 s.opa.path.code, num8 ((s.opa.holder.map fun d => deckCode d + 1).getD 0)] ++ num16 s.freeCount ++
        bytes16 s.fseq.skippedTrack ++ bytes16 s.hlp.stale ++ bytes16 s.hlp.bad ++ bytes16 s.hlp.holdConflict) j n :=
    fun j n => by rw [field_drop]; rfl
  exact ⟨(hfield 0 1).trans (path_code_eq _), (hfield 1 1).trans (holder_code_eq _), (hfield 2 2).trans (spelled_num16 _),
    (hfield 4 2).trans (spelled_bytes16 _), (hfield 6 2).trans (spelled_bytes16 _), (hfield 8 2).trans (spelled_bytes16 _),
    (hfield 10 2).trans (spelled_bytes16 _)⟩

theorem eventSet_byte_eq (e : EventSet) : spelled [e.byte] = asBit e.seated + 2 * asBit e.removed + 4 * asBit e.mounted +
    8 * asBit e.unmounted + 16 * asBit e.halted + 32 * asBit e.seatFault := by
  have h1 := asBit_le e.seated
  have h2 := asBit_le e.removed
  have h3 := asBit_le e.mounted
  have h4 := asBit_le e.unmounted
  have h5 := asBit_le e.halted
  have h6 := asBit_le e.seatFault
  simp only [EventSet.byte, flag_eq_asBit]
  exact spelled_num8_of_lt (by omega)

theorem mask_byte_eq (m : Mask) : spelled [num8 (flag m.tickets + 2 * flag m.decks + 4 * flag m.link)] =
    asBit m.tickets + 2 * asBit m.decks + 4 * asBit m.link := by
  have h1 := asBit_le m.tickets
  have h2 := asBit_le m.decks
  have h3 := asBit_le m.link
  simp only [flag_eq_asBit]
  exact spelled_num8_of_lt (by omega)

/-- The fields of a deck's band in a parameter block (10.10). -/
theorem paramsData_band (p : Params) (d : DeckId) :
    let o := 6 + 5 * deckCode d
    field (paramsData p) o 2 = (p.bands.get d).low % 2 ^ 16 ∧ field (paramsData p) (o + 2) 2 = (p.bands.get d).high % 2 ^ 16 ∧
      field (paramsData p) (o + 4) 1 = (p.bands.get d).limit % 2 ^ 8 := by
  cases d with
  | a => exact ⟨spelled_num16 p.bands.a.low, spelled_num16 p.bands.a.high, spelled_num8 p.bands.a.limit⟩
  | b => exact ⟨spelled_num16 p.bands.b.low, spelled_num16 p.bands.b.high, spelled_num8 p.bands.b.limit⟩

/-- The fields of a parameter block that name no deck (10.10). -/
theorem paramsData_shared (p : Params) :
    let data := paramsData p
    (field data 0 1 = p.window % 2 ^ 8 ∧ field data 1 2 = p.span % 2 ^ 16 ∧ field data 3 1 = p.m1 % 2 ^ 8 ∧
      field data 4 1 = p.m2 % 2 ^ 8 ∧ field data 5 1 = p.m3 % 2 ^ 8) ∧
    field data 16 2 = p.headTimeout % 2 ^ 16 ∧ field data 18 1 = p.tenureLimit % 2 ^ 8 ∧
      field data 19 1 = [Policy.off, .onDemand, .track].idxOf p.policy ∧ field data 20 1 = p.trackInterval % 2 ^ 8 ∧
      field data 21 2 = p.floor % 2 ^ 16 ∧
      field data 23 1 = asBit p.mask.tickets + 2 * asBit p.mask.decks + 4 * asBit p.mask.link := by
  refine ⟨⟨spelled_num8 p.window, spelled_num16 p.span, spelled_num8 p.m1, spelled_num8 p.m2, spelled_num8 p.m3⟩, ?_⟩
  have hfield : ∀ j n, field (paramsData p) (16 + j) n = field (num16 p.headTimeout ++
      [num8 p.tenureLimit, num8 p.policy.code, num8 p.trackInterval] ++ num16 p.floor ++
      [num8 (flag p.mask.tickets + 2 * flag p.mask.decks + 4 * flag p.mask.link)]) j n :=
    fun j n => by rw [field_drop]; rfl
  exact ⟨(hfield 0 2).trans (spelled_num16 _), (hfield 2 1).trans (spelled_num8 _), (hfield 3 1).trans (policy_code_eq _),
    (hfield 4 1).trans (spelled_num8 _), (hfield 5 2).trans (spelled_num16 _), (hfield 7 1).trans (mask_byte_eq _)⟩

/-! ## The sweep plan and result -/

/-- A step of a plan as sent (10.9). -/
def stepData (x : PlanStep) : List Byte := bitAt 0 x.enabled :: signed16 x.offset

theorem planData_eq (p : Plan) : planData p = p.steps.toList.flatMap stepData ++ [bitAt 0 p.extension, num8 p.pause] := rfl

theorem planSteps_length (p : Plan) : (p.steps.toList.flatMap stepData).length = 36 := by
  rw [length_flatMap_of_length (c := 3) (fun _ => rfl), Vector.length_toList]

theorem spelled_signed16 (n : Int) : ((spelled (signed16 n) : Nat) : Int) = n % 2 ^ 16 := by
  rw [signed16, spelled_bytes16, BitVec.toNat_ofInt, Int.toNat_of_nonneg (Int.emod_nonneg _ (by decide))]
  rfl

theorem planData_step (p : Plan) (i : Fin 12) : field (planData p) (3 * i.val) 1 = asBit (p.steps.get i).enabled ∧
    ((field (planData p) (3 * i.val + 1) 2 : Nat) : Int) = (p.steps.get i).offset % 2 ^ 16 := by
  have hi : p.steps.toList[i.val]? = some (p.steps.get i) := by
    rw [List.getElem?_eq_getElem (by simp)]
    rfl
  obtain ⟨rest, hrest⟩ := drop_flatMap_of_length (f := stepData) (c := 3) (fun _ => rfl) hi [bitAt 0 p.extension, num8 p.pause]
  have hfield : ∀ j n, field (planData p) (3 * i.val + j) n = field (stepData (p.steps.get i) ++ rest) j n := fun j n => by
    rw [field_drop, planData_eq, hrest]
  refine ⟨(hfield 0 1).trans ((spelled_byte _).trans (bitAt_zero_toNat _)), ?_⟩
  rw [hfield 1 2]
  exact spelled_signed16 _

theorem planData_tail (p : Plan) : field (planData p) 36 1 = asBit p.extension ∧ field (planData p) 37 1 = p.pause % 2 ^ 8 := by
  have hfield : ∀ j n, field (planData p) (36 + j) n = field [bitAt 0 p.extension, num8 p.pause] j n := fun j n => by
    rw [field_drop, planData_eq, ← planSteps_length p, List.drop_left]
  exact ⟨(hfield 0 1).trans ((spelled_byte _).trans (bitAt_zero_toNat _)), (hfield 1 1).trans (spelled_num8 _)⟩

/-- The sweep in progress as READ SWEEP RESULT shows it (10.9). -/
def sweepShown (q : Fseq) : Nat := 2 * asBit q.sweep.isSome + 4 * ((q.sweep.map fun w => deckCode w.deck).getD 0)

theorem sweepShown_le (q : Fseq) : sweepShown q ≤ 6 := by
  have h1 := asBit_le q.sweep.isSome
  have h2 : (q.sweep.map fun w => deckCode w.deck).getD 0 ≤ 1 := by
    cases q.sweep with
    | none => exact Nat.zero_le 1
    | some w => exact deckCode_le w.deck
  unfold sweepShown
  omega

theorem resultData_of_none {q : Fseq} (h : q.result = none) : resultData q = num8 (sweepShown q) :: List.replicate 10 0 := by
  simp only [resultData, h, flag_eq_asBit]
  rfl

/-- The eleven bytes before the figures of a sweep result (10.9). -/
def resultHead (q : Fseq) (r : SweepResult) : List Byte :=
  [num8 (1 + sweepShown q + 8 * deckCode r.deck + 16 * asBit (r.outcome == .soft) + 32 * asBit r.setpoint.isSome),
    num8 r.slot.val] ++ num16 r.frame ++ num16 r.centre ++ [num8 r.pass, num8 r.best, num8 r.figures.length] ++
    num16 (r.setpoint.getD 0)

theorem resultData_of_some {q : Fseq} {r : SweepResult} (h : q.result = some r) :
    resultData q = resultHead q r ++ r.figures.flatMap figureData := by
  simp only [resultData, h, flag_eq_asBit, sweepOutcome_code_eq]
  rfl

theorem resultData_figure {q : Fseq} {r : SweepResult} (h : q.result = some r) {i : Nat} {f : Figure}
    (hf : r.figures[i]? = some f) : field (resultData q) (11 + 3 * i) 1 = f.step % 2 ^ 8 ∧
      field (resultData q) (11 + 3 * i + 1) 2 = f.figure % 2 ^ 16 := by
  obtain ⟨rest, hrest⟩ := drop_flatMap_of_length (f := figureData) (c := 3) (fun _ => rfl) hf []
  have hdrop : (resultData q).drop (11 + 3 * i) = figureData f ++ rest := by
    rw [← List.drop_drop, ← hrest, List.append_nil, resultData_of_some h]
    rfl
  have hfield : ∀ j n, field (resultData q) (11 + 3 * i + j) n = field (figureData f ++ rest) j n := fun j n => by
    rw [field_drop, hdrop]
  exact ⟨(hfield 0 1).trans (spelled_num8 _), (hfield 1 2).trans (spelled_num16 _)⟩

theorem resultHead_first (q : Fseq) (r : SweepResult) : field (resultHead q r) 0 1 =
    1 + sweepShown q + 8 * deckCode r.deck + 16 * asBit (r.outcome == .soft) + 32 * asBit r.setpoint.isSome := by
  have h1 := sweepShown_le q
  have h2 := deckCode_le r.deck
  have h3 := asBit_le (r.outcome == .soft)
  have h4 := asBit_le r.setpoint.isSome
  exact spelled_num8_of_lt (by omega)

/-! ## Entries and tickets -/

theorem entry_state_byte (e : Entry) : spelled [num8 (e.state.code + 4 * flag e.deck.isSome +
    8 * ((e.deck.map deckCode).getD 0) + 16 * flag e.width.isSome + 32 * ((e.width.map (·.code)).getD 0) +
    64 * flag e.releasePending)] =
      [EntryState.free, .listed, .mounted].idxOf e.state + 4 * asBit e.deck.isSome + 8 * ((e.deck.map deckCode).getD 0) +
        16 * asBit e.width.isSome + 32 * asBit (e.width == some .mm35) + 64 * asBit e.releasePending := by
  have h1 := entryState_code_le e.state
  have h2 := asBit_le e.deck.isSome
  have h3 := deckCode_map_le e.deck
  have h4 := asBit_le e.width.isSome
  have h5 := asBit_le (e.width == some .mm35)
  have h6 := asBit_le e.releasePending
  simp only [flag_eq_asBit, width_code_eq, ← entryState_code_eq]
  exact spelled_num8_of_lt (by omega)

theorem entry_flag_byte (e : Entry) : spelled [num8 (flag e.complete + 2 * flag e.indexFull + 4 * flag e.interrupted +
    8 * flag e.tag.isSome + 16 * flag e.lastSetpoint.isSome)] =
      asBit e.complete + 2 * asBit e.indexFull + 4 * asBit e.interrupted + 8 * asBit e.tag.isSome +
        16 * asBit e.lastSetpoint.isSome := by
  have h1 := asBit_le e.complete
  have h2 := asBit_le e.indexFull
  have h3 := asBit_le e.interrupted
  have h4 := asBit_le e.tag.isSome
  have h5 := asBit_le e.lastSetpoint.isSome
  simp only [flag_eq_asBit]
  exact spelled_num8_of_lt (by omega)

theorem ticket_flag_byte (x : Ticket) : spelled [num8 (flag x.kind.isSome + 2 * flag x.first.isSome +
    4 * flag x.current.isSome + 8 * flag x.firstId.isSome + 16 * flag x.lastId.isSome + 32 * flag x.outcome.isSome +
    64 * flag x.failedFrame.isSome)] =
      asBit x.kind.isSome + 2 * asBit x.first.isSome + 4 * asBit x.current.isSome + 8 * asBit x.firstId.isSome +
        16 * asBit x.lastId.isSome + 32 * asBit x.outcome.isSome + 64 * asBit x.failedFrame.isSome := by
  have h1 := asBit_le x.kind.isSome
  have h2 := asBit_le x.first.isSome
  have h3 := asBit_le x.current.isSome
  have h4 := asBit_le x.firstId.isSome
  have h5 := asBit_le x.lastId.isSome
  have h6 := asBit_le x.outcome.isSome
  have h7 := asBit_le x.failedFrame.isSome
  simp only [flag_eq_asBit]
  exact spelled_num8_of_lt (by omega)

theorem ticket_kind_byte (x : Ticket) : spelled [num8 ((x.kind.map (·.code)).getD 0 + 8 * flag x.extend + 16 * x.priority +
    64 * flag x.pathWait + 128 * flag x.cancelPending)] =
      ((x.kind.map fun k => [TicketKind.fetch, .range, .locate, .focus, .index].idxOf k).getD 0 + 8 * asBit x.extend +
        16 * x.priority + 64 * asBit x.pathWait + 128 * asBit x.cancelPending) % 2 ^ 8 := by
  simp only [flag_eq_asBit, ticketKind_code_eq]
  exact spelled_num8 _

theorem slot_byte (k : Slot) : spelled [num8 k.val] = k.val := spelled_num8_of_lt (Nat.lt_trans k.isLt (by decide))

theorem slot_option_byte (x : Option Slot) : spelled [num8 ((x.map (·.val)).getD 0)] = (x.map fun k => k.val).getD 0 := by
  cases x with
  | none => rfl
  | some k => exact slot_byte k

/-- The fields of an entry's answer (10.6). -/
theorem entryData_fields (k : Slot) (e : Entry) :
    let data := entryData k e
    field data 0 1 = k.val ∧
    field data 1 1 = [EntryState.free, .listed, .mounted].idxOf e.state + 4 * asBit e.deck.isSome +
      8 * ((e.deck.map deckCode).getD 0) + 16 * asBit e.width.isSome + 32 * asBit (e.width == some .mm35) +
      64 * asBit e.releasePending ∧
    field data 2 1 = asBit e.complete + 2 * asBit e.indexFull + 4 * asBit e.interrupted + 8 * asBit e.tag.isSome +
      16 * asBit e.lastSetpoint.isSome ∧
    field data 3 3 = e.tag.getD 0 % 2 ^ 24 ∧ field data 6 2 = e.frameCount % 2 ^ 16 ∧ field data 8 3 = e.extent % 2 ^ 24 ∧
    field data 11 2 = e.lastSetpoint.getD 0 % 2 ^ 16 ∧ field data 13 1 = e.ticketCount % 2 ^ 8 ∧
    field data 14 2 = e.stray % 2 ^ 16 ∧ field data 16 2 = e.correction % 2 ^ 16 :=
  ⟨slot_byte k, entry_state_byte e, entry_flag_byte e, spelled_num24 (e.tag.getD 0), spelled_num16 e.frameCount,
    spelled_num24 e.extent, spelled_num16 (e.lastSetpoint.getD 0), spelled_num8 e.ticketCount, spelled_num16 e.stray,
    spelled_num16 e.correction⟩

/-- The fields of a ticket's answer before its frame numbers (10.8). -/
theorem ticketData_head (t : TicketNo) (x : Ticket) :
    let data := ticketData t x
    field data 0 1 = t.val ∧
    field data 1 1 = [TicketState.free, .awaitRoll, .queued, .indexing, .moving, .searching, .focusing, .exposing, .done,
      .failed, .cancelled].idxOf x.state ∧
    field data 2 1 = asBit x.kind.isSome + 2 * asBit x.first.isSome + 4 * asBit x.current.isSome +
      8 * asBit x.firstId.isSome + 16 * asBit x.lastId.isSome + 32 * asBit x.outcome.isSome + 64 * asBit x.failedFrame.isSome ∧
    field data 3 1 = ((x.kind.map fun k => [TicketKind.fetch, .range, .locate, .focus, .index].idxOf k).getD 0 +
      8 * asBit x.extend + 16 * x.priority + 64 * asBit x.pathWait + 128 * asBit x.cancelPending) % 2 ^ 8 ∧
    field data 4 1 = (x.slot.map fun k => k.val).getD 0 :=
  ⟨slot_byte t, ticketState_code_eq x.state, ticket_flag_byte x, ticket_kind_byte x, slot_option_byte x.slot⟩

/-- The frame numbers and counts of a ticket, its image identifiers, and its end (10.8). -/
theorem ticketData_tail (t : TicketNo) (x : Ticket) :
    let data := ticketData t x
    field data 5 2 = x.first.getD 0 % 2 ^ 16 ∧ field data 7 2 = x.last.getD 0 % 2 ^ 16 ∧
    field data 9 2 = x.current.getD 0 % 2 ^ 16 ∧ field data 11 2 = x.captured % 2 ^ 16 ∧ field data 13 2 = x.skipped % 2 ^ 16 ∧
    field data 15 2 = x.soft % 2 ^ 16 ∧ field data 17 4 = (x.firstId.getD 0).toNat ∧
    field data 21 4 = (x.lastId.getD 0).toNat ∧
    field data 25 1 = (x.outcome.map fun o => [TicketOutcome.completed, .cancelled, .removed, .halted, .unlisted, .lost,
      .notFound, .poolFull, .cameraTimeout, .cameraAbsent, .cameraRefused, .pathFault].idxOf o).getD 0 ∧
    field data 26 2 = x.failedFrame.getD 0 % 2 ^ 16 := by
  have hfield : ∀ j n, field (ticketData t x) (5 + j) n = field (num16 (x.first.getD 0) ++ num16 (x.last.getD 0) ++
      num16 (x.current.getD 0) ++ num16 x.captured ++ num16 x.skipped ++ num16 x.soft ++ bytes32 (x.firstId.getD 0) ++
      bytes32 (x.lastId.getD 0) ++ [num8 ((x.outcome.map (·.code)).getD 0)] ++ num16 (x.failedFrame.getD 0)) j n :=
    fun j n => by rw [field_drop]; rfl
  exact ⟨(hfield 0 2).trans (spelled_num16 _), (hfield 2 2).trans (spelled_num16 _), (hfield 4 2).trans (spelled_num16 _),
    (hfield 6 2).trans (spelled_num16 _), (hfield 8 2).trans (spelled_num16 _), (hfield 10 2).trans (spelled_num16 _),
    (hfield 12 4).trans (spelled_bytes32 _), (hfield 16 4).trans (spelled_bytes32 _),
    (hfield 20 1).trans (ticketOutcome_code_eq _), (hfield 21 2).trans (spelled_num16 _)⟩

/-- The fields of a deck in EVENTS (10.5). -/
theorem eventsData_fields (s : State) (d : DeckId) :
    let data := eventsData s
    let o := 3 * deckCode d
    let k := s.deck d
    field data o 1 = asBit k.events.seated + 2 * asBit k.events.removed + 4 * asBit k.events.mounted +
      8 * asBit k.events.unmounted + 16 * asBit k.events.halted + 32 * asBit k.events.seatFault ∧
    field data (o + 1) 1 = (k.lastHalt.map fun c =>
      128 + [HaltCause.tensionHigh, .tensionLow, .driveFault, .runout, .noLeader].idxOf c).getD 0 ∧
    field data (o + 2) 1 = (k.lastMount.map fun c => 128 + [MountOutcome.known, .newRoll, .transient, .duplicateTag,
      .widthMismatch, .catalogueFull, .resumed].idxOf c).getD 0 := by
  intro data o k
  cases d with
  | a => exact ⟨eventSet_byte_eq k.events, companion_haltCause k.lastHalt, companion_mountOutcome k.lastMount⟩
  | b => exact ⟨eventSet_byte_eq k.events, companion_haltCause k.lastHalt, companion_mountOutcome k.lastMount⟩

theorem statusData_length (s : State) : (statusData s).length = 38 := by
  simp [statusData, statusDeck, num16, num24, bytes16, bytes24]

theorem paramsData_length (p : Params) : (paramsData p).length = 24 := by simp [paramsData, num16, bytes16]

theorem entryData_length (k : Slot) (e : Entry) : (entryData k e).length = 18 := by
  simp [entryData, num16, num24, bytes16, bytes24]

theorem ticketData_length (t : TicketNo) (x : Ticket) : (ticketData t x).length = 28 := by
  simp [ticketData, num16, bytes16, bytes32]

/-- Settles O14: each field of the answer data is the bytes of one number, read back by the lemma on its width or its code. -/
theorem linkReadsAndEventsAnswered : Obligations.LinkReadsAndEventsAnswered := by
  unfold Obligations.LinkReadsAndEventsAnswered
  intro s hidle at' yes deckNo
  have hlens : ∀ l : Lens, lensShown l = match l with
      | .unhomed => (0, none)
      | .homing _ _ => (1, none)
      | .idle p => (2, some p)
      | .moving p _ => (3, some p) := fun l => by cases l <;> rfl
  refine ⟨?status, ?params, ?plan, ?result, fun b k hb => ?roll, fun b t hb => ?ticket, fun b hb => ?refused, ?events⟩
  case status =>
    refine ⟨_, receiveRequest_of_carryOut .status hidle rfl rfl rfl, statusData_length s, fun d => ?_, statusData_shared s⟩
    intro o k lens
    have h := statusData_deck s d
    rw [hlens] at h
    exact h
  case params =>
    refine ⟨_, receiveRequest_of_carryOut .readParameters hidle rfl rfl rfl, paramsData_length s.params, ?_⟩
    intro p
    obtain ⟨⟨hwindow, hspan, hm1, hm2, hm3⟩, hrest⟩ := paramsData_shared p
    exact ⟨hwindow, hspan, hm1, hm2, hm3, paramsData_band p, hrest⟩
  case plan =>
    obtain ⟨hext, hpause⟩ := planData_tail s.fseq.plan
    refine ⟨_, receiveRequest_of_carryOut .readSweepPlan hidle rfl rfl rfl, ?_, planData_step s.fseq.plan, hext, hpause⟩
    rw [planData_eq, List.length_append, planSteps_length]
    rfl
  case result =>
    refine ⟨_, receiveRequest_of_carryOut .readSweepResult hidle rfl rfl rfl, ?_⟩
    intro now
    refine ⟨fun h => ?_, fun r h => ?_⟩
    · rw [resultData_of_none h]
      exact ⟨rfl, spelled_num8_of_lt (Nat.lt_of_le_of_lt (sweepShown_le s.fseq) (by decide)), rfl⟩
    · have hfigures : ∀ (i : Nat) (f : Figure), r.figures[i]? = some f →
          field (resultData s.fseq) (11 + 3 * i) 1 = f.step % 2 ^ 8 ∧
            field (resultData s.fseq) (12 + 3 * i) 2 = f.figure % 2 ^ 16 := fun i f hf => by
        have hf' := resultData_figure h hf
        rwa [show 11 + 3 * i + 1 = 12 + 3 * i by omega] at hf'
      have hlen : (resultData s.fseq).length = 11 + 3 * r.figures.length := by
        rw [resultData_of_some h, List.length_append, length_flatMap_of_length (c := 3) (fun _ => rfl)]
        rfl
      refine ⟨hlen, ?_, ?_, ?_, ?_, ?_, ?_, ?_, ?_, hfigures⟩
      all_goals rw [resultData_of_some h]
      · exact resultHead_first s.fseq r
      · exact slot_byte r.slot
      · exact spelled_num16 r.frame
      · exact spelled_num16 r.centre
      · exact spelled_num8 r.pass
      · exact spelled_num8 r.best
      · exact spelled_num8 r.figures.length
      · exact spelled_num16 (r.setpoint.getD 0)
  case roll =>
    have hreply : carryOut (.readRoll b) s = ⟨s, .ok, entryData k (s.entry k)⟩ := by
      simp only [carryOut, State.readRoll, slotOf_of_toNat_eq hb, State.answer]
    refine ⟨_, receiveRequest_of_carryOut (.readRoll b) hidle rfl rfl hreply, entryData_length k _, ?_⟩
    exact entryData_fields k (s.entry k)
  case ticket =>
    have hreply : carryOut (.queryTicket b) s = ⟨s, .ok, ticketData t (s.ticket t)⟩ := by
      simp only [carryOut, State.queryTicket, ticketOf_of_toNat_eq hb, State.answer]
    refine ⟨_, receiveRequest_of_carryOut (.queryTicket b) hidle rfl rfl hreply, ticketData_length t _, ?_⟩
    obtain ⟨hnumber, hstate, hflags, hkind, hslot⟩ := ticketData_head t (s.ticket t)
    exact ⟨hnumber, hstate, hflags, hkind, hslot, ticketData_tail t (s.ticket t)⟩
  case refused =>
    refine ⟨receiveRequest_of_carryOut (.readRoll b) hidle rfl rfl ?_,
        receiveRequest_of_carryOut (.queryTicket b) hidle rfl rfl ?_⟩
    · simp only [carryOut, State.readRoll, slotOf_of_ge hb, State.refuse]
    · simp only [carryOut, State.queryTicket, ticketOf_of_ge hb, State.refuse]
  case events =>
    exact ⟨_, receiveRequest_of_carryOut .events hidle rfl rfl rfl, rfl, eventsData_fields s⟩

end Sys2Proof.Machine
end
